-- ==== Sys2Proof/Word.lean ====
section
/-! DEFINITION. The word types of the DZ-8 (R13: bit 0 is the least significant bit of any field). -/

namespace Sys2Proof

/-- A byte of a packet, a window, a journal record or a memory cell (R13). -/
abbrev Byte := BitVec 8
/-- A 16-bit field: a parameter word of a port, a signal value, an output code. -/
abbrev Half := BitVec 16
/-- A 32-bit host register, a sequence number or a coded word of the engine. -/
abbrev Word := BitVec 32
/-- A 64-bit field: the time counter, a link seed, an entropy word. -/
abbrev DWord := BitVec 64
/-- One 192-bit frame of a Rosox link, bit 0 sent first (R77). -/
abbrev Frame := BitVec 192

end Sys2Proof
end

