-- ==== Sys2Proof/Syntax.lean ====
section
/-! DEFINITION. The commands of the block: one constructor for each row of the table of operations and events.
An operand is what the outside world settles when the step happens: the bytes of a packet or a window access,
a frame on a link, a measurement at a pin, the result of a test of the hardware. -/

namespace Sys2Proof

/-- Where a command is cut off in its work. -/
inductive Cut where
  | outcome                  -- its outcome entry, before the NVA copy was whole (R250)
  | fuse (work : Nat)        -- its fuse programming, after so many pieces of work (R334, R340, R341)
deriving DecidableEq, Repr

/-- What a loss of power or clock does to what is in hand (R250, R251): no write under way; the journal writer's next record, torn
before NVA compared or with NVA whole; a parameter record; the ACCEPT chain of an arriving packet, given by its raw bytes, with a
number of whole entries and the next one whole in NVA or not; the newest outcome entry, whole in NVA only; or the command that an
arriving packet lets execute once so many others have ended, cut off in its work. -/
inductive Tear where
  | none
  | beforeNva
  | afterNva
  | parameter
  | accept (raw : List Byte) (whole : Nat) (nva : Bool)
  | outcome
  | command (raw : List Byte) (ended : Nat) (cut : Cut)
deriving DecidableEq, Repr

/-- What an IDENT frame of a port says (Table 4-5), as seen in boot step 9. -/
structure IdentSeen where
  rev    : Byte
  straps : BitVec 3
deriving DecidableEq, Repr

/-- What the outside world and the hardware's own tests settle in one boot (Table 3-3). -/
structure BootInputs where
  addr     : BitVec 2                 -- ADDR1:ADDR0 at the end of step 1 (R379)
  testmode : Bool                     -- TESTMODE in step 1 (R378)
  romOk    : Bool                     -- step 4: ROM CRC
  sramOk   : Bool                     -- step 4: SRAM march test
  sramAddr : Word                     -- step 4: the address at which it failed (Table 3-11)
  monTest1 : Bool                     -- step 4: the flag of monitor test 1 set (R28)
  monTest2 : Bool                     -- step 4: the flag of monitor test 2 set (R28)
  romHash  : BitVec 256               -- the hash recorded in ROM that the ROM CRC covers (R343 check 3)
  nvaOk    : Bool                     -- step 6: NVA boot test (R257)
  nvbOk    : Bool                     -- step 6: NVB boot test (R257)
  nvaAddr  : Word                     -- step 6: the address at which NVA failed its test (Table 12-8)
  nvbAddr  : Word                     -- step 6: the address at which NVB failed its test
  badCopies : List (Bool × Nat)       -- step 6: entries whose copy in NVB or NVA, at this offset, fails its CHECK (R251)
  aorfNoise : BitVec 16               -- bits of the AORF check found changed since it was written (R67)
  entropyRaw : List Bool              -- the raw bits of the start-up test that begins with step 4 (R238)
  retestRaw : List Bool               -- step 6: the raw bits of the start-up test of a resumed ENTROPY_RETEST (Table 14-7)
  wakeHigh : Bool                     -- WAKE at the end of step 6 (R348)
  cfgCrcOk : Bool                     -- step 7: the CRC of the active configuration as read
  idents   : List (Option IdentSeen)  -- step 9: the IDENT of each started link, link 0 first
  bootUs   : BitVec 24                -- boot time in µs (R68)
deriving DecidableEq, Repr

/-- One received IRIG-B frame (R36, R37). -/
structure IrigFrame where
  fmt        : Fin 8                  -- B000 to B007
  positionOk : Bool                   -- every position identifier in place
  bcdOk      : Bool                   -- every BCD digit legal
  second     : Nat                    -- BCD seconds, 0 to 60
  minute     : Nat
  hour       : Nat
  day        : Nat                    -- day of the year, 1 to 366
  bcdYear    : Nat                    -- two digits, the BCD year field
  sbs        : Nat                    -- straight binary seconds of day
  cfYear     : Option Nat             -- control functions: two-digit year, if carried
  leapPending : Bool
  leapDelete : Bool
  offsetHalfHours : Int               -- local time offset, in half hours
deriving DecidableEq, Repr

/-- How one attempt of an attention write ended on the bus (R272, R274). -/
inductive BusResult where
  | acked
  | nacked
  | lost (backoffUs : Byte)           -- arbitration lost; the random backoff drawn
deriving DecidableEq, Repr

/-- What the hardware settles for one scan (Table 7-1, R147, R154). -/
structure ScanEnv where
  released   : Bool                   -- the management core issued the scan release
  phase4Done : Bool                   -- phase 4 of the preceding scan had completed
  canaryRejected : Bool               -- the checker rejected the canary
  coderOk    : Bool                   -- the coder test passed
  operatorOk : Bool                   -- the operator vector gave its recorded result
  misorder   : Option (List Nat)      -- the blocks as the engine evaluated them, where a fault broke the compiler's order
  flips      : List (Nat × Word)      -- upsets after the take-over, of memory or of what a failing macro returned of the active
                                      -- bank (R257): signal index, bits that flip
  execUs     : Half                   -- execution time of phases 1 to 4
deriving DecidableEq, Repr

/-- An input pin as its front end sees it at one sample (Tables 5-1, 20-5). -/
structure InputRead where
  milliVolts : Nat
  microAmps  : Nat
deriving DecidableEq, Repr

/-- What one microsecond of a dark pulse shows (R111): the source pin and the inputs, IN1 first. -/
structure DarkTick where
  pinMilliVolts : Nat
  inputs        : List InputRead
deriving DecidableEq, Repr

/-- What an OFF-test showed (R124): each switch seen open within its step. -/
structure OffSeen where
  highOpened : Bool
  lowOpened  : Bool
deriving DecidableEq, Repr

/-- What an ON-test showed (R125): voltage and current of each step. -/
structure OnSeen where
  lowVolt  : Bool                     -- QcN below 2 V with the low side closed alone
  lowCurr  : Bool                     -- low-side current below 10 mA
  highVolt : Bool                     -- QcP above UF2 - 2 V with the high side closed alone
  highCurr : Bool                     -- high-side current below 10 mA
deriving DecidableEq, Repr

/-- One constructor for each row of the table of operations and events. -/
inductive Instr where
  -- supply, resets and boot
  | powerOn (tear : Tear)
  | brownOut (tear : Tear)
  | pin
  | watchdog
  | clockWindowTrip (why : BitVec 3) (tear : Tear)
  | clockWindowRelease
  | dormantWake (byNrst : Bool)
  | boot (b : BootInputs)
  | dormantEntered
  -- time base
  | ppsEdge (rising : Bool) (held counts : Nat) (frac : Fin 24)
  | ppsFault
  | sourceLost (irig : Bool)
  | irigFrame (f : IrigFrame) (frac : Fin 24)
  | holdoverExpired
  | leapSecond
  | tsyncPulse
  | tsyncPulseEnd
  -- host commands
  | ping (tag : BitVec 3) (params : List Byte)
  | getIdentity (tag : BitVec 3) (params : List Byte)
  | getState (tag : BitVec 3) (params : List Byte)
  | getVersions (tag : BitVec 3) (params : List Byte)
  | readHrf (tag : BitVec 3) (params : List Byte)
  | writeHrf (tag : BitVec 3) (csn : Word) (params : List Byte)
  | tbTimeLoRead (tag : BitVec 3)
  | enSnapDataRead (tag : BitVec 3)
  | enSnapHold (tag : BitVec 3) (csn : Word)
  | enSnapRelease (tag : BitVec 3) (csn : Word)
  | evPendingClear (tag : BitVec 3) (csn : Word) (n : Fin 8) (mask : Word)
  | stageConfigBegin (tag : BitVec 3) (csn : Word) (params : List Byte)
  | stageConfigData (tag : BitVec 3) (csn : Word) (params : List Byte)
  | stageConfigCommit (tag : BitVec 3) (csn : Word) (params : List Byte)
  | activateConfig (tag : BitVec 3) (csn : Word) (params : List Byte)
  | discardStaged (tag : BitVec 3) (csn : Word) (params : List Byte)
  | configInfo (tag : BitVec 3) (params : List Byte)
  | run (tag : BitVec 3) (csn : Word) (params : List Byte)
  | stop (tag : BitVec 3) (csn : Word) (params : List Byte)
  | setModeRequest (tag : BitVec 3) (csn : Word) (params : List Byte)
  | hostSignalsWrite (tag : BitVec 3) (params : List Byte)
  | faultAck (tag : BitVec 3) (csn : Word) (params : List Byte)
  | journalRead (tag : BitVec 3) (params : List Byte)
  | journalAck (tag : BitVec 3) (csn : Word) (params : List Byte)
  | journalStatus (tag : BitVec 3) (params : List Byte)
  | commandOutcome (tag : BitVec 3) (params : List Byte)
  | timeSet (tag : BitVec 3) (csn : Word) (params : List Byte)
  | leapAnnounce (tag : BitVec 3) (csn : Word) (tai : DWord) (offset : Half) (delete : Bool)
  | leapCancel (tag : BitVec 3) (csn : Word) (tai : DWord) (offset : Half)
  | timeStatus (tag : BitVec 3) (params : List Byte)
  | timeSourceSelect (tag : BitVec 3) (csn : Word) (params : List Byte)
  | sflStatus (tag : BitVec 3) (params : List Byte)
  | sflFrameIn (tag : BitVec 3) (params : List Byte)
  | sflFrameOut (tag : BitVec 3) (params : List Byte)
  | entropyRetest (tag : BitVec 3) (csn : Word) (params : List Byte)
  | portStatus (tag : BitVec 3) (params : List Byte)
  | portDiagRead (tag : BitVec 3) (params : List Byte)
  | outputTestNow (tag : BitVec 3) (csn : Word) (params : List Byte)
  | learnPulses (tag : BitVec 3) (csn : Word) (params : List Byte)
  | pause (tag : BitVec 3) (csn : Word)
  | resume (tag : BitVec 3) (csn : Word)
  | feed (tag : BitVec 3) (csn : Word) (lines : Byte)
  | testLine (tag : BitVec 3) (csn : Word)
  | printText (tag : BitVec 3) (csn : Word) (params : List Byte)
  | printStatus (tag : BitVec 3) (params : List Byte)
  | fuseRead (tag : BitVec 3) (params : List Byte)
  | fuseProgram (tag : BitVec 3) (csn : Word) (params : List Byte)
  | patchInstallBegin (tag : BitVec 3) (csn : Word) (total : Word)
  | patchInstallData (tag : BitVec 3) (csn : Word) (offset : Word) (bytes : List Byte)
  | patchInstallFinish (tag : BitVec 3) (csn : Word) (total : Word)
  | patchStatus (tag : BitVec 3) (params : List Byte)
  | resetDeviceWarm (tag : BitVec 3) (csn : Word)
  | resetDeviceCold (tag : BitVec 3) (csn : Word)
  | enterDormant (tag : BitVec 3) (csn : Word) (params : List Byte) (wake : Bool)
  | setEventEnables (tag : BitVec 3) (csn : Word) (params : List Byte)
  | getEventPending (tag : BitVec 3) (params : List Byte)
  | debugChallenge (tag : BitVec 3) (params : List Byte)
  | commandGapTimeout
  -- host bus
  | cmdReplyRead (clocked : Nat)
  | statRead (clocked : Nat)
  | sflWindowWrite (bytes : List Byte)
  | sflWindowRead (clocked : Nat)
  | jrnlPointerWrite (bytes : List Byte)
  | jrnlWindowRead (clocked : Nat)
  | attentionPeriod
  | attentionWrite (r : BusResult)
  | attentionBackoffEnd (r : BusResult)
  | stretchTimeout
  | targetTimeout
  | lineHeldLow
  | hostSilence
  -- store and journal
  | journalCommit (nvaFails nvbFails : Nat)
  | journalGap (nvaFails nvbFails : Nat)
  | parameterRecord (fails : Nat) (wear : List (Bool × Nat × Nat))
  -- engine
  | scan (e : ScanEnv)
  | reverificationComplete (pass : Bool) (check : Word) (us : Half)
  | countedFailureWindowEnd
  | discrepancy (blk : Nat)
  | lockNotReached (blk : Nat)
  | rundownElapsed (blk : Nat)
  | doorOpenWhileLocked (blk : Nat)
  | twohandSyncFail (blk : Nat)
  | contactAntivalence (blk : Nat)
  | feedbackFault (blk : Nat)
  | brakeTestEnd (blk : Nat)
  | brakeTestDue (blk : Nat)
  | restartStuck (blk : Nat)
  | restartArmed (blk : Nat)
  | selectorFault
  | modeRequestPins
  | modeHandoverEnd
  | tonElapsed (blk : Nat)
  | tofElapsed (blk : Nat)
  | pulseElapsed (blk : Nat)
  | outputUntested (p : Fin 8) (c : Fin 6)
  | outputRefused (p : Fin 8) (c : Fin 6)
  -- Svaent frames and entropy
  | sflProducerStart (n : Fin 32)
  | sflProducerSend (n : Fin 32)
  | sflTakeIn
  | sflConnLost (n : Fin 32)
  | entropyWordReady (raw : List Bool)
  | entropyHealthFail (raw : List Bool)
  | entropyStartupTestDone (raw : List Bool)
  -- links, controller side
  | linkCycle
  | uplinkIdent (l : Fin 8) (framing : Bool) (frame : Frame) (roundTrip : Nat)
  | uplinkDelta (l : Fin 8) (framing : Bool) (frame : Frame) (roundTrip : Nat)
  | uplinkRefresh (l : Fin 8) (framing : Bool) (frame : Frame) (roundTrip : Nat)
  | crossShortEpisodeEnd (p : Fin 8) (k : Fin 8) (q : Fin 8) (j : Fin 8)
  | shortToSupply (p : Fin 8) (k : Fin 8)
  | linkLost (l : Fin 8) (cause : Fin 4)
  | linkStart (l : Fin 8)
  | linkStartFail (l : Fin 8)
  -- links, port side
  | portReset (p : Fin 8) (up : Bool)
  | downlinkSync (p : Fin 8) (framing : Bool) (frame : Frame)
  | downlinkStart (p : Fin 8) (framing : Bool) (frame : Frame)
  | downlinkSeed (p : Fin 8) (framing : Bool) (frame : Frame)
  | downlinkRun (p : Fin 8) (framing : Bool) (frame : Frame)
  | codeStale (p : Fin 8) (c : Fin 6)
  | parameterImageWrite (p : Fin 8) (addr : BitVec 7) (data : Half)
  | samplePhase (p : Fin 8) (data : Half)
  | framePhaseLo (p : Fin 8) (data : Half)
  | framePhaseHi (p : Fin 8) (data : Half)
  | learnReq (p : Fin 8) (data : Half)
  | testNow (p : Fin 8) (data : Half)
  | portLinkLoss (p : Fin 8)
  | portLogicReset (p : Fin 8)
  | yoyoHoldDecay (p : Fin 8) (c : Fin 6) (sw : Fin 3)
  | ctTimeout (p : Fin 8)
  -- port inputs and test pulses
  | inputEdge (p : Fin 8) (i : Fin 16) (samples : List InputRead) (cyc : BitVec 4) (sample : Fin 10)
  | inputSettled (p : Fin 8) (i : Fin 16) (samples : List InputRead) (cyc : BitVec 4) (sample : Fin 10)
  | pulseFrameStart (p : Fin 8) (fullVoltage : BitVec 8)
  | darkPulseStart (p : Fin 8) (k : Fin 8) (inputs : List InputRead)
  | darkPulseEnd (p : Fin 8) (k : Fin 8) (ticks : List DarkTick)
  | blankingWindowEnd (p : Fin 8) (i : Fin 16)
  | crossShortSeen (p : Fin 8) (k : Fin 8)
  | sourceShort (p : Fin 8) (k : Fin 8)
  | decayLearned (p : Fin 8) (i : Fin 16)
  -- port outputs and supplies
  | offTest (p : Fin 8) (c : Fin 6) (t : OffSeen)
  | onTest (p : Fin 8) (c : Fin 6) (t : OnSeen)
  | switchOffTest (p : Fin 8) (c : Fin 6) (t : OnSeen)
  | switchOffTestTimeout (p : Fin 8) (c : Fin 6)
  | brakePullinEnd (p : Fin 8) (b : Fin 2) (milliamps : Nat)
  | clampEnd (p : Fin 8) (b : Fin 2) (milliamps : Nat)
  | switchNodeMiss (p : Fin 8) (b : Fin 2)
  | bridgeConflict (p : Fin 8) (b : Fin 2)
  | outputOvercurrent (p : Fin 8) (c : Fin 6) (sustained : Bool) (peak : Byte)
  | auxFault (p : Fin 8) (mask : BitVec 4)
  | auxRetry (p : Fin 8)
  | portOverload (p : Fin 8) (loadI : Byte)
  | portOverloadOpen (p : Fin 8) (loadI : Byte)
  | switchThermalLimit (p : Fin 8) (c : Fin 6)
  | portHot (p : Fin 8) (temp : Byte)
  | thermalShutdown (p : Fin 8) (temp : Byte)
  | supplyState (p : Fin 8) (uf2 : Bool) (quarterVolts : Byte)
  | temperatureMeasurement (temp : Byte)
  -- witness strip
  | lineSlot
  | lineRendered
  | printerGated (sensors : BitVec 3)
  | printerReady
  | motorDisable
  -- marionette port
  | idcode (addr : Word) (crc : Byte)
  | status (addr : Word) (crc : Byte)
  | chalNew (addr : Word) (crc : Byte)
  | chalRead (addr : Word) (crc : Byte)
  | response (addr : Word) (data : Word) (crc : Byte)
  | memRead (addr : Word) (crc : Byte)
  | memWrite (addr : Word) (data : Word) (crc : Byte)
  | coreHalt (addr : Word) (crc : Byte)
  | coreResume (addr : Word) (crc : Byte)
  | coreStep (addr : Word) (crc : Byte)
  | engHalt (addr : Word) (crc : Byte)
  | engResume (addr : Word) (crc : Byte)
  | engStep (addr : Word) (crc : Byte)
  | dbgReset (addr : Word) (crc : Byte)
  | breakpointHit (access : Option (Word × Bool)) (pc : Word)   -- a data access, its address and whether it writes; or an instruction
  | debugTransferTimeout
  | debugProtocolReset (next : Option (Byte × Word × Byte))      -- an unknown command that follows: CMD, ADDR, CRC
  | debugChallengeExpiry
  | unlockRefusalEnd
  -- rest of the table
  | sramEccError (addr : Word)
  | cmdPacketRefused (bytes : List Byte)
  | faultNBlink
deriving DecidableEq, Repr

end Sys2Proof
end

