-- ==== Sys2Proof/Machine/State.lean ====
section
/-! DEFINITION. The state of the block: every register, queue, counter, mode, pin and store the spec gives the
controller DZC-8 and its eight field ports DZP-16, as plain data, the queue of waiting commands, and the state right
after reset. A register that only shows other state (a status register) is computed from that state in Flags.lean. -/

namespace Sys2Proof.Machine

/-- No step of this block stops the machine with a fault: where the spec gives a refusal, an error status or a fault
state, that is an effect on State. -/
inductive Fault where
deriving DecidableEq, Repr

/-- The one refusal: a command of the table without a meaning yet (safe: no step is taken). Raised by Dispatch only. -/
inductive Refusal where
  | notModelled (mnemonic : String)
deriving DecidableEq, Repr

/-! ## Device, reset and always-on register file (chapter 3) -/

/-- The codes of DV_STATE (Table 0-3, R10). -/
inductive DvState where
  | boot | verify | stop | run | fault | mismatch | lockout | dormantEntry | debugHalt
deriving DecidableEq, Repr

/-- Whether firmware runs: reset asserted, clock-window reset held (R26), blink code n after a failed fuse check (R61),
held by TESTMODE (R378), DORMANT (R70), or running. -/
inductive Phase where
  | inReset
  | clockHeld
  | blink (n : Nat)
  | testHold
  | dormant
  | running
deriving DecidableEq, Repr

/-- The operating modes (Table 9-1). -/
inductive Mode where
  | auto | localMode | service
deriving DecidableEq, Repr

/-- What the controller does with its other pins between two commands (Table 19-2, R376, R379). -/
structure Pins where
  xtal     : Bool             -- XIN and XOUT oscillate
  conv     : Bool             -- the converter on SW runs
  busFree  : Bool             -- SCL and SDA high-impedance
  addrPull : Bool             -- the pull-downs of ADDR0 and ADDR1 are connected
  dbgPull  : Bool             -- the pull-up of DBG_IO is connected
  pulls    : Bool             -- the other pull-ups and pull-downs, those of nRST and WAKE apart, are connected
  phCk     : Bool             -- pin PH_CK, 1 = high
  phDi     : Bool             -- pin PH_DI
  phLatN   : Bool             -- pin PH_LAT_N
deriving DecidableEq, Repr

/-- Device registers and the output pins of the controller (Tables 3-9 to 3-12, 1-4, 19-2). -/
structure Dev where
  phase        : Phase
  dvState      : DvState
  heldState    : DvState      -- the state before a core halt (R69)
  cause        : BitVec 4     -- DV_RESET_CAUSE.CAUSE
  causesSeen   : BitVec 9     -- DV_RESET_CAUSE.CAUSES_SEEN
  defaultsRestored : Bool
  wakeSrc      : Bool
  lockoutHeld  : Bool
  faultCode    : Byte         -- DV_FAULT.CODE
  faultDetail  : Byte
  faultCount   : Byte
  noConfig     : Bool         -- DV_FLAGS.NO_CONFIG
  patchActive  : Bool
  mode         : Mode         -- DV_MODE bits 1:0
  handover     : Nat          -- hand-over scans still to run, 0 to 2 (R197)
  uptimeUs     : Nat          -- time since the last reset released
  opUs         : Nat          -- time within the present operating minute (R128)
  pllLock      : Bool         -- DV_CLOCK.PLL_LOCK
  monTestOk    : Bool         -- DV_CLOCK.MON_TEST_OK
  monArmed     : Bool         -- rate-window monitor armed (R24, R70)
  clockWhy     : BitVec 3     -- what the last clock-window trip saw (Table 1-3)
  stopResumed  : Bool         -- a STOP was resumed in boot step 6 (Table 14-7)
  faultN       : Bool         -- pin FAULT_N, 1 = high
  safeOk       : Bool         -- pin SAFE_OK
  tsyncOut     : Bool         -- pin TSYNC_OUT
  pins         : Pins         -- the other pins
  blinkStep    : Nat          -- position in the blink code (R61)
  tempHigh     : Bool         -- a TEMP_HIGH or OVERTEMP condition holds (R401)
  overTemp     : Bool         -- the overtemperature condition persists (R308)
  dieTemp      : Byte         -- last measured die temperature + 64
  straps       : BitVec 2     -- ADDR1:ADDR0 as sampled (R379)
  wakePin      : Bool         -- WAKE as last seen (R70, R348)
  discarded    : Bool         -- STAGED_VALID cleared though the bank could not be written (R307)
deriving DecidableEq, Repr

/-- Always-on register file (Table 3-6). -/
structure Aorf where
  lockout      : Bool
  settingsDiffer : Bool
  dormantPending : Bool
  lastState    : Byte
  resetCount   : Byte
  dormantCount : Byte
  dormantCsn   : Word
  crc          : Half
  user         : Vector Word 8
deriving DecidableEq, Repr

/-! ## Time base (chapter 2) -/

/-- Time quality (Table 2-2). -/
inductive Quality where
  | unsync | holdover | lockedPps | lockedIrig
deriving DecidableEq, Repr

/-- The time that an IRIG-B frame spells (R36): the year where the frame carries one, the seconds since that year began
(a second 60 has the number of the second after it), less the local offset. -/
structure IrigMark where
  year  : Option Nat
  sec   : Int
  sixty : Bool
deriving DecidableEq, Repr

/-- The time base (Tables 2-4 to 2-6). -/
structure TimeBase where
  counter      : DWord        -- TAI µs (R32)
  acc          : Nat          -- the fractional accumulator, in 10⁻⁹ of a µs (R32)
  timeHi       : Word         -- TB_TIME_HI as latched
  rate         : Word         -- rate word, signed, 0.001 ppm
  quality      : Quality
  qualityWas   : Option Quality  -- the quality before a reset that changed it, until boot records the change (R44)
  lockSecs     : Word         -- TB_LOCK_TIME
  lockUs       : Nat          -- µs within the present lock second
  holdoverUs   : Nat          -- time spent in HOLDOVER
  leapPending  : Bool
  leapDelete   : Bool
  leapDue      : Bool         -- the leap second fell due in UNSYNC
  leapSkip     : Bool         -- a deletion was applied since the previous IRIG frame (R36)
  timeSetValid : Bool
  ppsValid     : Bool
  irigValid    : Bool
  drift        : Bool
  devPpm       : Half         -- DV_CLOCK.DEV_PPM
  ppsCheck     : Bool
  driftRun     : Nat          -- consecutive intervals beyond ±200 ppm (R29)
  clearRun     : Nat          -- consecutive intervals within ±150 ppm (R29)
  ppsStarted   : Bool         -- an edge has started an interval
  ppsMissed    : Bool         -- the interval spans a missing edge (R35)
  ppsLockRun   : Nat          -- on-time points within ±1 µs (R41)
  irigLockRun  : Nat
  irigRun      : Nat          -- consecutive valid frames (R36)
  irigLast     : Option IrigMark  -- the previous frame's time (R36)
  ppsAcquired  : Bool         -- the first valid on-time point has fixed the phase (R41)
  irigAcquired : Bool
  ppsLocked    : Bool         -- PPS locked (R41)
  irigLocked   : Bool
  ppsFar       : Nat          -- PPS on-time points beyond ±10 µs while locked (R42)
  irigFar      : Nat          -- and IRIG ones
  irigFmt      : BitVec 3
  irigNoYear   : Bool
  phaseErr     : Word         -- TB_PHASE_ERR, signed ns
  irigStat     : Word         -- TB_IRIG_STAT
deriving DecidableEq, Repr

/-- Settings of the host register file, restored from the image at every reset (R65, Table 15-13). -/
structure Settings where
  src          : BitVec 2     -- TB_CTRL.SRC
  ppsEdge      : Bool
  irigCf       : Bool
  tsyncEn      : Bool
  tsyncAlways  : Bool
  tsyncWidth   : BitVec 9
  comp         : Half         -- TB_COMP, signed ns
  holdoverMax  : Word
  speed        : BitVec 2     -- HB_CTRL.SPEED
  attnPer      : Half
  attnEn       : Byte
  silence      : Half
  dark         : BitVec 3
  printClass   : BitVec 3
  printEnable  : Bool
  paused       : Bool
  evEnable     : Vector Word 8
deriving DecidableEq, Repr

/-! ## Configuration image (chapters 7, 8, 12, 15), as the engine reads it -/

/-- Block types (Table 8-1). -/
inductive BlockType where
  | estop | guard | guardLock | twohand | lcurt | sbc | edm | restart | modesel | interlock
  | sflIn | sflOut | and | or | not | ton | tof | pulse | event | hostsig
deriving DecidableEq, Repr

/-- Signal classes (Table 7-2). -/
inductive SigClass where
  | bool | word | time | bstate
deriving DecidableEq, Repr

/-- A signal: class, static signature B, and whether it is a state signal (R148, R150, R164). -/
structure Signal where
  cls     : SigClass
  sig     : Word
  isState : Bool
deriving DecidableEq, Repr

/-- Parameters of a block; each type uses those its entry names (R163). Times in ms, BT_INT in hours. -/
structure BlockParams where
  channels  : Nat
  lchannels : Nat
  tDisc     : Nat
  autoStart : Bool
  stest     : Bool
  principle : Bool
  tRundown  : Nat
  tLock     : Nat
  tSync     : Nat
  tAnti     : Nat
  hold      : Bool
  tBtest    : Nat
  btInt     : Nat
  btEnf     : Bool
  tEdm      : Nat
  tMin      : Nat
  tMax      : Nat
  pwrUp     : Mode
  reqSrc    : BitVec 3
  tSel      : Nat
  reqEdge   : Bool
  conn      : Fin 32
  rrest     : Bool
  pt        : Nat
  n         : Nat
  code      : Half
  cls       : Nat
  edge      : Nat
  isWord    : Bool
  dflt      : Half
  brakePort : Fin 8
  brakeIx   : Fin 2
deriving DecidableEq, Repr

/-- What MODESEL keeps between scans in state signals (R164, R186, R192, R194). -/
inductive ModeItem where
  | pending | selected | pattern | fault | lastW1
  | patCount (hi : Bool) | badCount (hi : Bool)
deriving DecidableEq, Repr

/-- What a state signal of a block holds between scans (R164): a latch, one half of a count, an input or an output of the
previous scan. -/
inductive StateItem where
  | latch | fault | faultKind | bothZero | stPend | permit | active | blocked | armed | stuck | waitEdge | fromStart | tested
  | dueRaised
  | t1 (hi : Bool) | t2 (hi : Bool) | t3 (hi : Bool) | t4 (hi : Bool)
  | prev (k : Nat) | out (k : Nat)
  | mode (x : ModeItem)
deriving DecidableEq, Repr

/-- A block instance: type, input and output signal indices by connection, its state signals, parameters (R163, R164). -/
structure Block where
  type   : BlockType
  ins    : List (Option Nat)
  outs   : List (Option Nat)
  states : List (StateItem × Nat)
  params : BlockParams
deriving DecidableEq, Repr

/-- A port input that feeds a signal. -/
structure InputBind where
  port : Fin 8
  ix   : Fin 16
  sig  : Nat
deriving DecidableEq, Repr

/-- A safe-output or brake binding (R170, R199): channel 0 to 3 for Q1 to Q4, 4 and 5 for BR1 and BR2. -/
structure OutBind where
  port    : Fin 8
  ch      : Fin 6
  sig     : Nat
  modeDep : Bool              -- the signal depends on a MODESEL output
  hoAuto  : Bool              -- HO_START = AUTO
  hoRst   : Option Nat        -- HO_RST
deriving DecidableEq, Repr

/-- An AUX bit bound to a signal (R170). -/
structure AuxBind where
  port : Fin 8
  ix   : Fin 4
  sig  : Nat
deriving DecidableEq, Repr

/-- Producer parameters (Table 11-2). -/
structure Producer where
  dest     : Half
  tPi      : Nat
  onChange : Bool
deriving DecidableEq, Repr

/-- Consumer parameters (Table 11-2). -/
structure Consumer where
  src      : Half
  tWd      : Nat
  ageMax   : Nat
  modeConn : Bool
deriving DecidableEq, Repr

/-- A decoded configuration image. -/
structure Image where
  scanPer   : Fin 6
  autoRun   : Bool
  node      : Option Half
  hostAddr  : BitVec 7
  format    : Half
  abi       : Half
  compiler  : Word
  wcetUs    : Half
  resultCount : Nat           -- results the compiler recorded (R153)
  resultCrc : Word            -- CRC-32 over the destination indices (R153)
  signals   : List Signal
  blocks    : List Block
  order     : List Nat        -- the evaluation order that the compiler fixed (R164)
  inputs    : List InputBind
  outs      : List OutBind
  auxs      : List AuxBind
  producers : List (Option Producer)
  consumers : List (Option Consumer)
  tpPeriod  : Half            -- TP_PERIOD, the one period of the pulse frame (R107)
  portWords : Vector (List Half) 8     -- words 0x00 to 0x7E of each port (R81)
  defaults  : Settings
deriving DecidableEq, Repr

/-! ## Non-volatile store, parameter items and journal (chapters 12, 14) -/

/-- STATE of a bank header (Table 12-2). -/
inductive BankState where
  | empty | staging | committed
deriving DecidableEq, Repr

/-- A configuration bank: header fields and body bytes, unlisted bytes 0 (Table 12-2). -/
structure Bank where
  state    : BankState
  imgSeq   : Word
  length   : Nat
  bodyCrc  : Word
  format   : Half
  abi      : Half
  compiler : Word
  body     : List Host.Cell
deriving DecidableEq, Repr

/-- A committed journal record (Table 12-4); CHECK is computed from it. -/
structure Record where
  seq     : Word
  time    : DWord
  quality : Byte
  cls     : Byte
  source  : Half
  code    : Half
  arg     : DWord
  flags   : Half
deriving DecidableEq, Repr

/-- A raised event that waits in the writer's queue (R249). -/
structure QEvent where
  time    : DWord
  quality : Byte
  cls     : Byte
  source  : Half
  code    : Half
  arg     : DWord
  enabled : Bool              -- the source's enable when the event was raised (R329)
deriving DecidableEq, Repr

/-- Gap counters by class (Table 12-6). -/
structure Gap where
  active    : Bool
  info      : Nat
  notice    : Nat
  warning   : Nat
  trip      : Nat
  fault     : Nat
  lockout   : Nat
  saturated : Bool
deriving DecidableEq, Repr

/-- A host text line with its CSN (R359). -/
structure TextLine where
  csn   : Word
  bytes : List Byte
  after : Word                -- printed after every record up to this sequence (R359)
deriving DecidableEq, Repr

/-- What a text line shows. -/
inductive LineKind where
  | record (seq : Word) (second : Bool)
  | host (csn : Word)
  | resume
  | date (day : Int)          -- days since 1970-01-01, UTC
  | skip (first last : Word)
  | test (csn : Word)
  | blankFeed
deriving DecidableEq, Repr

/-- The parameter items (Table 12-3). -/
structure Params where
  activeB    : Bool           -- active bank: false A, true B
  activeSeq  : Word           -- its IMG_SEQ
  hasActive  : Bool           -- some image has been activated
  ack        : Word           -- acknowledgement pointer
  headCheck  : Word           -- journal head checkpoint
  gap        : Gap
  utcOffset  : Word           -- TB_UTC_OFFSET
  chMinutes  : Vector Nat 48  -- operating minutes since the last proving test (R128)
  brMinutes  : Vector Nat 16  -- brake-test minutes (R183)
  failAge    : Option Nat     -- minutes since the last counted coding failure (R160)
  decay      : Vector Half 128 -- learned decay times (R118)
  cursorSeq  : Word           -- print cursor (R362)
  cursorLine2 : Bool
  cursorHost : Bool
  skipTo     : Option Word    -- records up to this sequence are passed over by a skip line (R363)
  started    : Option LineKind -- STARTED, with the line it was written for (log entry 129)
  text       : List TextLine
  feed       : Option (Word × Nat)   -- feed target with its CSN: as many blank lines follow the last printed line (R364)
  feedDone   : Word           -- CSN of the last completed feed
  testReq    : List Word      -- test requests by CSN, oldest first (R364)
  testDone   : Word
  degraded   : Bool
  nvaOut     : Bool
  nvbOut     : Bool
deriving DecidableEq, Repr

/-- An unresolved ACCEPT chain (Table 14-5). -/
structure Chain where
  csn    : Word
  opcode : Byte
  ctrl   : Byte
  params : List Byte
  crc    : Half
deriving DecidableEq, Repr

/-- An outcome entry (Table 14-5); skip marks a skipped CSN. -/
structure OutcomeEntry where
  csn    : Word
  skip   : Bool
  status : Byte
  ctrl   : Byte
  data   : List Byte
  crc    : Half
  opcode : Byte
deriving DecidableEq, Repr

/-- An entry of the ring of ACCEPT chains (Table 14-5), at its place 64 to 1,023: part 0 the ACCEPT entry, part 1 to 25 a
PARAM entry. -/
structure RingEntry where
  place : Nat
  part  : Nat
  chain : Chain
deriving DecidableEq, Repr

/-- A parameter record in its slot of a macro (R247). -/
structure ParamRec where
  inB   : Bool                -- NVB, else NVA
  slot  : Nat
  seq   : Word
  items : Params
deriving DecidableEq, Repr

/-- What a macro held when it went out of service (R257, R258), the place of the write that failed its read-back with its length. -/
structure MacroView where
  records  : List Record
  outcomes : Vector (Option OutcomeEntry) 64
  ring     : List RingEntry
  slots    : List ParamRec
  spoilt   : Option (Nat × Nat)
deriving DecidableEq, Repr

/-- A write that a loss of power or clock left whole in NVA only, which recovery completes (R251): a journal record, an ACCEPT
or PARAM entry of a chain, the newest outcome entry. -/
inductive Torn where
  | record (r : Record)
  | entry (c : Chain) (part : Nat)
  | outcome
deriving DecidableEq, Repr

/-- The non-volatile store (Table 12-1). -/
structure Nv where
  bankA    : Bank
  bankB    : Bank
  live     : Params           -- the items as they stand
  stored   : Params           -- the newest parameter record
  paramSeq : Word             -- its sequence
  due      : Bool             -- a parameter record is due
  records  : List Record      -- committed records still held, oldest first
  head     : Word             -- JR_HEAD
  torn     : Option Torn      -- a write whole in NVA only (R251)
  outcomes : Vector (Option OutcomeEntry) 64
  chains   : List Chain       -- unresolved accepted commands
  lastE    : Word             -- E (R285)
  patchA   : List Byte        -- patch segment of NVA
  patchB   : List Byte
  ring     : List RingEntry   -- the ring of ACCEPT chains as written, by place
  ringPos  : Nat              -- the ring place written next, 64 to 1,023
  slots    : List ParamRec    -- the parameter records held, newest last
  lostA    : Option MacroView -- NVA as it was when it went out of service
  lostB    : Option MacroView
  unreached : Option (Word × Word)  -- first and last record whose slot was reused before it was printed (R363)
  worn     : List (Bool × Nat × Nat) -- words that fail read-backs: NVB or NVA, byte offset, how many read-backs
deriving DecidableEq, Repr

/-- Journal writer (R249, R255) and store figures that restart at each reset (Table 12-7). -/
structure Journal where
  queue     : List QEvent
  full75    : Bool            -- DV_FLAGS.JOURNAL_75
  retries   : Byte
  recovered : Half
  pend      : Vector Word 8   -- EV_PENDING0 to 7 (R329)
deriving DecidableEq, Repr

/-! ## Host bus and commands (chapters 13, 14) -/

/-- A reply that waits in SRAM (Table 14-2). -/
structure Reply where
  opcode : Byte
  ctrl   : Byte
  status : Byte
  orig   : Byte
  csn    : Word
  data   : List Byte
deriving DecidableEq, Repr

/-- A command packet as judged: opcode, CTRL, CSN (0 without SEQ) and the opcode's own parameters (Table 14-1). -/
structure Packet where
  opcode : Byte
  ctrl   : Byte
  csn    : Word
  params : List Byte
deriving DecidableEq, Repr

/-- Host bus state (Table 13-6). -/
structure HostBus where
  base       : BitVec 7       -- 0x00 when no address is answered (R262)
  clash      : Bool
  causes     : Byte           -- attention causes (Table 13-3)
  attnSeq    : Byte
  attnDue    : Bool           -- an attention write is due now
  backoff    : Bool           -- waiting out a backoff
  losses     : Nat            -- arbitration losses of this attention
  sent       : List Byte      -- the last attention record sent
  jptr       : Word
  errArb     : Byte
  errNack    : Byte
  errPart    : Byte
  errTarget  : Byte
  silent     : Bool
  silentUs   : Nat            -- time since the last acknowledged transfer
  silenceOn  : Bool           -- the silence timer runs
  stuck      : Bool           -- a BUS_STUCK kind 2 episode is open
  readData   : List Byte      -- the bytes the last window read returned
  nacked     : Bool           -- the last window access was answered NACK
deriving DecidableEq, Repr

/-- The command in execution whose outcome is still to come (R288). -/
inductive Running where
  | modeRequest (mode : Nat)
  | outputTest (port : Fin 8) (mask passed failed : BitVec 6) (start : Nat)
  | learn (ports : Byte) (sources : Byte) (done : List (Nat × Bool))
  | timeAtPps (tai : DWord) (offset : Half) (flags : Byte)
  | dormant
  | retest (started : Bool)
  | ended (status : Byte) (data : List Byte)  -- ended while the core is halted: the outcome waits for its release (R372)
deriving DecidableEq, Repr

/-- Command layer (Table 14-9). -/
structure Cmd where
  replies   : List Reply      -- oldest first
  inFlight  : BitVec 8        -- tags in flight (R282)
  running   : Option Running
  waits     : List (Word × Nat) -- time since acceptance of each unresolved command, by CSN (R289)
  errCrc    : Byte
  errLength : Byte
  errBusy   : Byte
  errWindow : Byte
  accepted  : Half
  voided    : Byte
  gapTimeouts : Byte
  buffer    : Option (List Byte)   -- the bytes of a packet received while the core is halted (R298)
  hostBool  : Word            -- BOOL host signals as last written (R310)
  hostBoolSet : Word          -- which have been written since the reset
  hostWord  : Vector (Option Half) 32
deriving DecidableEq, Repr

/-! ## Engine (chapters 7 to 9) -/

/-- The state of one block between scans (R164); each type uses the fields its rules name. -/
structure BlockSt where
  outs      : List Nat        -- outputs of the last evaluation
  first     : Bool            -- the next scan is the first since RUN entry (R169)
  prev      : List Nat        -- inputs of the previous scan
  latch     : Bool            -- restart latch
  fault     : Bool            -- fault state
  faultKind : Nat
  bothZero  : Bool            -- both channels have been 0 since the fault or the test began
  stPend    : Bool            -- start-up test pending (R177)
  permit    : Bool            -- permit condition in the previous scan
  t1        : Nat             -- discrepancy count; timer; ON count; test time
  t2        : Nat             -- lock discrepancy count; OFF count
  t3        : Nat             -- lock, run-down or open-while-locked count
  t4        : Nat
  active    : Bool            -- a timer, test or operation runs
  blocked   : Bool            -- held until released (TWOHAND, INTERLOCK, EDM, RESTART release ignored)
  armed     : Bool            -- RESTART armed (R205)
  stuck     : Bool            -- RESTART STUCK (R204)
  unclean   : Bool            -- a pulse fault since the first counted scan (R203)
  edgeHeld  : Bool            -- the confirming edge record is held (R202)
  fromStart : Bool            -- the press has been on since the entry into RUN or the link start (R205)
  disarmed  : Bool            -- a link start since the last scan unarms the input (R205)
  waitEdge  : Bool            -- a release waits one scan for its record (R201)
  tested    : Bool            -- SBC: the last brake test passed
  dueRaised : Bool            -- SBC: BRAKE_TEST_DUE raised since the counter restarted or the reset
deriving DecidableEq, Repr

/-- The mode machine (chapter 9). -/
structure ModeSt where
  oldMode    : Mode           -- the mode before the hand-over
  pending    : Bool           -- AUTO pending (R196)
  selected   : Bool           -- the selector has shown a valid pattern since RUN entry (R192)
  pattern    : Nat            -- pattern of the running count: 0 to 2, 3 invalid
  patCount   : Nat            -- consecutive scans with that pattern
  badCount   : Nat
  fault      : Bool           -- selector fault (R186)
  lastW1     : Nat            -- mode word of the mode connection in the previous scan
  diff       : List (Nat × Nat × Nat × Nat)  -- binding, old, new, hand-over scan of its first disagreement
deriving DecidableEq, Repr

/-- A decoded snapshot of all signals (R161). -/
structure Snapshot where
  scan   : Word
  values : List Half
deriving DecidableEq, Repr

/-- The engine (Tables 7-4, 7-5). -/
structure Engine where
  image      : Option Image   -- the active configuration as the engine reads it
  scanning   : Bool
  seedWait   : Bool
  seedReq    : Bool           -- the load of the LFSR waits for a draw (R151)
  lfsr       : Word           -- D_k
  scanNo     : Word           -- DV_SCAN, and the scan number counter
  published  : Bool           -- some scan has been published since the reset
  words      : List Word      -- coded image, by signal index
  blocks     : List BlockSt
  holds      : List Nat       -- bindings on hand-over hold (R199)
  mode       : ModeSt
  reverify   : Bool
  reverifyOk : Bool
  check      : Word           -- EN_CHECK
  execLast   : Half
  execMax    : Half
  opVector   : BitVec 4       -- operator vector in rotation (R154)
  hold       : Bool           -- EN_SNAP_CTRL.HOLD
  snapAddr   : BitVec 12
  snapRead   : Option Snapshot  -- the readable snapshot
  snapNew    : Option Snapshot  -- the newest one
  beyond     : List Host.Cell -- bytes of the coded image's 16 KiB that the probe wrote past the signals, by offset (R370)
  debug      : Bool           -- engine debug mode (R374)
  dryStep    : Nat            -- place in the evaluation order of the dry scan's next block
  haltScan   : Bool           -- the scan released before a core halt is still to run (R373)
  haltedRun  : Bool           -- a core halt stopped the engine in RUN (R373)
  haltedAgain : Bool          -- the coding failure found in the halt lay within the window of R160
  demanded   : BitVec 48      -- OUTPUT_REFUSED journalled for this channel (R128)
deriving DecidableEq, Repr

/-! ## Svaent frames and entropy (chapter 11) -/

/-- Consumer states (R231). -/
inductive ConnState where
  | empty | pending | valid | expired
deriving DecidableEq, Repr

/-- A decoded SFL frame (Table 11-1). -/
structure SflFrame where
  dest  : Half
  src   : Half
  cid   : Word
  seq   : BitVec 28
  isNew : Bool
  rr    : Bool
  ts    : Bool
  stamp : Word
  bits  : DWord
  w0    : Half
  w1    : Half
deriving DecidableEq, Repr

/-- A producer connection. -/
structure ProdSt where
  running : Bool
  waiting : Bool              -- its draw failed; it draws again when the source is healthy (R228)
  drawReq : Bool              -- its draw waits for a word
  cid     : Word
  nextSeq : BitVec 28
  newLeft : Nat
  sent    : Word
  last    : Option (DWord × Half × Half)   -- payload of the last frame
  since   : Nat               -- scans since the last frame
  due     : Option SflFrame   -- the frame of the latest phase 4, until it is placed
deriving DecidableEq, Repr

/-- A consumer connection. -/
structure ConsSt where
  state   : ConnState
  cid     : Word
  last    : BitVec 28
  lastUs  : Nat               -- controller time of the last adoption or acceptance (R229, R232)
  lastClock : Nat             -- State.clock at it (R5, R27, R212)
  age     : Word              -- age of the last accepted frame; 0x8000_0000 unchecked
  bits    : DWord
  w0      : Half
  w1      : Half
  rrNow   : Option (BitVec 28)   -- accepted remote restart for this scan
  rrNext  : Option (BitVec 28)   -- and for the next one (R233)
  rrBad   : List (BitVec 28)  -- restarts of frames that leave the connection not valid, for the scan to judge (R206)
  lost    : Bool              -- VALID was lost since the last scan's take-over
deriving DecidableEq, Repr

/-- SFL queues and counters (Table 11-6). -/
structure Sfl where
  outq     : List (List Byte)
  inq      : List (List Byte)
  outLoss  : Nat              -- the open run of outbound losses
  inLoss   : Nat
  prods    : Vector ProdSt 32
  conss    : Vector ConsSt 32
  txCount  : Word
  rxCount  : Word
  errCrc   : Byte
  errAddr  : Byte
  errCid   : Byte
  errSeq   : Byte
  errAge   : Byte
  lossIn   : Byte
  lossOut  : Byte
  rxDup    : Word
deriving DecidableEq, Repr

/-- State of the entropy source (R238 to R240). -/
inductive EntState where
  | startup | healthy | unhealthy | locked
deriving DecidableEq, Repr

/-- Who waits for a draw (Table 11-5). -/
inductive Draw where
  | link (l : Fin 8)
  | engineLoad
  | engineFold (l : Fin 8)
  | producer (n : Fin 32)
  | challenge (p : Packet)
deriving DecidableEq, Repr

/-- The entropy source. -/
structure Entropy where
  state    : EntState
  pool     : List DWord       -- at most 16 words
  waiting  : List Draw
  failures : BitVec 2
  lastRct  : Bool
  lastApt  : Bool
  failed   : Byte             -- requests failed since reset
  lastBit  : Bool             -- the repetition count test: the bit that repeats, and how often (R237)
  runLen   : Nat
  aptBit   : Bool             -- the adaptive proportion test: the window's first bit, its place, its count (R237)
  aptPos   : Nat
  aptHits  : Nat
  block    : List Bool        -- the conditioner's partial block (R237, R239)
deriving DecidableEq, Repr

/-! ## Links, controller side (chapter 4) -/

/-- One link as the controller holds it. -/
structure Link where
  phase      : Nat            -- PT_LINKn.PHASE, 0 to 7
  quarantine : Bool
  strapErr   : Bool
  entropyWait : Bool
  straps     : BitVec 3
  rev        : Byte
  delay      : Half
  delays     : List Nat       -- the last 16 round trips, in periods of 192 MHz (R47)
  ulErr      : Half
  dlErr      : Half
  badRun     : Nat            -- consecutive invalid uplink frames
  echoLast   : Byte
  echoRun    : Nat            -- cycles in which ECHO did not advance
  identRun   : Nat            -- consecutive identical IDENT frames
  lastIdent  : Frame
  paramNext  : Nat            -- next parameter word of phase 4
  okRun      : Nat            -- confirmations in a row (PARAM_OK, SEED_ECHO)
  seed       : DWord
  seedReady  : Bool           -- phase 5 has been given its seed
  seedSent   : Nat            -- SEED frames sent
  scanBase   : Word
  runSent    : Nat            -- RUN frames sent since the link came up
  scanned    : Bool           -- a phase 4 followed the first RUN frame (R157)
  later      : Bool           -- a link start after those of boot step 9 or ACTIVATE_CONFIG (R151)
  fold       : Option Word    -- the fold drawn with its seed, for the first scan start after its first RUN frame
  failed     : Byte           -- failed attempts in a row
  failShown  : Bool           -- LINK_START_FAIL journalled in this run
  held       : Bool           -- LDn held low
  startUs    : Nat            -- controller time of the start
  writes     : List (Byte × Half)   -- run-time words waiting to be sent
  codes      : Vector Half 6  -- output codes in the transmit buffer
  brState    : Vector (BitVec 2) 2
  aux        : BitVec 4
  cycle      : Byte
  tx         : Frame          -- the last downlink frame sent
  levels     : BitVec 16
  refLevels  : BitVec 16      -- LEVELS of the last REFRESH frame (R318)
  outState   : BitVec 6
  supply     : BitVec 6
  settling   : BitVec 16
  inLatched  : BitVec 16      -- input fault latches as reported since the link start (R318)
  chLatches  : Vector Byte 6  -- channel latches as reported since the link start (Table 15-7)
  latched    : BitVec 6       -- PT_PORTp.LATCHED, as of the last REFRESH (R143)
  uf1V       : Byte
  uf2V       : Byte
  temp       : Byte
  loadI      : Byte
  dlLast     : BitVec 12      -- DL_ERR of the last REFRESH
  ulBad      : List Nat       -- cycles of the invalid uplink frames within the latest 65,536 (R96)
  dlBad      : List Nat
  cycles     : Nat            -- link cycles since the reset
  cycleClock : Nat            -- State.clock at the last link cycle
  outNow     : BitVec 6       -- OUT_STATE of the last valid frame
  ulOver     : Bool
  dlOver     : Bool
  diags      : List (Half × Half × Word)   -- last 32 diagnostics, newest first
  untested   : BitVec 6
  refused    : BitVec 6
  seenClosed : BitVec 6       -- channels seen closed and then open, test due (R128)
  judged     : Bool           -- standing re-established since the reset (R128)
  testing    : BitVec 6       -- tests OUTPUT_TEST_NOW started
deriving DecidableEq, Repr

/-! ## Field ports (chapters 4 to 6) -/

/-- One input of a port. -/
structure InputSt where
  accepted  : Bool
  settling  : Bool
  rawNow    : Bool            -- present sample as the levels give it (R103)
  sampleNow : Bool            -- present sample, held within the blanking window
  latch     : Bool            -- fault latch (R113)
  rawAge    : Option Nat      -- samples since the raw edge
  runAge    : Option Nat      -- samples since the run started
  backAge   : Option Nat      -- samples back at the accepted level
  setAge    : Option (Bool × Nat)   -- settling run
  noted     : Bool            -- noted at the start of the present dark pulse
  blank     : Bool            -- within its blanking window
  blankEnd  : Option Nat      -- State.clock of the last blanked sample, once the dark pulse has ended (R112)
  cleanNow  : Nat             -- clean dark pulses in the present frame (R117)
  cleanFrames : Nat           -- consecutive clean frames
  skip      : Nat             -- samples still to be discarded after the first RUN frame (R105)
  degraded  : Nat             -- decays above 3 L in a row
  healthy   : Nat             -- decays at or below 2 L in a row
  degShown  : Bool
  learning  : Bool
  learnData : List Nat
  learnFail : Nat
deriving DecidableEq, Repr

/-- One test-pulse source of a port. -/
structure SourceSt where
  on      : Bool
  dark    : Bool
  darkAt  : Nat               -- State.clock at the start of the dark pulse
  shorted : Bool
deriving DecidableEq, Repr

/-- Brake states (Table 6-3). -/
inductive BrState where
  | off | release | holdPwm | clamp
deriving DecidableEq, Repr

/-- One safe output or brake channel of a port (Tables 6-1, 6-3). -/
structure ChanSt where
  closed    : Bool
  brake     : BrState
  wanted    : BrState         -- the brake state last requested
  pullIn    : Bool            -- pull-in runs (R130)
  portOpen  : Bool
  testFail  : Bool
  overcurr  : Bool
  overload  : Bool
  thermal   : Bool
  supply    : Bool
  onPassed  : Bool            -- an ON-test has passed since the link start (R122)
  onDue     : Bool            -- the link-start ON-test is still to run
  offPending : Bool           -- a switch-off test is pending or waits for UF2 (R126)
  wantClose : Bool            -- the present frame asks for ON
  asked     : Bool            -- TEST_NOW asked for a test (R127)
  offAt     : Nat             -- State.clock when the period of the OFF-test started (R124)
  onAt      : Nat             -- State.clock at the end of the last ON-test (R125)
  charged   : Bool            -- the yo-yo hold stands above its threshold: a safe output's, or that of HS (R131)
  chargedFw : Bool            -- the hold of FW
  chargedDs : Bool            -- the hold of DS
deriving DecidableEq, Repr

/-- What a port does on its link (Table 4-7). -/
inductive PortPhase where
  | silent | locking | ident | seeded
deriving DecidableEq, Repr

/-- One field port. -/
structure PortSt where
  fitted     : Bool
  powered    : Bool           -- VL is above its power-on threshold (R380)
  revision   : Byte           -- revision letter
  pa         : BitVec 3       -- the PA straps as tied
  straps     : BitVec 3       -- as read at the present link start
  phase      : PortPhase
  syncRun    : Nat
  words      : List Half      -- parameter words 0x00 to 0x7F received
  paramOk    : Bool
  seed       : DWord
  seedRun    : Nat
  seedLast   : Frame
  scanX      : Word           -- extended scan number X (R91)
  scanAge    : Nat            -- cycles since the first frame with X
  scanPer    : BitVec 3
  seqScans   : Option (Word × Word)  -- the scan numbers expected and received at the last scan-sequence fault (R91)
  gotRun     : Bool           -- a RUN frame has been received since the link start
  seqFault   : Bool
  badRun     : Nat            -- consecutive invalid downlink frames
  dlErr      : BitVec 12
  echo       : Byte
  tx         : Frame          -- the last uplink frame sent
  samplePh   : Half           -- SAMPLE_PHASE
  phaseLo    : Option Half
  framePhase : Option (BitVec 20)
  phaseAt    : Nat            -- State.clock of sample 0 of the link cycle that carried it (R110)
  offEnd     : Option Nat     -- State.clock at the end of the last periodic OFF-test (R124)
  learnReq   : Byte
  aux        : BitVec 4       -- AUX outputs on
  auxCmd     : BitVec 4       -- AUX bits as last commanded
  auxTrip    : BitVec 4       -- AUX outputs that tripped
  auxShed    : Bool           -- turned off by overload (R138)
  shutdown   : Bool           -- turned off by thermal shutdown (R139)
  ssa        : BitVec 4       -- SSA straps: 1 selects on
  ctExpired  : Bool
  inputs     : Vector InputSt 16
  sources    : Vector SourceSt 8
  chans      : Vector ChanSt 6
  edges      : List Word      -- edge records waiting (Table 4-6), at most 32
  discards   : Nat
  diagq      : List (Half × Half)
  supply     : BitVec 6       -- UF1 missing, low, high; UF2 missing, low, high
  uf1V       : Byte
  uf2V       : Byte
  temp       : Byte
  loadI      : Byte
  hot        : Bool
  overloaded : Bool
deriving DecidableEq, Repr

/-- An open or pending episode of the controller's cross-short judgement (R115). -/
structure ShortSt where
  pairs      : List (Nat × Nat × Nat × Nat × Nat)   -- CROSS_SHORT episodes: dark port, source, partner port, source, and
                                              -- State.clock at the last report
  foreign    : List (Nat × Nat × Nat)         -- FOREIGN_VOLTAGE waiting for judgement: port, source, time
  supplied   : List (Nat × Nat × Nat)         -- SHORT_TO_SUPPLY episodes: port, source, time of the last report
  frameClock : Nat                            -- when the pulse frame counter started (R110)
deriving DecidableEq, Repr

/-! ## Witness strip (chapter 17) -/

/-- One strobe of a dot line (R351): its pin PH_STB1 to PH_STB4, when it rises from the start of the slot and how long it is
high, in ns, and the 96 dots of its group that it fires. -/
structure Strobe where
  group : Nat
  start : Nat
  ns    : Nat
  dots  : List Bool
deriving DecidableEq, Repr

/-- The printer (Tables 17-2, 17-5). -/
structure Printer where
  dirPin    : Bool            -- PM_DIR, held at 1
  shifts    : List (List Bool) -- the bits shifted into the head for each pass of the last slot, in the order shifted: dot 383 first
  headLatch : List Bool       -- what the head's latch holds, dot 0 first
  strobes   : List Strobe     -- the strobes of the last slot, in order
  line      : Option LineKind -- the text line in progress
  chars     : List Byte       -- its 32 characters as rendered, in the first line buffer
  ahead     : Option (LineKind × List Byte)   -- the line rendered in the second buffer
  due       : Bool            -- it follows the previous text line, so that its first step is due
  rendered  : Bool
  isRepeat  : Bool            -- carries the repeat mark
  reprint   : Bool            -- stopped by gating, to be printed again whole though the strip is paused (R360)
  late      : Bool            -- this pass is blank because the line was late
  dotLine   : Nat             -- next dot line of it, 0 to 27
  resumeDue : Bool            -- the resume line is still to print after the reset (R362)
  dateDue   : Bool
  dateLast  : Option Int      -- days of the last date printed
  gated     : Bool
  sensors   : BitVec 3
  jamWait   : Bool
  gateUs    : Nat             -- controller time the gating began
  throttled : Bool
  motorOn   : Bool            -- PM_EN_N low
  warm      : Nat             -- slots until the first step after the motor's start (R352)
  softSteps : Nat             -- steps of the slow start still to come
  softSkip  : Bool            -- the next slot fires nothing (R352)
  stepPin   : Bool            -- PM_STEP pulsed in the last slot
  strobe1   : List Bool       -- dots of pass 1 in the last slot
  strobe2   : List Bool       -- dots of pass 2
  fired     : List (List Bool) -- dots fired in the latest 64 slots, newest first
  energy    : List Nat        -- energy of the latest 200 slots in 0.5 µJ, newest first
  lastLines : List (List Bool) -- the two preceding dot lines
  lateCount : Half
  gateCount : Half
  waitDuty  : Half            -- slots waited under R354
  waitHeat  : Half            -- slots waited under R355
  lines     : Word
  blanks    : Nat             -- blank lines fed since the last printed line (R364)
deriving DecidableEq, Repr

/-! ## Fuses and marionette port (chapters 16, 18) -/

/-- A fuse row: 128 data bits and the 9-bit check field (R333). -/
structure FuseRow where
  data  : BitVec 128
  check : BitVec 9
deriving DecidableEq, Repr

/-- A tested-combination entry (Table 16-6). -/
structure TestedEntry where
  level    : Byte
  plainRom : Bool
  abi      : Half
  fmtMin   : Half
  fmtMax   : Half
  compMin  : Word
  compMax  : Word
  portRevs : Word
  patchMin : Word
  patchMax : Word
deriving DecidableEq, Repr

/-- What the mask ROM of this controller holds: its version, engine ABI level, supported image formats and ABI levels,
and its tested combinations (R301, R305, R345). -/
structure Rom where
  version : Word
  abi     : Half
  formats : List Half
  abis    : List Half
  tested  : List TestedEntry
  hash    : BitVec 256
deriving DecidableEq, Repr

/-- The fuse array, and what was sensed at the last reset (R330, R337, R338). -/
structure Fuses where
  rom       : Rom
  rows      : Vector FuseRow 32
  spares    : Vector FuseRow 2
  redirect  : Vector Half 3   -- copies A, B, C of the redirection table
  badRows   : List Nat        -- rows whose cells cannot be programmed
  sparesReg : Word            -- FU_SPARES as the last fuse sense found it (R330)
  redirUsed : Half            -- the voted table of the last fuse sense
  safecfg   : Word            -- FU_SAFECFG as sensed
  locks     : Word            -- FU_LOCKS as sensed
  patchVer  : Word
  abiReg    : Word            -- FU_ABI
  compiler  : Word
  revs      : Vector Byte 8
  mismatch  : Half            -- FU_MISMATCH
  site      : Word
  node      : Half
  baseAddr  : BitVec 7
  xfer      : Option (Nat × List Host.Cell × Nat)  -- PATCH_INSTALL transfer: length, bytes, received
  patchSet  : List Byte       -- the patch set in use
  armed     : BitVec 24       -- patch slots armed
deriving DecidableEq, Repr

/-- The marionette port (Tables 15-12, 18-1, 18-3). -/
structure Debug where
  unlocked   : Bool
  challenge  : Option DWord
  chalUs     : Nat            -- validity left
  respWords  : Vector Word 8
  failures   : Byte
  refuseUs   : Bool           -- new challenges refused after a wrong response (R369)
  lastReason : BitVec 4
  coreHalted : Bool
  haltUs     : Nat            -- controller time of the halt
  bps        : Vector Word 8
  wpAddr     : Vector Word 4
  wpCtrl     : Vector Word 4
  haltCount  : Half
  engCount   : Half
  haltAddr   : Word
  clockUs    : Nat            -- time since the probe clock was seen
  respStatus : Byte           -- status byte of the last response
  respData   : Option Word    -- DATA of the last response
  respCrc    : Option Byte    -- and its CRC-8
deriving DecidableEq, Repr

/-- The whole block. -/
structure State where
  pending : List Instr        -- commands that wait, first in first out
  clock   : Nat               -- µs of clock seen since power-on, unaffected by steps of the counter
  fresh   : Nat               -- free values drawn so far (the model's own)
  dev     : Dev
  aorf    : Aorf
  tb      : TimeBase
  set     : Settings
  nv      : Nv
  jr      : Journal
  hb      : HostBus
  cm      : Cmd
  en      : Engine
  sf      : Sfl
  ent     : Entropy
  links   : Vector Link 8
  ports   : Vector PortSt 8
  short   : ShortSt
  wp      : Printer
  fu      : Fuses
  db      : Debug
  sram    : List Host.Cell    -- SRAM bytes the probe has written, by offset; every other byte is free
deriving DecidableEq, Repr

/-! ## The state right after reset -/

/-- Compiler defaults of Table 15-13 (R404), in force while no image is active. -/
def Settings.compiler : Settings :=
  { src := 3, ppsEdge := false, irigCf := false, tsyncEn := false, tsyncAlways := false, tsyncWidth := 10,
    comp := 0, holdoverMax := 3600, speed := 0, attnPer := 100, attnEn := 0xFF, silence := 0,
    dark := 4, printClass := 3, printEnable := false, paused := false,
    evEnable := #v[0xFFFFFFFF, 0xFFFFFFFF, 0xFFFFFFFF, 0xFFFFFFFF, 0xFFFFFFFF, 0xFFFFFFFF, 0xFFFFFFFF, 0x00007FFF] }

/-- An empty bank (Table 12-2). -/
def Bank.blank : Bank :=
  { state := .empty, imgSeq := 0, length := 0, bodyCrc := 0, format := 0, abi := 0, compiler := 0, body := [] }

/-- No gap running. -/
def Gap.none : Gap :=
  { active := false, info := 0, notice := 0, warning := 0, trip := 0, fault := 0, lockout := 0, saturated := false }

/-- Parameter items of a new controller: nothing activated, nothing acknowledged (R285, R405). -/
def Params.new : Params :=
  { activeB := false, activeSeq := 0, hasActive := false, ack := 0, headCheck := 0, gap := Gap.none, utcOffset := 0,
    chMinutes := Vector.replicate 48 0, brMinutes := Vector.replicate 16 0, failAge := none,
    decay := Vector.replicate 128 0, cursorSeq := 0, cursorLine2 := true, cursorHost := false, skipTo := none,
    started := none, text := [], feed := none, feedDone := 0, testReq := [], testDone := 0, degraded := false,
    nvaOut := false, nvbOut := false }

/-- The store of a new controller. -/
def Nv.new : Nv :=
  { bankA := Bank.blank, bankB := Bank.blank, live := Params.new, stored := Params.new, paramSeq := 0, due := false,
    records := [], head := 0, torn := none, outcomes := Vector.replicate 64 none, chains := [], lastE := 0,
    patchA := [], patchB := [], ring := [], ringPos := 64, slots := [], lostA := none, lostB := none,
    unreached := none, worn := [] }

/-- Volatile journal state after a reset. -/
def Journal.new : Journal := { queue := [], full75 := false, retries := 0, recovered := 0, pend := Vector.replicate 8 0 }

/-- Host bus state after a reset (Table 13-6). -/
def HostBus.new : HostBus :=
  { base := 0, clash := false, causes := 0, attnSeq := 0, attnDue := false, backoff := false, losses := 0, sent := [],
    jptr := 1, errArb := 0, errNack := 0, errPart := 0, errTarget := 0, silent := false, silentUs := 0,
    silenceOn := false, stuck := false, readData := [], nacked := false }

/-- Command layer after a reset (R282, R296). -/
def Cmd.new : Cmd :=
  { replies := [], inFlight := 0, running := none, waits := [], errCrc := 0, errLength := 0, errBusy := 0,
    errWindow := 0, accepted := 0, voided := 0, gapTimeouts := 0, buffer := none, hostBool := 0, hostBoolSet := 0,
    hostWord := Vector.replicate 32 none }

/-- The mode machine at an entry into RUN (R192). -/
def ModeSt.new : ModeSt :=
  { oldMode := .auto, pending := false, selected := false, pattern := 3, patCount := 0, badCount := 0, fault := false,
    lastW1 := 0, diff := [] }

/-- The engine after a reset (Table 3-5, Table 7-5). -/
def Engine.new : Engine :=
  { image := none, scanning := false, seedWait := false, seedReq := false, lfsr := 0,
    scanNo := 0, published := false, words := [], blocks := [], holds := [], mode := ModeSt.new, reverify := false,
    reverifyOk := false, check := 0, execLast := 0, execMax := 0, opVector := 0, hold := false, snapAddr := 0,
    snapRead := none, snapNew := none, beyond := [], debug := false, dryStep := 0, haltScan := false, haltedRun := false,
    haltedAgain := false, demanded := 0 }

/-- A producer that has not started. -/
def ProdSt.new : ProdSt :=
  { running := false, waiting := false, drawReq := false, cid := 0, nextSeq := 0, newLeft := 0, sent := 0, last := none,
    since := 0, due := none }

/-- A consumer in EMPTY (R231). -/
def ConsSt.new : ConsSt :=
  { state := .empty, cid := 0, last := 0, lastUs := 0, lastClock := 0, age := 0x80000000, bits := 0, w0 := 0, w1 := 0, rrNow := none,
    rrNext := none, rrBad := [], lost := false }

/-- SFL state after a reset (R241). -/
def Sfl.new : Sfl :=
  { outq := [], inq := [], outLoss := 0, inLoss := 0, prods := Vector.replicate 32 ProdSt.new,
    conss := Vector.replicate 32 ConsSt.new, txCount := 0, rxCount := 0, errCrc := 0, errAddr := 0, errCid := 0,
    errSeq := 0, errAge := 0, lossIn := 0, lossOut := 0, rxDup := 0 }

/-- The entropy source after a reset: in its start-up test (R238). -/
def Entropy.new : Entropy :=
  { state := .startup, pool := [], waiting := [], failures := 0, lastRct := false, lastApt := false, failed := 0,
    lastBit := false, runLen := 0, aptBit := false, aptPos := 0, aptHits := 0, block := [] }

/-- A link that has not been started (Table 4-8). -/
def Link.new : Link :=
  { phase := 0, quarantine := false, strapErr := false, entropyWait := false, straps := 0, rev := 0, delay := 0,
    delays := [], ulErr := 0, dlErr := 0, badRun := 0, echoLast := 0, echoRun := 0, identRun := 0, lastIdent := 0,
    paramNext := 0, okRun := 0, seed := 0, seedReady := false, seedSent := 0, scanBase := 0, runSent := 0, scanned := false, later := false,
    fold := none, failed := 0,
    failShown := false, held := true, startUs := 0, writes := [], codes := Vector.replicate 6 0,
    brState := Vector.replicate 2 0, aux := 0, cycle := 0, tx := 0, levels := 0, refLevels := 0, outState := 0, supply := 0,
    settling := 0, inLatched := 0, chLatches := Vector.replicate 6 0, uf1V := 0, uf2V := 0, temp := 0, loadI := 0,
    latched := 0, dlLast := 0, ulBad := [], dlBad := [], cycles := 0, cycleClock := 0, outNow := 0, ulOver := false, dlOver := false, diags := [], untested := 0,
    refused := 0, seenClosed := 0, judged := false, testing := 0 }

/-- An input whose filter starts afresh: OFF and SETTLING (R105). -/
def InputSt.new : InputSt :=
  { accepted := false, settling := true, rawNow := false, sampleNow := false, latch := false, rawAge := none, runAge := none,
    backAge := none, setAge := none, noted := false, blank := false, blankEnd := none, cleanNow := 0, cleanFrames := 0, skip := 0, degraded := 0, healthy := 0,
    degShown := false, learning := false, learnData := [], learnFail := 0 }

/-- A source before the first RUN frame of a link (R106). -/
def SourceSt.new : SourceSt := { on := false, dark := false, darkAt := 0, shorted := false }

/-- A channel after a reset of the port's logic: open, latches clear, no ON-test yet (R122, R123). -/
def ChanSt.new : ChanSt :=
  { closed := false, brake := .off, wanted := .off, pullIn := false, portOpen := false, testFail := false,
    overcurr := false, overload := false, thermal := false, supply := false, onPassed := false, onDue := false,
    offPending := false, wantClose := false, asked := false, offAt := 0, onAt := 0, charged := false,
    chargedFw := false, chargedDs := false }

/-- The logic of port n in reset (R95, R380); supplies at their typical 24 V (Table 20-2). Until an image comes, every parameter
word is 0 and the port uses it as clamped (DESIGN CHOICE, log entry 123). -/
def PortSt.new (n : BitVec 3) : PortSt :=
  { fitted := true, powered := true, revision := 0x41, pa := n, straps := 0, phase := .silent, syncRun := 0,
    words := List.replicate 128 0, paramOk := false, seed := 0, seedRun := 0, seedLast := 0, scanX := 0, scanAge := 0,
    scanPer := 0, seqScans := none, gotRun := false, seqFault := false, badRun := 0, dlErr := 0, echo := 0, tx := 0, samplePh := 0,
    phaseLo := none, framePhase := none, phaseAt := 0, offEnd := none, learnReq := 0, aux := 0, auxCmd := 0, auxTrip := 0, auxShed := false, shutdown := false, ssa := 0,
    ctExpired := true, inputs := Vector.replicate 16 InputSt.new, sources := Vector.replicate 8 SourceSt.new,
    chans := Vector.replicate 6 ChanSt.new, edges := [], discards := 0, diagq := [], supply := 0, uf1V := 96,
    uf2V := 96, temp := 89, loadI := 0, hot := false, overloaded := false }

/-- No episode open (R115). -/
def ShortSt.new : ShortSt := { pairs := [], foreign := [], supplied := [], frameClock := 0 }

/-- The printer after a reset: idle, resume and date lines due (R362, R365). -/
def Printer.new : Printer :=
  { dirPin := true, shifts := [], headLatch := List.replicate 384 false, strobes := [], line := none, chars := [], ahead := none, due := false, rendered := false, isRepeat := false, reprint := false, late := false, dotLine := 0, resumeDue := true,
    dateDue := true, dateLast := none, gated := false, sensors := 0, jamWait := false, gateUs := 0,
    throttled := false, motorOn := false, warm := 0, softSteps := 8, softSkip := false, stepPin := false, strobe1 := [],
    strobe2 := [], fired := [], energy := [], lastLines := [], lateCount := 0, gateCount := 0, waitDuty := 0,
    waitHeat := 0, lines := 0, blanks := 0 }

/-- A blank fuse row (R333). -/
def FuseRow.blank : FuseRow := { data := 0, check := 0 }

/-- The mask ROM of the modelled controller. -/
def Rom.new : Rom :=
  { version := 0x00010300, abi := 1, formats := [1], abis := [1],
    tested := [{ level := 0xFF, plainRom := true, abi := 1, fmtMin := 1, fmtMax := 1, compMin := 0, compMax := 0xFFFFFFFF,
                 portRevs := 1, patchMin := 1, patchMax := 0 }],
    hash := 0 }

/-- The fuses as shipped (Table 16-1, R339): eight ports enabled, debug locked, counter 0, customer row 23. -/
def Fuses.new : Fuses :=
  { rom := Rom.new,
    rows := #v[⟨1, 0x2⟩, ⟨1, 0x2⟩, ⟨1, 0x2⟩, ⟨1, 0x2⟩, ⟨8, 0x10⟩, ⟨0x7000000000000000000000000, 0⟩,
      .blank, .blank, .blank, .blank, .blank, .blank, .blank, .blank, .blank, .blank, .blank, .blank,
      ⟨0x1c00001c0fff, 0⟩, ⟨1, 0x2⟩, ⟨1, 0x2⟩, ⟨1, 0x2⟩, ⟨1, 0x2⟩, ⟨0x40, 0x80⟩,
      .blank, .blank, .blank, .blank, .blank, .blank, .blank, .blank],
    spares := Vector.replicate 2 .blank, redirect := Vector.replicate 3 0, badRows := [], sparesReg := 0x07FFFF00, redirUsed := 0,
    safecfg := 0, locks := 0, patchVer := 0, abiReg := 0, compiler := 0, revs := Vector.replicate 8 0,
    mismatch := 0xFF00, site := 0, node := 0, baseAddr := 0, xfer := none, patchSet := [], armed := 0 }

/-- The marionette port after a reset other than DEBUG (R331). -/
def Debug.new : Debug :=
  { unlocked := false, challenge := none, chalUs := 0, respWords := Vector.replicate 8 0, failures := 0,
    refuseUs := false, lastReason := 0, coreHalted := false, haltUs := 0, bps := Vector.replicate 8 0,
    wpAddr := Vector.replicate 4 0, wpCtrl := Vector.replicate 4 0, haltCount := 0, engCount := 0, haltAddr := 0,
    clockUs := 1000000, respStatus := 0xFF, respData := none, respCrc := none }

/-- The reset state of the pins (Table 19-2). -/
def Pins.new : Pins :=
  { xtal := true, conv := true, busFree := true, addrPull := true, dbgPull := true, pulls := true, phCk := false, phDi := false,
    phLatN := true }

/-- Device registers with a POWER_ON reset asserted (R57, Table 19-2: FAULT_N and SAFE_OK low). -/
def Dev.new : Dev :=
  { phase := .inReset, dvState := .boot, heldState := .boot, cause := 1, causesSeen := 1, defaultsRestored := true,
    wakeSrc := false, lockoutHeld := false, faultCode := 0, faultDetail := 0, faultCount := 0, noConfig := false,
    patchActive := false, mode := .auto, handover := 0, uptimeUs := 0, opUs := 0, pllLock := false, monTestOk := false,
    monArmed := true, clockWhy := 0, stopResumed := false, faultN := false, safeOk := false, tsyncOut := false,
    pins := Pins.new, blinkStep := 0, tempHigh := false, overTemp := false, dieTemp := 89, straps := 0, wakePin := false, discarded := false }

/-- The always-on register file after POWER_ON (Table 3-5: lost, to 0), with its check (R67). -/
def Aorf.new : Aorf :=
  { lockout := false, settingsDiffer := false, dormantPending := false, lastState := 0, resetCount := 0,
    dormantCount := 0, dormantCsn := 0, crc := 0x2a45, user := Vector.replicate 8 0 }

/-- The time base after a reset that loses the counter (R34). -/
def TimeBase.new : TimeBase :=
  { counter := 0, acc := 0, timeHi := 0, rate := 0, quality := .unsync, qualityWas := none, lockSecs := 0, lockUs := 0,
    holdoverUs := 0, leapPending := false, leapDelete := false, leapDue := false, leapSkip := false, timeSetValid := false, ppsValid := false, irigValid := false,
    drift := false, devPpm := 0, ppsCheck := false, driftRun := 0, clearRun := 0, ppsStarted := false,
    ppsMissed := false, ppsLockRun := 0, irigLockRun := 0, irigRun := 0, irigLast := none, ppsAcquired := false,
    irigAcquired := false, ppsLocked := false, irigLocked := false, ppsFar := 0, irigFar := 0, irigFmt := 0, irigNoYear := false,
    phaseErr := 0, irigStat := 0 }

/-- The block right after a POWER_ON reset is asserted, with a new controller's store and fuses: the next step is BOOT. -/
def State.reset : State :=
  { pending := [], clock := 0, fresh := 0, dev := Dev.new, aorf := Aorf.new, tb := TimeBase.new,
    set := Settings.compiler, nv := Nv.new, jr := Journal.new, hb := HostBus.new, cm := Cmd.new, en := Engine.new,
    sf := Sfl.new, ent := Entropy.new, links := Vector.replicate 8 Link.new,
    ports := #v[PortSt.new 0, PortSt.new 1, PortSt.new 2, PortSt.new 3, PortSt.new 4, PortSt.new 5, PortSt.new 6,
      PortSt.new 7],
    short := ShortSt.new, wp := Printer.new, fu := Fuses.new, db := Debug.new, sram := [] }

end Sys2Proof.Machine
end

