-- ==== Sys2Proof/Config.lean ====
section
/-! DEFINITION. What the spec leaves to an implementation or does not lay out: uninterpreted constants, of which no
proof can see a value. -/

namespace Sys2Proof.Config

/-- A free 32-bit value, drawn afresh by the counter State.fresh. -/
opaque freeWord : Nat → Word

/-- A body that reads as an image without blocks; the spec lays out no body, so its bytes are free. -/
opaque bareBody : Vector Byte 64

/-- What that body reads as: no signals, no blocks, no bindings, a TP_PERIOD of 8 and every other parameter word 0. -/
def bareImage : Machine.Image :=
  { scanPer := 0, autoRun := false, node := none, hostAddr := 0, format := 0, abi := 0, compiler := 0,
    wcetUs := 0, resultCount := 0, resultCrc := 0, signals := [], blocks := [], order := [], inputs := [], outs := [],
    auxs := [], producers := [], consumers := [], tpPeriod := 8, portWords := Vector.replicate 8 (List.replicate 127 0),
    defaults := Machine.Settings.compiler }

/-- How the engine reads every other image body (the spec does not lay out the body). -/
opaque imageOfOther : List Byte → Option Machine.Image

/-- How the engine reads an image body. PRESUMED (log entry 29): that some body of 64 bytes reads as an image without blocks. -/
def imageOfBody (body : List Byte) : Option Machine.Image :=
  if body = bareBody.toList then some bareImage else imageOfOther body

/-- FORMAT, ABI and COMPILER as the image's own preamble gives them (R305). -/
opaque preamble : List Byte → Half × Half × Word

/-- The body offset of the preamble's field number n (R305, reason 2). -/
opaque preambleOffset : List Byte → Nat → Word

/-- The body offset of the record of block n (R305, reason 3). -/
opaque blockOffset : List Byte → Nat → Word

/-- The block that reason 3 names where the broken rule is no one block's: the body does not read as an image, or a binding
breaks R170 or R172. -/
opaque brokenBlock : List Byte → Nat

/-- D_0 of a dry scan, drawn from the fixed test seed of R159, whose value the spec does not give (R374). -/
opaque testD0 : Word

/-- Where the levels of an input switch between the bounds of Table 5-1, by its TYPE: which of them, 0 the OFF and 1 the ON
level. -/
opaque inputLevel : Nat → Nat → Nat

/-- What the conditioner of the entropy source makes of 512 raw bits; its function is internal (R237). -/
opaque conditioner : List Bool → DWord

/-- What stands in a byte of a store entry that the spec puts no byte into (Table 14-5, R247). -/
opaque entryFill : Byte

/-- The record format of a parameter record (R247). -/
opaque paramFormat : Half

/-- How the items stand in the body of a parameter record; the spec does not lay it out (R247). -/
opaque paramBody : Machine.Params → List Byte

/-- A word of the mask ROM, by byte address (Table 18-2). -/
opaque romWord : Nat → Word

/-- Row n of the glyph of a character code of the 12 × 24 font (R356). -/
opaque glyph : Byte → Nat → BitVec 12

end Sys2Proof.Config
end

