-- ==== Sys2Proof/Machine/Flags.lean ====
section
/-! DEFINITION. Status words and flags: every register of the host register file that only shows other state, computed
from that state (Tables 3-9 to 3-12, 1-4, 2-4 to 2-6, 4-8, 4-9, 6-8, 6-9, 7-4, 7-5, 11-6, 12-7, 13-6, 14-9, 15-8 to
15-12, 17-5). -/

namespace Sys2Proof.Machine

/-- A word from fields given as (lowest bit, value). -/
def pack (fields : List (Nat × Nat)) : Word :=
  BitVec.ofNat 32 (fields.foldl (fun a f => a + f.2 * 2 ^ f.1) 0)

/-- n held at its maximum m. -/
def satNat (m n : Nat) : Nat := if n < m then n else m

/-- A word of 32 bits that saturates. -/
def satWord (n : Nat) : Word := BitVec.ofNat 32 (satNat 0xFFFFFFFF n)

/-- The code of a device state (Table 0-3). -/
def DvState.code : DvState → Byte
  | .boot => 0x01 | .verify => 0x02 | .stop => 0x03 | .run => 0x04 | .fault => 0x05 | .mismatch => 0x06
  | .lockout => 0x07 | .dormantEntry => 0x08 | .debugHalt => 0x09

/-- The code of a mode (Table 9-1). -/
def Mode.code : Mode → Nat
  | .auto => 0 | .localMode => 1 | .service => 2

/-- The mode of a code. -/
def Mode.ofCode : Nat → Mode
  | 1 => .localMode | 2 => .service | _ => .auto

/-- The code of a time quality (Table 2-2). -/
def Quality.code : Quality → Nat
  | .unsync => 0 | .holdover => 1 | .lockedPps => 2 | .lockedIrig => 3

/-- TB_STATUS bits 7:0, the quality byte of a record (R53, Table 2-5). -/
def TimeBase.statusByte (t : TimeBase) : Byte :=
  BitVec.ofNat 8 (t.quality.code + t.leapPending.toNat * 4 + t.leapDelete.toNat * 8 + t.timeSetValid.toNat * 16
    + t.ppsValid.toNat * 32 + t.irigValid.toNat * 64 + t.drift.toNat * 128)

/-- The device holds station time (R43). -/
def TimeBase.holds (t : TimeBase) : Bool := t.quality != .unsync

/-- The source in use: in AUTO, IRIG while it is valid and PPS otherwise (R40). 0 none, 1 PPS, 2 IRIG. -/
def activeSrc (s : State) : Nat :=
  match s.set.src.toNat with
  | 1 => if s.tb.ppsValid then 1 else 0
  | 2 => if s.tb.irigValid then 2 else 0
  | 3 => if s.tb.irigValid then 2 else if s.tb.ppsValid then 1 else 0
  | _ => 0

/-- TB_STATUS (Table 2-5). -/
def tbStatus (s : State) : Word :=
  pack [(0, s.tb.statusByte.toNat), (8, activeSrc s), (10, s.tb.irigFmt.toNat), (13, s.tb.irigNoYear.toNat)]

/-- TB_CTRL (Table 2-6). -/
def tbCtrl (s : State) : Word :=
  pack [(0, s.set.src.toNat), (2, s.set.ppsEdge.toNat), (3, s.set.irigCf.toNat), (4, s.set.tsyncEn.toNat),
    (5, s.set.tsyncAlways.toNat), (16, s.set.tsyncWidth.toNat)]

/-- TB_ERR_BOUND: 2 µs locked, growing by 0.5 µs per second in HOLDOVER, all ones in UNSYNC (Tables 2-2, 2-4). -/
def tbErrBound (s : State) : Word :=
  match s.tb.quality with
  | .unsync => 0xFFFFFFFF
  | .holdover => satWord (2 + (s.tb.holdoverUs + 1999999) / 2000000)
  | _ => 2

/-! ## Journal sequences (R405) -/

/-- The next value of a sequence that skips 0. -/
def seqNext (a : Word) : Word := if a = 0xFFFFFFFF then 1 else a + 1

/-- The distance from a to b: (b − a) mod (2^32 − 1). -/
def seqDist (a b : Word) : Nat := (b.toNat + 0xFFFFFFFF - a.toNat) % 0xFFFFFFFF

/-- The value n steps after a. -/
def seqAdd (a : Word) (n : Nat) : Word :=
  if n = 0 then a else BitVec.ofNat 32 ((a.toNat + n - 1) % 0xFFFFFFFF + 1)

/-- a lies before b: the distance is 1 to 2^31 − 1. -/
def seqBefore (a b : Word) : Bool := 1 ≤ seqDist a b && seqDist a b ≤ 0x7FFFFFFF

/-- The event journal's slots in each macro (Table 12-1). -/
def journalSlots : Nat := 22528

/-- The slot of a sequence (R249). -/
def slotOf (q : Word) : Nat := (q.toNat - 1) % journalSlots

/-- The record of an event journal slot (R249). -/
def recordInSlot (k : Nat) (l : List Record) : Option Record := l.find? (fun r => slotOf r.seq == k)

/-- U, the unacknowledged records (R254). -/
def jrUnack (s : State) : Nat := seqDist s.nv.live.ack s.nv.head

/-- The journal is full (R254). -/
def journalFull (s : State) : Bool := 22527 ≤ jrUnack s

/-- The next slot still holds a record that is not acknowledged, so that it may not be overwritten (R253): with U below 22,528 only
where the sequence wraps, since its length is no multiple of the slots (DEDUCED, log entry 125). -/
def nextSlotHeld (s : State) : Bool :=
  match recordInSlot (slotOf (seqNext s.nv.head)) s.nv.records with
  | some r => seqBefore s.nv.live.ack r.seq
  | none => false

/-- The writer has no slot for an event record (R253, R254). -/
def noSlot (s : State) : Bool := journalFull s || nextSlotHeld s

/-- JR_OLDEST: the oldest record held; with none held, the next sequence. -/
def jrOldest (s : State) : Word := ((s.nv.records.head?).map Record.seq).getD (seqNext s.nv.head)

/-- Events counted in the present gap. -/
def Gap.total (g : Gap) : Nat := g.info + g.notice + g.warning + g.trip + g.fault + g.lockout

/-- The active and the inactive bank (R245). -/
def activeBank (s : State) : Bank := if s.nv.live.activeB then s.nv.bankB else s.nv.bankA
def inactiveBank (s : State) : Bank := if s.nv.live.activeB then s.nv.bankA else s.nv.bankB

/-- A committed staged configuration exists (Table 3-12). -/
def stagedValid (s : State) : Bool := (inactiveBank s).state == .committed && !s.dev.discarded

/-- The device runs on one macro (R258). -/
def degraded (s : State) : Bool := s.nv.live.nvaOut || s.nv.live.nvbOut

/-- Both macros are out of service (R257). -/
def nvBothOut (s : State) : Bool := s.nv.live.nvaOut && s.nv.live.nvbOut

/-- JR_ registers 0x30 to 0x39 (Table 12-7). -/
def jrReg (i : Nat) (s : State) : Word :=
  match i with
  | 0 => pack [(0, s.jr.full75.toNat), (1, (journalFull s).toNat), (2, s.nv.live.gap.active.toNat),
      (4, satNat 127 s.jr.queue.length)]
  | 1 => s.nv.head
  | 2 => s.nv.live.ack
  | 3 => jrOldest s
  | 4 => BitVec.ofNat 32 (jrUnack s)
  | 5 => satWord s.nv.live.gap.total
  | 6 => pack [(0, s.nv.live.nvaOut.toNat), (1, s.nv.live.nvbOut.toNat), (8, s.jr.retries.toNat),
      (16, s.jr.recovered.toNat)]
  | 7 => pack [(0, s.nv.live.activeB.toNat), (1, (stagedValid s).toNat)]
  | 8 => s.nv.live.activeSeq
  | 9 => s.nv.paramSeq
  | _ => 0

/-! ## Device registers -/

/-- Attention is sent in five states (R271). -/
def attentionState (s : State) : Bool :=
  match s.dev.dvState with
  | .stop | .run | .fault | .mismatch | .lockout => true
  | _ => false

/-- An enabled attention cause is set and the state sends attention (R271). -/
def attentionOutstanding (s : State) : Bool := (s.hb.causes &&& s.set.attnEn) != 0 && attentionState s

/-- DV_FLAGS (Table 3-12). -/
def dvFlags (s : State) : Word :=
  pack [(0, (degraded s).toNat), (1, s.dev.noConfig.toNat),
    (2, ((s.en.image.map Image.autoRun).getD false).toNat), (3, (stagedValid s).toNat),
    (4, s.dev.patchActive.toNat), (5, (s.links.toList.any Link.quarantine).toNat),
    (6, (attentionOutstanding s).toNat), (7, s.hb.silent.toNat), (8, s.jr.full75.toNat),
    (9, (s.ent.state == .locked).toNat), (10, s.db.unlocked.toNat),
    (11, (s.links.toList.any (fun l => l.untested != 0)).toNat)]

/-- DV_RESET_CAUSE (Table 3-10). -/
def dvResetCause (s : State) : Word :=
  pack [(0, s.dev.cause.toNat), (4, s.dev.causesSeen.toNat), (13, s.dev.defaultsRestored.toNat),
    (14, s.dev.wakeSrc.toNat), (15, s.dev.lockoutHeld.toNat), (16, s.aorf.resetCount.toNat)]

/-- DV_FAULT (Table 3-11). -/
def dvFault (s : State) : Word :=
  pack [(0, s.dev.faultCode.toNat), (8, s.dev.faultDetail.toNat), (16, s.dev.faultCount.toNat),
    (24, (s.dev.dvState == .fault).toNat)]

/-- The power-up mode of the active image; AUTO without one (R404). -/
def Image.pwrUp (im : Image) : Mode :=
  ((im.blocks.find? (fun b => b.type == .modesel)).map (fun b => b.params.pwrUp)).getD .auto

/-- The power-up mode of the active image. -/
def pwrUpMode (s : State) : Mode := (s.en.image.map Image.pwrUp).getD .auto

/-- DV_MODE (Table 3-9). -/
def dvMode (s : State) : Word :=
  pack [(0, s.dev.mode.code), (2, (pwrUpMode s).code), (4, (s.dev.handover != 0).toNat)]

/-- DV_CLOCK (Table 1-4). -/
def dvClock (s : State) : Word :=
  pack [(0, s.dev.pllLock.toNat), (1, s.dev.monTestOk.toNat), (2, s.tb.drift.toNat), (3, s.tb.ppsCheck.toNat),
    (16, s.tb.devPpm.toNat)]

/-- DV_ registers 0x00 to 0x0F (Table 3-9). -/
def dvReg (i : Nat) (s : State) : Word :=
  match i with
  | 0 => BitVec.ofNat 32 s.dev.dvState.code.toNat
  | 1 => dvResetCause s
  | 2 => dvFault s
  | 3 => dvFlags s
  | 4 => dvMode s
  | 5 => s.en.scanNo
  | 6 => dvClock s
  | 7 => satWord (s.dev.uptimeUs / 1000000)
  | i => s.aorf.user[i - 8]?.getD 0

/-- TB_ registers 0x10 to 0x1F (Table 2-4). -/
def tbReg (i : Nat) (s : State) : Word :=
  match i with
  | 0 => tbStatus s
  | 1 => tbCtrl s
  | 2 => s.tb.counter.setWidth 32
  | 3 => s.tb.timeHi
  | 4 => s.nv.live.utcOffset
  | 5 => s.tb.phaseErr
  | 6 => s.tb.rate
  | 7 => tbErrBound s
  | 8 => s.set.comp.signExtend 32
  | 9 => s.set.holdoverMax
  | 10 => s.tb.irigStat
  | 11 => s.tb.lockSecs
  | _ => 0

/-- HB_ registers 0x20 to 0x2F (Table 13-6). -/
def hbReg (i : Nat) (s : State) : Word :=
  match i with
  | 0 => pack [(0, s.hb.base.toNat), (7, s.dev.straps.toNat), (9, s.hb.clash.toNat),
      (10, (attentionOutstanding s).toNat), (16, s.hb.causes.toNat), (24, s.hb.attnSeq.toNat)]
  | 1 => s.set.speed.setWidth 32
  | 2 => ((s.en.image.map Image.hostAddr).getD 0).setWidth 32
  | 3 => s.set.attnPer.setWidth 32
  | 4 => s.set.attnEn.setWidth 32
  | 5 => s.set.silence.setWidth 32
  | 6 => s.hb.jptr
  | 7 => pack [(0, s.hb.errArb.toNat), (8, s.hb.errNack.toNat), (16, s.hb.errPart.toNat), (24, s.hb.errTarget.toNat)]
  | 8 => satWord (s.hb.silentUs / 1000)
  | _ => 0

/-- The unresolved chain of a CSN. -/
def chainOf (c : Word) (s : State) : Option Chain := s.nv.chains.find? (fun k => k.csn == c)

/-- A chain waits on a missing CSN: one between E and its own that is not accepted (R289). -/
def waitsOnGap (s : State) (c : Chain) : Bool :=
  (List.range (seqDist s.nv.lastE c.csn)).any (fun k => k != 0 && (chainOf (seqAdd s.nv.lastE k) s).isNone)

/-- A missing CSN holds up a waiting command. -/
def gapWaits (s : State) : Bool := s.nv.chains.any (waitsOnGap s)

/-- The time waited on the present gap: that of the oldest-accepted command that waits on a missing CSN (R289, R296). -/
def gapUs (s : State) : Nat :=
  match s.nv.chains.find? (waitsOnGap s) with
  | some c => ((s.cm.waits.find? (fun w => w.1 == c.csn)).map Prod.snd).getD 0
  | none => 0

/-- CM_ registers 0x3C to 0x3F (Table 14-9). -/
def cmReg (i : Nat) (s : State) : Word :=
  match i with
  | 0 => s.nv.lastE
  | 1 => pack ((List.range 8).map (fun k => (k, (s.nv.chains.any (fun c => c.csn == seqAdd s.nv.lastE (k + 1))).toNat))
      ++ [(8, s.cm.inFlight.toNat), (16, satNat 0xFFFF (gapUs s / 1000))])
  | 2 => pack [(0, s.cm.errCrc.toNat), (8, s.cm.errLength.toNat), (16, s.cm.errBusy.toNat), (24, s.cm.errWindow.toNat)]
  | 3 => pack [(0, s.cm.accepted.toNat), (16, s.cm.voided.toNat), (24, s.cm.gapTimeouts.toNat)]
  | _ => 0

/-! ## Links and ports -/

/-- PT_LINKn (Table 4-8). -/
def ptLink (l : Link) : Word :=
  pack [(0, l.phase % 8), (3, l.quarantine.toNat), (4, l.strapErr.toNat), (5, l.entropyWait.toNat),
    (6, l.straps.toNat), (9, l.rev.toNat % 128), (16, l.delay.toNat)]

/-- PT_LINKERRn (Table 4-9). -/
def ptLinkErr (l : Link) : Word := pack [(0, l.ulErr.toNat), (16, l.dlErr.toNat)]

/-- The channels with at least one latch of Table 6-1 set, as reported (Table 6-8). -/
def latchedMask (v : Vector Byte 6) : BitVec 6 :=
  BitVec.ofNat 6 ((List.range 6).map (fun c => ((v[c]?.getD 0) != 0).toNat * 2 ^ c)).sum

/-- PT_PORTp (Table 6-8). -/
def ptPort (l : Link) : Word :=
  pack [(0, l.outState.toNat), (6, l.latched.toNat), (12, l.untested.toNat), (18, l.refused.toNat), (24, l.supply.toNat)]

/-- PT_SUPp (Table 6-9). -/
def ptSup (l : Link) : Word :=
  pack [(0, l.uf1V.toNat), (8, l.uf2V.toNat), (16, l.temp.toNat), (24, l.loadI.toNat)]

/-- PT_ registers 0x40 to 0x5F. -/
def ptReg (i : Nat) (s : State) : Word :=
  match s.links[i % 8]? with
  | none => 0
  | some l =>
    match i / 8 with
    | 0 => ptLink l
    | 1 => ptLinkErr l
    | 2 => ptPort l
    | _ => ptSup l

/-! ## Engine registers -/

/-- The scan period in µs of a period code (Table 7-5). -/
def periodUs (code : Nat) : Nat := 250 * 2 ^ code

/-- The scan period of the active image; without one, the shortest. -/
def scanPeriodUs (s : State) : Nat := periodUs ((s.en.image.map (fun i => i.scanPer.val)).getD 0)

/-- A counted coding failure lies within 1,440 operating minutes (R160). -/
def inWindow (s : State) : Bool := (s.nv.live.failAge.map (fun a => decide (a < 1440))).getD false

/-- The number of signals of the active configuration. -/
def signalCount (s : State) : Nat := (s.en.image.map (fun i => i.signals.length)).getD 0

/-- The readable snapshot's value of signal i (R161). -/
def snapValue (s : State) (i : Nat) : Half :=
  match s.en.snapRead with
  | some v => if i < signalCount s then v.values[i]?.getD 0 else 0
  | none => 0

/-- EN_ registers 0x60 to 0x6F (Tables 7-4, 7-5). -/
def enReg (i : Nat) (s : State) : Word :=
  match i with
  | 0 => pack [(0, (s.en.scanning && !s.en.seedWait).toNat), (1, s.en.seedWait.toNat), (2, s.en.reverify.toNat), (3, s.en.reverifyOk.toNat),
      (4, (inWindow s).toNat), (5, (s.en.image.map (fun i => i.scanPer.val)).getD 0)]
  | 1 => pack [(0, s.en.execLast.toNat), (16, s.en.execMax.toNat)]
  | 2 => match s.en.image with
    | some im => pack [(0, im.wcetUs.toNat), (16, periodUs im.scanPer.val * 4 / 5)]
    | none => 0
  | 3 => match s.en.image with
    | some im => pack [(0, im.blocks.length), (16, im.signals.length)]
    | none => 0
  | 4 => s.en.check
  | 5 => (s.nv.live.failAge.map satWord).getD 0xFFFFFFFF
  | 6 => pack [(0, s.en.hold.toNat), (1, s.en.hold.toNat)]
  | 7 => (s.en.snapRead.map Snapshot.scan).getD 0
  | 8 => s.en.snapAddr.setWidth 32
  | 9 => pack [(0, (snapValue s s.en.snapAddr.toNat).toNat), (16, (snapValue s (s.en.snapAddr + 1).toNat).toNat)]
  | 10 => s.fu.rom.abi.setWidth 32
  | _ => 0

/-! ## SFL and entropy registers -/

/-- The node identity in use (R224). -/
def nodeId (s : State) : Half := ((s.en.image.bind Image.node)).getD s.fu.node

/-- One bit for each of 32 connections. -/
def mask32 {α : Type} (v : Vector α 32) (f : α → Bool) : Word :=
  BitVec.ofNat 32 ((List.range 32).map (fun n => ((v[n]?.map f).getD false).toNat * 2 ^ n)).sum

/-- The code of the entropy source's state (Table 11-6). -/
def EntState.code : EntState → Nat
  | .startup => 0 | .healthy => 1 | .unhealthy => 2 | .locked => 3

/-- SF_ registers 0x70 to 0x7F (Table 11-6). -/
def sfReg (i : Nat) (s : State) : Word :=
  match i with
  | 0 => pack [(0, (nodeId s).toNat), (16, ((s.en.image.bind Image.node).isSome).toNat)]
  | 1 => mask32 s.sf.prods ProdSt.running
  | 2 => mask32 s.sf.conss (fun c => c.state == .valid)
  | 3 => s.sf.txCount
  | 4 => s.sf.rxCount
  | 5 => pack [(0, s.sf.errCrc.toNat), (8, s.sf.errAddr.toNat), (16, s.sf.errCid.toNat), (24, s.sf.errSeq.toNat)]
  | 6 => pack [(0, s.sf.errAge.toNat), (8, s.sf.lossIn.toNat), (16, s.sf.lossOut.toNat)]
  | 7 => s.sf.rxDup
  | 8 => pack [(0, s.ent.state.code), (2, s.ent.failures.toNat), (4, s.ent.lastRct.toNat), (5, s.ent.lastApt.toNat),
      (8, satNat 16 s.ent.pool.length), (16, s.ent.failed.toNat)]
  | _ => 0

/-! ## Printer registers -/

/-- A record is to be printed: class at or above WP_CTRL.CLASS, or JOURNAL_GAP (R358). -/
def printable (s : State) (r : Record) : Bool :=
  decide (s.set.printClass.toNat ≤ r.cls.toNat) || (r.source == 228 && r.code == 0x0B03)

/-- A record waits to print: it lies after the cursor and after what a skip line has passed over (R358, R362, R363). -/
def waitsToPrint (s : State) (r : Record) : Bool :=
  printable s r && (s.nv.live.skipTo.map (fun q => seqBefore q r.seq)).getD true &&
    (seqBefore s.nv.live.cursorSeq r.seq || (r.seq == s.nv.live.cursorSeq && !s.nv.live.cursorLine2))

/-- The records that wait to print. -/
def waitingRecords (s : State) : List Record := s.nv.records.filter (waitsToPrint s)

/-- The blank lines that follow the last printed line: none while a text line is in progress, after which they are fed (R364). -/
def blanksFed (w : Printer) : Nat :=
  match w.line with
  | none | some .blankFeed => w.blanks
  | some _ => if w.late then w.blanks else 0

/-- The blank lines still due for the feed target (R364). -/
def feedLeft (s : State) : Nat := (s.nv.live.feed.map Prod.snd).getD 0 - blanksFed s.wp

/-- PAUSED holds the strip: no text line is in progress, and none is to be printed again after gating (R360, R364). -/
def pauseHolds (s : State) : Bool :=
  s.set.paused && (s.wp.line.isNone || (s.wp.dotLine == 0 && !s.wp.late && !s.wp.reprint))

/-- WP_STATUS.state (Table 17-5). -/
def wpState (s : State) : Nat :=
  if s.db.coreHalted then 5
  else if !s.set.printEnable then 6
  else if s.wp.jamWait then 4
  else if s.wp.gated then 3
  else if pauseHolds s then 2
  else if s.wp.line.isSome then 1
  else 0

/-- WP_ registers 0x80 to 0x8F (Table 17-5). -/
def wpReg (i : Nat) (s : State) : Word :=
  match i with
  | 0 => pack [(0, wpState s), (3, s.wp.sensors.toNat), (6, s.wp.throttled.toNat), (8, satNat 15 s.nv.live.text.length),
      (16, satNat 0xFFFF (waitingRecords s).length)]
  | 1 => pack [(0, s.set.dark.toNat), (4, s.set.printClass.toNat), (7, s.set.printEnable.toNat), (8, s.set.paused.toNat)]
  | 2 => s.nv.live.cursorSeq
  | 3 => pack [(0, s.nv.live.cursorLine2.toNat), (1, s.nv.live.started.isSome.toNat), (2, s.nv.live.cursorHost.toNat),
      (8, satNat 255 (feedLeft s))]
  | 4 => pack [(0, s.wp.lateCount.toNat), (16, s.wp.gateCount.toNat)]
  | 5 => pack [(0, s.wp.waitDuty.toNat), (16, s.wp.waitHeat.toNat)]
  | 6 => satWord (s.wp.energy.sum / 2)
  | 7 => s.wp.lines
  | _ => 0

/-! ## Fuse, version and debug registers -/

/-- The logical row of bits 4:0 of a redirection entry, if in use (R334). -/
def redirEntry (b : Byte) : Option Nat := if b.getLsbD 7 then some (b.toNat % 32) else none

/-- The spare that holds a row under a table; of two entries for one row the later spare's holds (log entry 97). -/
def spareOf (table : Half) (r : Nat) : Option Nat :=
  if redirEntry ((table >>> 8).setWidth 8) = some r then some 1
  else if redirEntry (table.setWidth 8) = some r then some 0
  else none

/-- Row r as read after redirection by the table of the last fuse sense. -/
def Fuses.row (f : Fuses) (r : Nat) : FuseRow :=
  match spareOf f.redirUsed r with
  | some k => f.spares[k]?.getD FuseRow.blank
  | none => f.rows[r]?.getD FuseRow.blank

/-- FU_SPARES as a fuse sense finds the table (Table 15-11). -/
def fuSpares (f : Fuses) : Word :=
  let e0 := f.redirUsed.setWidth 8
  let e1 := (f.redirUsed >>> 8).setWidth 8
  pack [(0, (redirEntry e0).isSome.toNat), (1, (redirEntry e1).isSome.toNat),
    (8, (redirEntry e0).getD 0xFF), (16, (redirEntry e1).getD 0xFF),
    (24, (f.redirect[0] == f.redirUsed).toNat), (25, (f.redirect[1] == f.redirUsed).toNat),
    (26, (f.redirect[2] == f.redirUsed).toNat)]

/-- FU_ registers 0xA0 to 0xAF (Table 15-11). -/
def fuReg (i : Nat) (s : State) : Word :=
  let rev (k : Nat) : Nat := (s.fu.revs[k]?.getD 0).toNat
  match i with
  | 0 => s.fu.rom.version
  | 1 => s.fu.patchVer
  | 2 => s.fu.abiReg
  | 3 => s.fu.compiler
  | 4 => pack [(0, rev 0), (8, rev 1), (16, rev 2), (24, rev 3)]
  | 5 => pack [(0, rev 4), (8, rev 5), (16, rev 6), (24, rev 7)]
  | 6 => s.fu.safecfg
  | 7 => s.fu.locks
  | 8 => s.fu.sparesReg
  | 9 => s.fu.mismatch.setWidth 32
  | 10 => ((s.fu.row 0).data >>> 64).setWidth 32
  | 11 => ((s.fu.row 0).data >>> 96).setWidth 32
  | 12 => s.fu.site
  | 13 => pack [(0, s.fu.node.toNat), (16, s.fu.baseAddr.toNat)]
  | _ => 0

/-- SAFECFG fields as latched at the last reset (Table 16-4, FU_SAFECFG). -/
def debugDisabled (s : State) : Bool := s.fu.safecfg.getLsbD 0
def debugLocked (s : State) : Bool := s.fu.safecfg.getLsbD 1
def compatFloor (s : State) : Nat := (s.fu.safecfg >>> 8).toNat % 256
def portsFused (s : State) : Nat := (s.fu.safecfg >>> 16).toNat % 16
def antiRollback (s : State) : Nat := (s.fu.safecfg >>> 20).toNat % 64

/-- DB_ registers 0xB0 to 0xBF (Table 15-12). -/
def dbReg (i : Nat) (s : State) : Word :=
  match i with
  | 0 => pack [(0, (debugDisabled s).toNat), (1, (debugLocked s).toNat), (2, s.db.unlocked.toNat),
      (3, (decide (s.db.clockUs < 1000000)).toNat), (4, s.db.coreHalted.toNat), (5, Bool.toNat s.en.debug),
      (6, s.db.challenge.isSome.toNat), (8, s.db.failures.toNat)]
  | 1 => pack ((List.range 8).map (fun k => (k, ((s.db.bps[k]?.getD 0).getLsbD 0).toNat))
      ++ (List.range 4).map (fun k => (8 + k, ((s.db.wpCtrl[k]?.getD 0).getLsbD 0).toNat)))
  | 2 => pack [(0, s.db.haltCount.toNat), (16, s.db.engCount.toNat)]
  | 3 => s.db.haltAddr
  | 4 => satWord (s.db.chalUs / 1000)
  | _ => 0

/-- The word a host register shows (R328, Table 15-8); reserved indices read 0 (R302). -/
def hrf (i : Nat) (s : State) : Word :=
  match i / 16 with
  | 0 => dvReg i s
  | 1 => tbReg (i - 16) s
  | 2 => hbReg (i - 32) s
  | 3 => if i < 0x3C then jrReg (i - 48) s else cmReg (i - 60) s
  | 4 => ptReg (i - 64) s
  | 5 => ptReg (i - 64) s
  | 6 => enReg (i - 96) s
  | 7 => sfReg (i - 112) s
  | 8 => wpReg (i - 128) s
  | 9 => if i < 0x97 then s.set.evEnable[i - 0x90]?.getD 0
      else if i = 0x97 then (s.set.evEnable[7]?.getD 0) &&& 0x7FFF else s.jr.pend[i - 0x98]?.getD 0
  | 10 => fuReg (i - 160) s
  | 11 => dbReg (i - 176) s
  | _ => 0

end Sys2Proof.Machine
end

