-- ==== Sys2Proof/Machine/Ops.lean ====
section
/-! DEFINITION. The named operations every meaning is built from: bytes and checks, memory cells, events and the journal
writer, attention, parameter records, writes to the store with their read-back. -/

namespace Sys2Proof.Machine

/-! ## Bytes, least significant first (R13) -/

/-- The n low bytes of x, least significant first. -/
def leBytes (n x : Nat) : List Byte := (List.range n).map (fun i => BitVec.ofNat 8 (x / 256 ^ i))

/-- The number a byte list spells, least significant byte first. -/
def ofLe (bs : List Byte) : Nat := bs.foldr (fun b a => b.toNat + 256 * a) 0

/-- The field of n bytes at an offset; missing bytes read 0. -/
def leAt (bs : List Byte) (off n : Nat) : Nat := ofLe ((bs.drop off).take n)

/-- The byte at an offset; a missing one reads 0. -/
def byteAt (bs : List Byte) (off : Nat) : Byte := bs[off]?.getD 0

def halfAt (bs : List Byte) (off : Nat) : Half := BitVec.ofNat 16 (leAt bs off 2)
def wordAt (bs : List Byte) (off : Nat) : Word := BitVec.ofNat 32 (leAt bs off 4)
def dwordAt (bs : List Byte) (off : Nat) : DWord := BitVec.ofNat 64 (leAt bs off 8)
def bytes2 (x : Half) : List Byte := leBytes 2 x.toNat
def bytes4 (x : Word) : List Byte := leBytes 4 x.toNat
def bytes8 (x : DWord) : List Byte := leBytes 8 x.toNat

/-- An event argument from its eight bytes' number. -/
def argOf (fields : List (Nat × Nat)) : DWord :=
  BitVec.ofNat 64 (fields.foldl (fun a f => a + f.2 * 256 ^ f.1) 0)

/-- A list with its element i replaced; nothing beyond the end. -/
def setNth {α : Type} (l : List α) (i : Nat) (x : α) : List α := l.set i x

/-- An 8-bit counter that saturates. -/
def inc8 (x : Byte) : Byte := if x = 0xFF then x else x + 1
/-- A 16-bit counter that saturates. -/
def inc16 (x : Half) : Half := if x = 0xFFFF then x else x + 1
/-- A 32-bit counter that saturates. -/
def inc32 (x : Word) : Word := if x = 0xFFFFFFFF then x else x + 1
/-- An 8-bit counter advanced by n, saturating. -/
def add8 (x : Byte) (n : Nat) : Byte := BitVec.ofNat 8 (satNat 255 (x.toNat + n))

/-! ## Checks -/

/-- One byte into an unreflected CRC register of w bits. -/
def crcByte {w : Nat} (poly : BitVec w) (c : BitVec w) (b : Byte) : BitVec w :=
  (List.range 8).foldl (fun c _ => if c.msb then (c <<< 1) ^^^ poly else c <<< 1) (c ^^^ (b.setWidth w <<< (w - 8)))

/-- CRC-16, polynomial 0x1021, initial value 0xFFFF (R280, R67, R266). -/
def crc16 (bs : List Byte) : Half := bs.foldl (crcByte (w := 16) 0x1021) 0xFFFF

/-- CRC-8, polynomial 0x07, initial value 0x00 (R333). -/
def crc8 (bs : List Byte) : Byte := bs.foldl (crcByte (w := 8) 0x07) 0x00

/-- One byte into a reflected CRC-32 register, the polynomial given reflected. -/
def crc32Byte (poly : Word) (c : Word) (b : Byte) : Word :=
  (List.range 8).foldl (fun c _ => if c.getLsbD 0 then (c >>> 1) ^^^ poly else c >>> 1) (c ^^^ b.setWidth 32)

/-- CRC-32 of the store, polynomial 0x04C1_1DB7 reflected (R246). -/
def crc32 (bs : List Byte) : Word := (bs.foldl (crc32Byte 0xEDB88320) 0xFFFFFFFF) ^^^ 0xFFFFFFFF

/-- CRC-32 of SFL frames, polynomial 0x1EDC_6F41 reflected (R223). -/
def crc32c (bs : List Byte) : Word := (bs.foldl (crc32Byte 0x82F63B78) 0xFFFFFFFF) ^^^ 0xFFFFFFFF

/-- One bit into the CRC-24 register (R78). -/
def crc24Bit (c : BitVec 24) (b : Bool) : BitVec 24 :=
  if c.msb != b then (c <<< 1) ^^^ 0x864CFB else c <<< 1

/-- The CRC-24 register fed a bit list from its initial value (R78). -/
def crc24 (bs : List Bool) : BitVec 24 := bs.foldl crc24Bit 0xB704CE

/-- The bits of a vector, bit 0 first. -/
def bitsOf {w : Nat} (x : BitVec w) : List Bool := (List.range w).map x.getLsbD

/-! ## Memory cells: rising addresses, no entry equal to 0 -/

abbrev Memory := List Host.Cell

/-- The canonical form of a memory. -/
def Memory.wf (m : Memory) : Bool :=
  match m with
  | [] => true
  | [c] => c.2 != 0
  | c :: d :: r => c.2 != 0 && decide (c.1 < d.1) && Memory.wf (d :: r)

/-- The byte at an address; an unlisted address reads 0. -/
def Memory.read (m : Memory) (a : Nat) : Byte :=
  match m with
  | [] => 0
  | c :: r => if c.1 = a then c.2 else Memory.read r a

/-- One byte written; writing 0 removes the entry. -/
def Memory.write (m : Memory) (a : Nat) (b : Byte) : Memory :=
  match m with
  | [] => if b = 0 then [] else [(a, b)]
  | c :: r =>
    if a < c.1 then (if b = 0 then c :: r else (a, b) :: c :: r)
    else if a = c.1 then (if b = 0 then r else (a, b) :: r)
    else c :: Memory.write r a b

/-- Bytes written at rising addresses. -/
def Memory.writeBytes (m : Memory) (a : Nat) (bs : List Byte) : Memory :=
  match bs with
  | [] => m
  | b :: r => Memory.writeBytes (Memory.write m a b) (a + 1) r

/-- n bytes from an address. -/
def Memory.readBytes (m : Memory) (a n : Nat) : List Byte := (List.range n).map (fun i => Memory.read m (a + i))

/-! ## Attention (R271) -/

/-- A cause bit of Table 13-3 sets; a rise advances the attention sequence. The first write of an attention becomes due with
its first enabled cause; while one is outstanding, a further cause goes out with the next repetition. -/
def raiseCause (bit : Nat) (s : State) : State :=
  if s.hb.causes.getLsbD bit then s
  else
    { s with hb := { s.hb with
        causes := s.hb.causes ||| (1 <<< bit), attnSeq := s.hb.attnSeq + 1,
        attnDue := s.hb.attnDue || (s.set.attnEn.getLsbD bit && (s.hb.causes &&& s.set.attnEn) == 0) } }

/-! ## Events (R249, R254, R255, R329) -/

/-- Record classes (Table 12-5). -/
inductive Cls where
  | info | notice | warning | trip | fault | lockout
deriving DecidableEq, Repr

def Cls.code : Cls → Nat
  | .info => 0 | .notice => 1 | .warning => 2 | .trip => 3 | .fault => 4 | .lockout => 5

/-- The enable of a source (R329). -/
def evEnabled (s : State) (src : Nat) : Bool := (s.set.evEnable[src / 32]?.getD 0).getLsbD (src % 32)

/-- One event counted into the gap by class (R255, Table 12-6). -/
def Gap.count (g : Gap) (c : Cls) : Gap :=
  let full (n m : Nat) : Bool := decide (m ≤ n)
  match c with
  | .info => { g with active := true, info := satNat 65535 (g.info + 1), saturated := g.saturated || full g.info 65535 }
  | .notice => { g with active := true, notice := satNat 65535 (g.notice + 1), saturated := g.saturated || full g.notice 65535 }
  | .warning => { g with active := true, warning := satNat 4095 (g.warning + 1), saturated := g.saturated || full g.warning 4095 }
  | .trip => { g with active := true, trip := satNat 1023 (g.trip + 1), saturated := g.saturated || full g.trip 1023 }
  | .fault => { g with active := true, fault := satNat 63 (g.fault + 1), saturated := g.saturated || full g.fault 63 }
  | .lockout => { g with active := true, lockout := satNat 15 (g.lockout + 1), saturated := g.saturated || full g.lockout 15 }

/-- A change of a parameter item: the next parameter record becomes due (R247). -/
def setItem (f : Params → Params) (s : State) : State :=
  { s with nv := { s.nv with live := f s.nv.live, due := true } }

/-- The queue of the journal writer holds 64 entries (R249). -/
def queueFull (s : State) : Bool := decide (64 ≤ s.jr.queue.length)

/-- An event meets a gap, open or beginning (R255). -/
def meetsGap (s : State) : Bool := s.nv.live.gap.active || queueFull s || noSlot s

/-- An event that its source's enable drops (R329). -/
def dropsEvent (src : Nat) (c : Cls) (s : State) : Bool := decide (c.code ≤ 1) && !evEnabled s src

/-- An event put in the writer's queue, dropped by its enable (R329), or counted into the gap (R249, R255). -/
def queueEvent (time : DWord) (src : Nat) (code : Half) (c : Cls) (arg : DWord) (s : State) : State :=
  if dropsEvent src c s then s
  else if meetsGap s then
    let first := !s.nv.live.gap.active
    let s := setItem (fun p => { p with gap := p.gap.count c }) s
    if first then raiseCause 2 s else s
  else
    { s with jr := { s.jr with queue := s.jr.queue ++
        [{ time := time, quality := s.tb.statusByte, cls := BitVec.ofNat 8 c.code, source := BitVec.ofNat 16 src,
           code := code, arg := arg, enabled := evEnabled s src }] } }

/-! ## Writes to the store (R243, R247, R250, R258) -/

/-- A macro, NVB or NVA, is out of service. -/
def macroOut (b : Bool) (s : State) : Bool := if b then s.nv.live.nvbOut else s.nv.live.nvaOut

/-- A worn word lies in a range of a macro. -/
def wornIn (b : Bool) (addr len : Nat) (w : Bool × Nat × Nat) : Bool :=
  w.1 == b && decide (addr < w.2.1 + 4) && decide (w.2.1 < addr + len)

/-- How many read-backs of a range fail: as many as those of its worst word. -/
def failsAt (b : Bool) (addr len : Nat) (s : State) : Nat :=
  ((s.nv.worn.filter (wornIn b addr len)).map (fun w => w.2.2)).foldl max 0

/-- The word of a range that fails its third read-back, which takes the macro out of service (R250). -/
def wornAt (b : Bool) (addr len : Nat) (s : State) : Option Nat :=
  (s.nv.worn.find? (fun w => wornIn b addr len w && decide (3 ≤ w.2.2))).map (fun w => w.2.1)

/-- The repeats of a write counted, at most two (R250, Table 12-7); the failing read-backs of its range are over. -/
def countRetries (b : Bool) (addr len : Nat) (s : State) : State :=
  if s.nv.worn.isEmpty then s
  else
  { s with jr := { s.jr with retries := add8 s.jr.retries (satNat 2 (failsAt b addr len s)) },
           nv := { s.nv with worn := s.nv.worn.filter (fun w => !wornIn b addr len w) } }

/-- What the macros hold beside their banks and patch segments. -/
def macroNow (spoilt : Option (Nat × Nat)) (s : State) : MacroView :=
  { records := s.nv.records, outcomes := s.nv.outcomes, ring := s.nv.ring, slots := s.nv.slots, spoilt := spoilt }

/-- A macro goes out of service (R257, R258): what it holds stays, DEGRADED, NVM_MACRO_FAIL of kind 1 boot test or 2 read-back,
attention STORE. The parameter record that holds the flag is still to be written. -/
def loseMacro (b : Bool) (kind : Nat) (addr : Word) (spoilt : Option (Nat × Nat)) (s : State) : State :=
  if macroOut b s then s
  else
    let v := some (macroNow spoilt s)
    let s := { s with nv := { s.nv with lostA := if b then s.nv.lostA else v, lostB := if b then v else s.nv.lostB } }
    let s := setItem (fun p => { p with degraded := true, nvaOut := p.nvaOut || !b, nvbOut := p.nvbOut || b }) s
    raiseCause 3 (queueEvent s.tb.counter 227 0x0A01 .warning (argOf [(0, b.toNat), (1, kind), (4, addr.toNat)]) s)

/-- A failed write: two repeats, and the third failure takes the macro out of service (R250). -/
def writeFailed (b : Bool) (word addr len : Nat) (s : State) : State :=
  loseMacro b 2 (BitVec.ofNat 32 word) (some (addr, len)) (countRetries b addr len s)

/-- The macro of parameter record q: NVA for an odd one, NVB for an even one, the survivor in DEGRADED (R247, R258). -/
def paramInB (q : Word) (s : State) : Bool :=
  if s.nv.live.nvaOut then true else if s.nv.live.nvbOut then false else q.toNat % 2 == 0

/-- Its slot (R247, R258). -/
def paramSlot (q : Word) (s : State) : Nat := if degraded s then q.toNat % 16 else q.toNat / 2 % 16

/-- A slot's record takes the place of the one it held. -/
def putSlot (r : ParamRec) (l : List ParamRec) : List ParamRec :=
  l.filter (fun x => !(x.inB == r.inB && x.slot == r.slot)) ++ [r]

/-- One attempt to write the next parameter record: the live items become the stored ones, or its macro goes out of
service. -/
def tryParams (s : State) : State :=
  if nvBothOut s then s
  else
    let q := s.nv.paramSeq + 1
    let b := paramInB q s
    let k := paramSlot q s
    match wornAt b (0x40000 + 1024 * k) 1024 s with
    | some w => writeFailed b w (0x40000 + 1024 * k) 1024 s
    | none =>
      let s := countRetries b (0x40000 + 1024 * k) 1024 s
      { s with nv := { s.nv with
          stored := s.nv.live, paramSeq := q, due := false,
          slots := putSlot { inB := b, slot := k, seq := q, items := s.nv.live } s.nv.slots } }

/-- A parameter record written (R247); where its macro fails, it goes to the other alone (R250). -/
def writeParams (s : State) : State :=
  let s := tryParams { s with nv := { s.nv with due := true } }
  if s.nv.due then tryParams s else s

/-- An item change that a result depends on: the record is written before the result (R247). -/
def storeItem (f : Params → Params) (s : State) : State := writeParams (setItem f s)

/-- A record that is due is written before a result that depends on its items is reported (R247). -/
def storedFirst (s : State) : State := if s.nv.due then writeParams s else s

/-- A macro taken out of service, and the parameter record that says so (R257, R258). -/
def macroFail (b : Bool) (kind : Nat) (addr : Word) (spoilt : Option (Nat × Nat)) (s : State) : State :=
  if macroOut b s then s else writeParams (loseMacro b kind addr spoilt s)

/-- A range of one macro written and read back: a word that fails takes the macro out of service (R243, R250). -/
def writeOne (b : Bool) (addr len : Nat) (s : State) : State :=
  if macroOut b s then s
  else match wornAt b addr len s with
    | some w => writeParams (writeFailed b w addr len s)
    | none => countRetries b addr len s

/-- A range written to NVA and read back, then to NVB (R249). -/
def mirror (addr len : Nat) (s : State) : State := writeOne true addr len (writeOne false addr len s)

/-- An event put in the queue, dropped, or counted into the gap; a count is kept in the parameter store (R255, Table 12-3). -/
def enqueue (time : DWord) (src : Nat) (code : Half) (c : Cls) (arg : DWord) (s : State) : State :=
  let s' := queueEvent time src code c arg s
  if meetsGap s && !dropsEvent src c s then writeParams s' else s'

/-! ## The journal writer (R249, R254, R255) -/

/-- The offset of a sequence's slot in each macro (Table 12-1, R249). -/
def slotOffset (seq : Word) : Nat := 0x50000 + slotOf seq * 32

/-- A pending bit sets when an enabled record is committed; its rise sets cause EVENT (R329). -/
def setPending (src : Nat) (s : State) : State :=
  let w := s.jr.pend[src / 32]?.getD 0
  if w.getLsbD (src % 32) then s
  else
    raiseCause 5 { s with jr := { s.jr with pend := s.jr.pend.setIfInBounds (src / 32) (w ||| (1 <<< (src % 32))) } }

/-- The records without the one in slot k. -/
def withoutSlot (k : Nat) (l : List Record) : List Record := l.filter (fun x => slotOf x.seq != k)

/-- A record that waits to print gives up its slot: the strip can no longer reach it (R363). -/
def noteUnreached (lost : Option Record) (s : State) : State :=
  match lost with
  | some r =>
    if waitsToPrint s r then
      { s with nv := { s.nv with unreached := some ((s.nv.unreached.map Prod.fst).getD r.seq, r.seq) } }
    else s
  | none => s

/-- A record put in its slot (R249), where it takes the place of the one held; every 256 commits the head checkpoint moves
(Table 12-3). -/
def commitRecord (r : Record) (s : State) : State :=
  let s := noteUnreached (recordInSlot (slotOf r.seq) s.nv.records) s
  let s := { s with nv := { s.nv with records := withoutSlot (slotOf r.seq) s.nv.records ++ [r], head := r.seq } }
  if r.seq.toNat % 256 = 0 then setItem (fun p => { p with headCheck := r.seq }) s else s

/-- FLAGS bit 0: written as a single copy (R258). -/
def singleFlag (s : State) : Half := if degraded s then 1 else 0

/-- The 75 % mark (R254). -/
def check75 (s : State) : State :=
  if !s.jr.full75 && decide (16896 ≤ jrUnack s) then
    let s := { s with jr := { s.jr with full75 := true } }
    raiseCause 2 (enqueue s.tb.counter 228 0x0B01 .warning (argOf [(0, jrUnack s)]) s)
  else s

/-- The record the journal writer would commit next (R249). -/
def nextRecord (e : QEvent) (s : State) : Record :=
  { seq := seqNext s.nv.head, time := e.time, quality := e.quality, cls := e.cls, source := e.source, code := e.code,
    arg := e.arg, flags := singleFlag s }

/-- The oldest queued event numbered and committed (R249); none while there is no slot for it (R253, R255) or no macro is left. -/
def commitNext (s : State) : State :=
  match s.jr.queue with
  | [] => s
  | e :: _ =>
    if noSlot s || nvBothOut s then s
    else
      let s := mirror (slotOffset (seqNext s.nv.head)) 32 s
      if nvBothOut s then s
      else
        let s' := commitRecord (nextRecord e s) { s with jr := { s.jr with queue := s.jr.queue.drop 1 } }
        check75 (if e.enabled then setPending e.source.toNat s' else s')

/-- The argument of a gap record (Table 12-6). -/
def Gap.arg (g : Gap) : DWord :=
  BitVec.ofNat 64 (g.info + g.notice * 2 ^ 16 + g.warning * 2 ^ 32 + g.trip * 2 ^ 44 + g.fault * 2 ^ 54 + g.lockout * 2 ^ 60)

/-- BOOT and VERIFY (R60). -/
def inBoot (s : State) : Bool := s.dev.dvState == .boot || s.dev.dvState == .verify

/-- The gap ends: a free queue entry and U at most 22,526; one that a reset left open also counts what boot raises
(R255), and its record needs a slot that may be overwritten (R253). -/
def gapEnds (s : State) : Bool :=
  s.nv.live.gap.active && !queueFull s && decide (jrUnack s ≤ 22526) && !nextSlotHeld s && !nvBothOut s && !inBoot s

/-- The gap record (R255, Table 12-6). -/
def gapRecord (s : State) : Record :=
  { seq := seqNext s.nv.head, time := s.tb.counter, quality := s.tb.statusByte, cls := 2, source := 228, code := 0x0B03,
    arg := s.nv.live.gap.arg, flags := singleFlag s ||| (if s.nv.live.gap.saturated then 2 else 0) }

/-- The gap record committed at the end of a gap, the counters cleared (R255). -/
def commitGap (s : State) : State :=
  if gapEnds s then
    let s := mirror (slotOffset (seqNext s.nv.head)) 32 s
    if nvBothOut s then s
    else
      let s := storeItem (fun p => { p with gap := Gap.none }) (commitRecord (gapRecord s) s)
      check75 (if evEnabled s 228 then setPending 228 s else s)
  else s

/-- One turn of the journal writer: the gap record goes before any queued event (R255). -/
def writeNext (s : State) : State := if gapEnds s then commitGap s else commitNext s

/-- n turns of the journal writer. -/
def commitMany : Nat → State → State
  | 0, s => s
  | n + 1, s => commitMany n (writeNext s)

/-- An event raised with a given time (R249): a gap that has ended is recorded before it (R255). -/
def raiseAt (time : DWord) (src : Nat) (code : Half) (c : Cls) (arg : DWord) (s : State) : State :=
  enqueue time src code c arg (commitGap s)

/-- An event raised now. -/
def raise (src : Nat) (code : Half) (c : Cls) (arg : DWord) (s : State) : State :=
  raiseAt s.tb.counter src code c arg s

/-- Every queued event committed, with what the commits themselves raise. -/
def flushJournal (s : State) : State := commitMany 66 s

end Sys2Proof.Machine
end

