-- ==== Sys2Proof/Machine/Operands.lean ====
section
/-! DEFINITION. Operand forms: the frames of the Rosox link (chapter 4), the ON code (R156) and the frames of the Svaent
Frame Layer (chapter 11), read from and written to their bits. -/

namespace Sys2Proof.Machine

/-! ## Frames of the link (R77, R78, R80, R83) -/

/-- The field of n bits at bit lo of a frame. -/
def fieldAt (f : Frame) (lo n : Nat) : BitVec n := f.extractLsb' lo n

/-- One bit of a frame. -/
def flagAt (f : Frame) (b : Nat) : Bool := f.getLsbD b

/-- The CRC of frame bits 0 to 167, as it lies in bits 191:168: register bit 23 first (R78). -/
def frameCrc (f : Frame) : BitVec 24 := (crc24 ((List.range 168).map f.getLsbD)).reverse

/-- The CRC-24 of a frame checks (R77). -/
def crcChecks (f : Frame) : Bool := fieldAt f 168 24 == frameCrc f

/-- A frame from fields given as (lowest bit, value), with its CRC. -/
def mkFrame (fields : List (Nat × Nat)) : Frame :=
  let f : Frame := BitVec.ofNat 192 (fields.foldl (fun a x => a + x.2 * 2 ^ x.1) 0)
  f ||| ((frameCrc f).setWidth 192 <<< 168)

/-- Downlink TYPE (Table 4-1). -/
def dlType (f : Frame) : Nat := (fieldAt f 0 2).toNat
def dlLink (f : Frame) : BitVec 3 := fieldAt f 2 3
def dlCycle (f : Frame) : Byte := fieldAt f 8 8
/-- SCAN of a RUN frame (Table 4-2). -/
def dlScan (f : Frame) : BitVec 24 := fieldAt f 16 24
/-- The code of channel c (Table 4-2). -/
def dlCode (f : Frame) (c : Nat) : Half := fieldAt f (40 + 16 * c) 16
/-- The commanded state of brake b (Table 4-2). -/
def dlBrake (f : Frame) (b : Nat) : BitVec 2 := fieldAt f (136 + 2 * b) 2
def dlAux (f : Frame) : BitVec 4 := fieldAt f 140 4
def dlParamAddr (f : Frame) : Byte := fieldAt f 144 8
def dlParamData (f : Frame) : Half := fieldAt f 152 16
/-- SEED frame fields (Table 4-3). -/
def dlSeed (f : Frame) : DWord := fieldAt f 16 64
def dlScanBase (f : Frame) : Word := fieldAt f 80 32
def dlScanPer (f : Frame) : BitVec 3 := fieldAt f 112 3

/-- A downlink frame is valid for a port with given straps (R77): delimiter and timing (framing), CRC, LINK, and a TYPE
the port expects. -/
def dlValid (framing : Bool) (straps : BitVec 3) (types : List Nat) (f : Frame) : Bool :=
  framing && crcChecks f && dlLink f == straps && types.contains (dlType f)

/-- Uplink TYPE and common part (Table 4-4). -/
def ulType (f : Frame) : Nat := (fieldAt f 0 2).toNat
def ulSeeded (f : Frame) : Bool := flagAt f 2
def ulParamOk (f : Frame) : Bool := flagAt f 4
def ulSeqFault (f : Frame) : Bool := flagAt f 5
def ulEcho (f : Frame) : Byte := fieldAt f 8 8
def ulLevels (f : Frame) : BitVec 16 := fieldAt f 16 16
def ulOutState (f : Frame) : BitVec 6 := fieldAt f 32 6
def ulSupply (f : Frame) : BitVec 6 := fieldAt f 38 6
/-- IDENT body (Table 4-5). -/
def ulRev (f : Frame) : Byte := fieldAt f 48 8
def ulStraps (f : Frame) : BitVec 3 := fieldAt f 56 3
def ulParamCrc (f : Frame) : Half := fieldAt f 59 16
def ulSeedEcho (f : Frame) : BitVec 24 := fieldAt f 75 24
/-- DELTA body: the edge records present. -/
def ulRecords (f : Frame) : List Word :=
  (List.range (fieldAt f 48 2).toNat).map (fun i => fieldAt f (64 + 32 * i) 32)
/-- REFRESH body (Table 4-5). -/
def ulSettling (f : Frame) : BitVec 16 := fieldAt f 48 16
def ulDiagCode (f : Frame) : Half := fieldAt f 64 16
def ulDiagArg (f : Frame) : Half := fieldAt f 80 16
def ulUf1 (f : Frame) : Byte := fieldAt f 96 8
def ulUf2 (f : Frame) : Byte := fieldAt f 104 8
def ulTemp (f : Frame) : Byte := fieldAt f 112 8
def ulLoad (f : Frame) : Byte := fieldAt f 120 8
def ulDlErr (f : Frame) : BitVec 12 := fieldAt f 128 12

/-- An uplink frame is valid (R77): framing, CRC, and a TYPE the controller expects. -/
def ulValid (framing : Bool) (types : List Nat) (f : Frame) : Bool :=
  framing && crcChecks f && types.contains (ulType f)

/-- An edge record (Table 4-6). -/
def edgeRecord (ch : Nat) (level settle : Bool) (cyc : BitVec 4) (sample rawOfs : Nat) : Word :=
  pack [(0, ch % 16), (4, level.toNat), (5, settle.toNat), (6, cyc.toNat), (10, sample % 16),
    (14, satNat 131071 rawOfs)]

/-- SEED_ECHO of a seed, as it lies in the frame (Table 4-5). -/
def seedEcho (seed : DWord) : BitVec 24 := (crc24 (bitsOf seed)).reverse

/-- CRC-16 over parameter words (R81), each least significant byte first: R81 gives no order (DESIGN CHOICE, log entry 86). -/
def wordsCrc (ws : List Half) : Half := crc16 (ws.flatMap bytes2)

/-- The 128 parameter words of an image's port: words 0x00 to 0x7E and the CRC in word 0x7F (R81). -/
def sealWords (ws : List Half) : List Half :=
  let ws := (ws ++ List.replicate 127 0).take 127
  ws ++ [wordsCrc ws]

/-- The ON code of channel c in a scan (R156). -/
def onCode (seed : DWord) (scan : Word) (c : Nat) : Half :=
  (crc24 (bitsOf seed ++ bitsOf scan ++ bitsOf (BitVec.ofNat 8 c))).setWidth 16

/-! ## Parameter words (chapters 5 and 6) -/

/-- A parameter word of a list; missing words read 0. -/
def pword (ws : List Half) (a : Nat) : Half := ws[a]?.getD 0

/-! ## SFL frames (R222, R223) -/

/-- The bytes 0 to 27 of a frame (Table 11-1). -/
def SflFrame.body (f : SflFrame) : List Byte :=
  bytes2 f.dest ++ bytes2 f.src ++ bytes4 f.cid
    ++ leBytes 4 (f.seq.toNat + f.isNew.toNat * 2 ^ 28 + f.rr.toNat * 2 ^ 29 + f.ts.toNat * 2 ^ 30)
    ++ bytes4 f.stamp ++ bytes8 f.bits ++ bytes2 f.w0 ++ bytes2 f.w1

/-- The CRC of frame bytes 0 to 27 under a site code (R223). -/
def sflCrc (site : Word) (body : List Byte) : Word := crc32c (bytes4 site ++ body)

/-- The 32 bytes of a frame built under a site code. -/
def SflFrame.bytes (site : Word) (f : SflFrame) : List Byte := f.body ++ bytes4 (sflCrc site f.body)

/-- Check 1 of Table 11-3: length, CRC, and SEQ bit 31 = 0. -/
def sflCheck1 (site : Word) (b : List Byte) : Bool :=
  b.length == 32 && wordAt b 28 == sflCrc site (b.take 28) && !(wordAt b 8).getLsbD 31

/-- The fields of a frame's bytes. -/
def sflFields (b : List Byte) : SflFrame :=
  let q := wordAt b 8
  { dest := halfAt b 0, src := halfAt b 2, cid := wordAt b 4, seq := q.setWidth 28, isNew := q.getLsbD 28,
    rr := q.getLsbD 29, ts := q.getLsbD 30, stamp := wordAt b 12, bits := dwordAt b 16, w0 := halfAt b 24,
    w1 := halfAt b 26 }

/-! ## Vectors of the block's units -/

/-- Element i of a vector changed; nothing beyond its end. -/
def updVec {α : Type} {n : Nat} (v : Vector α n) (i : Nat) (f : α → α) : Vector α n :=
  match v[i]? with
  | some x => v.setIfInBounds i (f x)
  | none => v

/-- Link l changed. -/
def updLink (l : Nat) (f : Link → Link) (s : State) : State := { s with links := updVec s.links l f }

/-- Port p changed. -/
def updPort (p : Nat) (f : PortSt → PortSt) (s : State) : State := { s with ports := updVec s.ports p f }

/-- Link l. -/
def getLink (l : Nat) (s : State) : Link := s.links[l]?.getD Link.new

/-- Port p. -/
def getPort (p : Nat) (s : State) : PortSt := s.ports[p]?.getD (PortSt.new 0)

/-- Producer n. -/
def getProd (n : Nat) (s : State) : ProdSt := s.sf.prods[n]?.getD ProdSt.new

/-- Producer n changed. -/
def updProd (n : Nat) (f : ProdSt → ProdSt) (s : State) : State :=
  { s with sf := { s.sf with prods := updVec s.sf.prods n f } }

/-- Consumer n. -/
def getCons (n : Nat) (s : State) : ConsSt := s.sf.conss[n]?.getD ConsSt.new

/-- Consumer n changed. -/
def updCons (n : Nat) (f : ConsSt → ConsSt) (s : State) : State :=
  { s with sf := { s.sf with conss := updVec s.sf.conss n f } }

end Sys2Proof.Machine
end

