-- ==== Sys2Proof/Machine/Device.lean ====
section
/-! DEFINITION. Device-wide operations: device states and their entries, leaving RUN, coding failures, replies and
outcomes, the assertion of a reset. -/

namespace Sys2Proof.Machine

/-! ## Replies and outcomes (R281 to R293) -/

/-- The tag of a CTRL byte. -/
def tagOf (ctrl : Byte) : Nat := ctrl.toNat % 8

/-- A reply queued; for its tag it takes the place of a reply still waiting (R282). -/
def pushReply (r : Reply) (s : State) : State :=
  let others := s.cm.replies.filter (fun q => decide (tagOf q.ctrl ≠ tagOf r.ctrl))
  raiseCause 0 { s with cm := { s.cm with replies := others ++ [r] } }

/-- A final reply to a packet (R282, Table 14-2): CTRL bits 3:0 as received, FINAL set. -/
def finalReply (p : Packet) (status orig : Byte) (data : List Byte) : Reply :=
  { opcode := p.opcode, ctrl := (p.ctrl &&& 0x0F) ||| 0x10, status := status, orig := orig, csn := p.csn, data := data }

/-- The packet's bytes before its CRC (Table 14-1). -/
def Packet.bytes (p : Packet) : List Byte :=
  let par := if p.ctrl.getLsbD 3 then bytes4 p.csn ++ p.params else p.params
  [p.opcode, p.ctrl] ++ leBytes 2 par.length ++ par

/-- The packet CRC (R280). -/
def Packet.crc (p : Packet) : Half := crc16 p.bytes

/-- Status codes (Table 14-6). -/
def stOk : Byte := 0x00
def stAccepted : Byte := 0x01
def stDuplicate : Byte := 0x02
def stBadCrc : Byte := 0x10
def stBadLength : Byte := 0x11
def stUnknown : Byte := 0x12
def stBadParam : Byte := 0x13
def stWrongState : Byte := 0x20
def stLocked : Byte := 0x21
def stWindowFull : Byte := 0x22
def stOutOfWindow : Byte := 0x23
def stGapTimeout : Byte := 0x24
def stVoided : Byte := 0x25
def stEntropyFail : Byte := 0x30
def stNvmFail : Byte := 0x31
def stMismatch : Byte := 0x32
def stDegraded : Byte := 0x33

/-- The safety-affecting opcodes (Table 14-3). -/
def safetyOp (op : Byte) : Bool :=
  op == 0x20 || op == 0x13 || op == 0x22 || op == 0x24 || op == 0x40 || op == 0x62

/-- Firmware inconsistency; no rule of the spec answers with it. -/
def stInternal : Byte := 0x7F

/-- The outcome entry of a CSN committed in the macros in service (R288, R290); with none left no outcome is committed. -/
def putOutcome (o : OutcomeEntry) (s : State) : State :=
  let s := mirror (0x44000 + 32 * (o.csn.toNat % 64)) 32 s
  if nvBothOut s then s
  else
    { s with
      nv := { s.nv with outcomes := s.nv.outcomes.setIfInBounds (o.csn.toNat % 64) (some o), lastE := o.csn,
                        chains := s.nv.chains.filter (fun c => decide (c.csn ≠ o.csn)) }
      cm := { s.cm with waits := s.cm.waits.filter (fun w => decide (w.1 ≠ o.csn)) } }

/-- The outcome entry of a chain (Table 14-5). -/
def outcomeFor (c : Chain) (status : Byte) (data : List Byte) : OutcomeEntry :=
  { csn := c.csn, skip := false, status := status, ctrl := c.ctrl, data := data, crc := c.crc, opcode := c.opcode }

/-- The outcome of a chain committed: E advances, then the FINAL reply is queued (R288); the reply carries at most 16
data bytes (R281). With both macros out of service there is no outcome to reply. -/
def commitOutcome (c : Chain) (status : Byte) (data : List Byte) (s : State) : State :=
  let data := data.take 16
  let s := putOutcome (outcomeFor c status data) s
  let s := { s with cm := { s.cm with running := none } }
  if nvBothOut s then s
  else
    let s := if safetyOp c.opcode then
        raise 229 0x0D01 .notice (argOf [(0, c.csn.toNat), (4, c.opcode.toNat), (5, status.toNat)]) s
      else s
    pushReply (finalReply ⟨c.opcode, c.ctrl, c.csn, []⟩ status 0 data) s

/-- The chain in execution: the one after E (R288). -/
def headChain (s : State) : Option Chain := s.nv.chains.find? (fun c => c.csn == seqNext s.nv.lastE)

/-- The command in execution has ended in a core halt: its outcome waits for the release (R372). -/
def holdOutcome (status : Byte) (data : List Byte) (s : State) : State :=
  match s.cm.running with
  | none | some (.ended _ _) => s
  | some _ => { s with cm := { s.cm with running := some (.ended status data) } }

/-- The command in execution ends with a status (R288); while the core is halted nothing is committed or replied (R372). -/
def finishRunning (status : Byte) (data : List Byte) (s : State) : State :=
  if s.db.coreHalted then holdOutcome status data s
  else match s.cm.running, headChain s with
    | some _, some c => commitOutcome c status data s
    | _, _ => s

/-! ## The image as a port's words -/

/-- The 128 parameter words the active image gives port p (R81), with the learned decay times (R118) and the one period of
the pulse frame (R107). -/
def portImage (p : Nat) (s : State) : List Half :=
  let ws := match s.en.image with
    | some im => im.portWords[p]?.getD []
    | none => []
  let ws := (ws ++ List.replicate 127 0).take 127
  let ws := (List.range 127).map (fun a =>
    if 0x30 ≤ a ∧ a < 0x40 then s.nv.live.decay[16 * p + (a - 0x30)]?.getD 0
    else if a = 0x20 then (s.en.image.map Image.tpPeriod).getD 0
    else pword ws a)
  sealWords ws

/-- The source an input is assigned to, 1 to 8; 0 is unpulsed (Table 5-3). -/
def inputSrc (p i : Nat) (s : State) : Nat :=
  let v := (pword (portImage p s) i).toNat / 8 % 16
  if v ≤ 8 then v else 0

/-- An input is used (Table 5-3). -/
def inputUsed (p i : Nat) (s : State) : Bool :=
  let t := (pword (portImage p s) i).toNat % 4
  t == 1 || t == 2

/-- A channel is enabled (Table 6-7). -/
def chanEnabled (p c : Nat) (s : State) : Bool :=
  (pword (portImage p s) (if c < 4 then 0x40 + c else 0x46 + c)).getLsbD 0

/-- The pulse frame period in µs (R107). -/
def framePeriod (s : State) : Nat := ((s.en.image.map Image.tpPeriod).getD 0).toNat * 8000

/-! ## Device states (R68, Table 3-7) -/

/-- SAFE_OK is high only in RUN (R377); FAULT_N is low in FAULT, MISMATCH and LOCKOUT (R60). -/
def withPins (st : DvState) (d : Dev) : Dev :=
  { d with dvState := st, safeOk := (st == .run),
           faultN := if st == .debugHalt then d.faultN else !(st == .fault || st == .mismatch || st == .lockout) }

/-- A change of DV_STATE: STATE_CHANGE, attention STATE (R68, Table 13-3); the host-silence timer starts on entry into STOP
or RUN (R276). -/
def setState (new : DvState) (why : Nat) (s : State) : State :=
  if s.dev.dvState = new then s
  else
    let old := s.dev.dvState
    let c : Cls := match new with
      | .fault => .fault
      | .lockout => .lockout
      | _ => .notice
    let s := { s with dev := withPins new s.dev,
                      hb := { s.hb with silenceOn := s.hb.silenceOn || new == .stop || new == .run } }
    raiseCause 1 (raise 226 0x0002 c (argOf [(0, old.code.toNat), (1, new.code.toNat), (2, why)]) s)

/-- The device runs: firmware serves the bus (R60, R271). -/
def live (s : State) : Bool := s.dev.phase == .running

/-- The states of the set ALL (R298). -/
def stateAll (s : State) : Bool :=
  match s.dev.dvState with
  | .stop | .run | .fault | .mismatch | .lockout => true
  | _ => false

/-- The bytes 0 to 29 of the AORF (Table 3-6). -/
def Aorf.deviceBytes (a : Aorf) : List Byte :=
  [BitVec.ofNat 8 (a.lockout.toNat + 2 * a.settingsDiffer.toNat + 4 * a.dormantPending.toNat), a.lastState, a.resetCount,
    a.dormantCount] ++ bytes4 a.dormantCsn ++ List.replicate 22 0

/-- The device area with its check written (R67). -/
def Aorf.seal (a : Aorf) : Aorf := { a with crc := crc16 a.deviceBytes }

/-- Type codes (Table 8-1). -/
def BlockType.code : BlockType → Nat
  | .estop => 0x01 | .guard => 0x02 | .guardLock => 0x03 | .twohand => 0x04 | .lcurt => 0x05 | .sbc => 0x06
  | .edm => 0x07 | .restart => 0x08 | .modesel => 0x09 | .interlock => 0x0A | .sflIn => 0x0B | .sflOut => 0x0C
  | .and => 0x10 | .or => 0x11 | .not => 0x12 | .ton => 0x13 | .tof => 0x14 | .pulse => 0x15 | .event => 0x16
  | .hostsig => 0x17

/-- The host's own target address, a constant of the active image (R263); 0 for none. -/
def hostAddr (s : State) : BitVec 7 := (s.en.image.map Image.hostAddr).getD 0

/-- The straps put a window on the host's address (R263). -/
def addressClash (base : BitVec 7) (host : BitVec 7) : Bool :=
  base != 0 && host != 0 && host.toNat / 4 == base.toNat / 4

/-- The active image's blocks. -/
def blocksOf (s : State) : List Block := (s.en.image.map Image.blocks).getD []

/-- The SFL_IN block on consumer connection n, with its index (R189). -/
def sflInBlock (n : Nat) (s : State) : Option (Nat × Block) :=
  let l := blocksOf s
  (List.range l.length).findSome? (fun i =>
    match l[i]? with
    | some b => if b.type = .sflIn ∧ b.params.conn.val = n then some (i, b) else none
    | none => none)

/-- The first bytes of a block event's argument (R174). -/
def blockArg (ix : Nat) (b : Block) : List (Nat × Nat) := [(0, ix), (2, b.type.code)]

/-- RESTART_REJECTED for a remote restart (R206, R233). Without an SFL_IN block there is no block index and type code
to state: bytes 0 to 2 are then a free value (log entry 22). -/
def rejectRemote (n reason : Nat) (seq : BitVec 28) (s : State) : State :=
  match sflInBlock n s with
  | some (i, b) => raise 235 0x0702 .notice (argOf (blockArg i b ++ [(3, reason), (4, seq.toNat)])) s
  | none =>
    let v := (Config.freeWord s.fresh).toNat % 2 ^ 24
    raise 235 0x0702 .notice (argOf [(0, v), (3, reason), (4, seq.toNat)]) { s with fresh := s.fresh + 1 }

/-! ## SFL frames placed by the producers (R226, R235) -/

/-- A frame placed in the outbound queue: a full queue loses its oldest frame, and the first frame placed without a loss
ends the run (R235). -/
def placeFrame (bytes : List Byte) (s : State) : State :=
  if s.sf.outq.length < 64 then
    let lost := s.sf.outLoss
    let s := { s with sf := { s.sf with outq := s.sf.outq ++ [bytes], outLoss := 0 } }
    let s := if s.sf.outq.length = 32 then raiseCause 4 s else s
    if lost = 0 then s else raise 230 0x0806 .warning (argOf [(0, 1), (4, lost)]) s
  else
    { s with sf := { s.sf with outq := s.sf.outq.drop 1 ++ [bytes], outLoss := s.sf.outLoss + 1,
                               lossOut := inc8 s.sf.lossOut } }

/-- A producer's state after its due frame is placed (R226). -/
def ProdSt.afterSend (f : SflFrame) (p : ProdSt) : ProdSt :=
  { p with due := none, nextSeq := p.nextSeq + 1, newLeft := p.newLeft - 1, sent := inc32 p.sent,
           last := some (f.bits, f.w0, f.w1), since := 0 }

/-- Producer n places the frame that phase 4 of the latest scan made due (R222, R226). -/
def producerSend (n : Nat) (s : State) : State :=
  match (getProd n s).due with
  | some f =>
    let s := updProd n (fun p => p.afterSend f) s
    placeFrame (f.bytes s.fu.site) { s with sf := { s.sf with txCount := inc32 s.sf.txCount } }
  | none => s

/-- Every due frame placed, lowest connection first. -/
def sendAllDue (s : State) : State := (List.range 32).foldl (fun s n => producerSend n s) s

/-! ## Leaving RUN -/

/-- A producer outside RUN (R226). -/
def ProdSt.stopped (p : ProdSt) : ProdSt := { p with running := false, waiting := false, drawReq := false, due := none }

/-- The remote restarts of consumer n that still wait are rejected with reason 9 (R206). -/
def dropRestarts (n : Nat) (s : State) : State :=
  let c := getCons n s
  let s := updCons n (fun c => { c with rrNow := none, rrNext := none, rrBad := [] }) s
  let reject (q : Option (BitVec 28)) (s : State) : State :=
    match q with
    | some seq => rejectRemote n 9 seq s
    | none => s
  c.rrBad.foldl (fun s seq => rejectRemote n 9 seq s) (reject c.rrNext (reject c.rrNow s))

/-- A draw for a producer's CID. -/
def Draw.forProducer : Draw → Bool
  | .producer _ => true
  | _ => false

/-- A mode request that the host still waits for ends with the exit from RUN (R309). -/
def endModeRequest (s : State) : State :=
  match s.cm.running with
  | some (.modeRequest _) => finishRunning stWrongState [] s
  | _ => s

/-- A binding is on a brake channel. -/
def OutBind.brake (b : OutBind) : Bool := decide (4 ≤ b.ch.val)

/-- The event source of a binding's channel (R144). -/
def OutBind.source (b : OutBind) : Nat :=
  if b.ch.val < 4 then 128 + 4 * b.port.val + b.ch.val else 160 + 2 * b.port.val + (b.ch.val - 4)

/-- The event source of binding ix of the active image. -/
def bindSource (ix : Nat) (s : State) : Nat :=
  (((s.en.image.map Image.outs).getD [])[ix]?.map OutBind.source).getD 0

/-- MODE_DISAGREE for every binding that has differed in the present hand-over, once (R200). -/
def noteDisagree (s : State) : State :=
  let s' := s.en.mode.diff.foldl (fun t x =>
    raise 234 0x0603 .notice (argOf [(0, bindSource x.1 s), (2, BlockType.modesel.code), (3, x.2.1), (4, x.2.2.1), (5, x.2.2.2)]) t) s
  { s' with en := { s'.en with mode := { s'.en.mode with diff := [] } } }

/-- The exit from RUN: producers stop (R226), and waiting remote restarts are rejected (R206). -/
def leaveRun (s : State) : State :=
  let s := (List.range 32).foldl (fun s n => dropRestarts n s) (sendAllDue s)
  { s with
    sf := { s.sf with prods := s.sf.prods.map ProdSt.stopped },
    ent := { s.ent with waiting := s.ent.waiting.filter (fun d => !d.forProducer) } }

/-- The engine stopped: outside RUN the link blocks send the codes of R157; producers stop, AUTO pending, holds, a hand-over and
engine debug mode end (R145, R196, R199, R374). -/
def stopEngine (s : State) : State :=
  let s := noteDisagree (leaveRun s)
  let s := { s with
    en := { s.en with scanning := false, reverify := false, haltScan := false, haltedRun := false, haltedAgain := false, debug := false, holds := [],
                      mode := { s.en.mode with pending := false, diff := [] } },
    dev := { s.dev with handover := 0 } }
  endModeRequest s

/-- FAULT entered (R158, Table 3-7): the engine stops; re-verification runs or, on the way to LOCKOUT, does not (R159). -/
def faultEntry (verify : Bool) (code detail : Byte) (s : State) : State :=
  let s := stopEngine s
  let s := { s with
    dev := { s.dev with faultCode := code, faultDetail := detail, faultCount := inc8 s.dev.faultCount },
    en := { s.en with reverify := verify, reverifyOk := s.en.reverifyOk && !verify } }
  setState .fault code.toNat s

/-- An entry into FAULT (R158, R159, Table 3-7): the engine stops and re-verification runs. -/
def enterFault (code detail : Byte) (s : State) : State := faultEntry true code detail s

/-- RUN or STOP, the states from which a failure enters FAULT (Table 3-7). -/
def stateRunStop (s : State) : Bool := s.dev.dvState == .run || s.dev.dvState == .stop

/-- An entry into LOCKOUT (R67, R160): the latch is set and no re-verification runs. -/
def enterLockout (why : Nat) (s : State) : State :=
  let s := { s with aorf := Aorf.seal { s.aorf with lockout := true }, en := { s.en with reverify := false } }
  setState .lockout why s

/-- EN_CHECK from its fields (Table 7-4). -/
def checkWord (signal kind block link : Nat) : Word :=
  pack [(0, signal % 4096), (12, kind % 16), (16, block % 1024), (26, link % 8)]

/-- A coding failure (R158, R160): FAULT, and LOCKOUT at once where the last counted one lies within the window.
The event is raised first; the failure and its age are kept in the parameter store. While a core halt holds RUN or STOP, the engine
stops, the failure is counted and judged as it is found, and the device enters FAULT when the core is released (R373, log entry 91). -/
def codingFailure (code : Byte) (check : Word) (detail : Byte) (evCode : Half) (evArg : DWord) (s : State) : State :=
  if stateRunStop s then
    let again := inWindow s
    let s := { s with en := { s.en with check := check } }
    let s := faultEntry (!again) code detail (raise 226 evCode .fault evArg s)
    let s := storeItem (fun p => { p with failAge := some 0 }) s
    if again then enterLockout code.toNat s else s
  else if s.dev.dvState == .debugHalt && (s.dev.heldState == .run || s.dev.heldState == .stop) && !s.en.haltedRun then
    let again := inWindow s
    let s := storeItem (fun p => { p with failAge := some 0 }) (raise 226 evCode .fault evArg s)
    { s with en := { s.en with check := check, scanning := false, haltScan := false, haltedRun := true, haltedAgain := again },
             dev := { s.dev with faultCode := code, faultDetail := detail } }
  else s

/-- The settings that the active image carries as defaults, else the compiler's (R65, R404); the enables of sources 239 to 255
are RO 0 (Table 15-9), and PAUSED is 0 after every reset (R364). -/
def defaultsOf (s : State) : Settings :=
  let d := (s.en.image.map Image.defaults).getD Settings.compiler
  { d with paused := false, evEnable := updVec d.evEnable 7 (fun w => w &&& 0x7FFF) }

/-- The AORF flag follows the present state of the settings: any difference from its default sets it (R65). -/
def noteSettings (s : State) : State :=
  { s with aorf := Aorf.seal { s.aorf with settingsDiffer := decide (s.set ≠ defaultsOf s) } }

/-- TSYNC_OUT is held low unless it is enabled and the quality allows it (R51). -/
def tsyncAllowed (s : State) : Bool := s.set.tsyncEn && (s.tb.holds || s.set.tsyncAlways)

def tsyncGate (s : State) : State :=
  { s with dev := { s.dev with tsyncOut := s.dev.tsyncOut && tsyncAllowed s } }

/-! ## Reset assertion (R57, R58, R64) -/

/-- Reset kinds (Table 3-2); their codes run from 1 to 9. -/
inductive Kind where
  | powerOn | brownOut | pin | watchdog | clockWindow | cold | warm | debug | dormantWake
deriving DecidableEq, Repr

def Kind.code : Kind → Nat
  | .powerOn => 1 | .brownOut => 2 | .pin => 3 | .watchdog => 4 | .clockWindow => 5 | .cold => 6 | .warm => 7
  | .debug => 8 | .dormantWake => 9

/-- The rank of a kind, the most destructive first (R58). -/
def Kind.rank : Kind → Nat
  | .powerOn => 0 | .brownOut => 1 | .clockWindow => 2 | .dormantWake => 3 | .cold => 4 | .pin => 5 | .watchdog => 6
  | .warm => 7 | .debug => 8

/-- The kind of a code. -/
def Kind.ofCode : Nat → Kind
  | 1 => .powerOn | 2 => .brownOut | 3 => .pin | 4 => .watchdog | 5 => .clockWindow | 6 => .cold | 7 => .warm
  | 8 => .debug | _ => .dormantWake

/-- The kinds that keep the time counter (R34, Table 3-5). -/
def Kind.keepsTime : Kind → Bool
  | .pin | .watchdog | .warm | .debug => true
  | _ => false

/-- The kinds that can tear a store write (R250). -/
def Kind.tears : Kind → Bool
  | .powerOn | .brownOut | .clockWindow => true
  | _ => false

/-- Time quality after a reset that keeps the counter (R34). -/
def Quality.afterReset (q : Quality) (lockSecs : Nat) (drift : Bool) : Quality :=
  match q with
  | .unsync => .unsync
  | .holdover => if drift then .unsync else .holdover
  | _ => if 600 ≤ lockSecs && !drift then .holdover else .unsync

/-- The time base after a reset (R34): what judges the sources starts afresh; a change of quality is recorded in boot
(R44). -/
def TimeBase.afterReset (keeps : Bool) (t : TimeBase) : TimeBase :=
  let q := if keeps then t.quality.afterReset t.lockSecs.toNat t.drift else .unsync
  let was := t.qualityWas.getD t.quality
  let was := if was != q then some was else none
  if keeps then
    { TimeBase.new with
      counter := t.counter, acc := t.acc, rate := t.rate, lockSecs := t.lockSecs, quality := q, qualityWas := was,
      holdoverUs := if t.quality = .holdover then t.holdoverUs else 0, timeSetValid := t.timeSetValid, drift := t.drift,
      devPpm := t.devPpm }
  else { TimeBase.new with qualityWas := was }

/-- The record the journal writer writes next: a gap record, or the oldest queued event that may be numbered. -/
def recordInHand (s : State) : Option Record :=
  if gapEnds s then some (gapRecord s)
  else if noSlot s || nvBothOut s then none
  else s.jr.queue.head?.map (fun e => nextRecord e s)

/-- A record cut off once its NVA copy was whole: recovery completes it; the only copy of one macro is the record. -/
def tearRecord (r : Record) (s : State) : State :=
  if !degraded s then { s with nv := { s.nv with torn := some (.record r) } }
  else if !s.nv.live.nvaOut then commitRecord r s
  else s

/-- A record cut off in its first copy: the slot's old content is lost where no other macro holds it. -/
def tearSlot (s : State) : State :=
  if degraded s then
    { s with nv := { s.nv with records := withoutSlot (slotOf (seqNext s.nv.head)) s.nv.records } }
  else s

/-- The store write in hand at a reset that can tear one (R250, R251); the packets' ACCEPT chains are torn as they arrive. -/
def tearWrite (k : Kind) (t : Tear) (s : State) : State :=
  if !k.tears || !live s || s.db.coreHalted then s
  else match t, recordInHand s with
    | .afterNva, some r => tearRecord r s
    | .beforeNva, some _ => tearSlot s
    | .parameter, _ =>
      if s.nv.due && !nvBothOut s then
        let q := s.nv.paramSeq + 1
        { s with nv := { s.nv with slots := s.nv.slots.filter (fun x =>
            !(x.inB == paramInB q s && x.slot == paramSlot q s)) } }
      else s
    | .outcome, _ =>
      if !degraded s && s.nv.lastE != 0 then { s with nv := { s.nv with torn := some .outcome } } else s
    | _, _ => s

/-- The always-on register file at a reset with the recorded cause k (R64, R67, Table 3-5): joined to an asserted reset
or not, clearing the LOCKOUT latch or not, with the state before the reset. -/
def Aorf.atReset (k : Kind) (joined clears : Bool) (last : DvState) (a : Aorf) : Aorf :=
  match k with
  | .powerOn | .brownOut => Aorf.seal Aorf.new
  | _ =>
    let a := { a with lockout := a.lockout && !clears, settingsDiffer := false }
    Aorf.seal (if joined then a else { a with lastState := last.code, resetCount := inc8 a.resetCount })

/-- The marionette port at a reset: only DEBUG keeps breakpoints, watchpoints and the unlock (Table 3-5, R371; R331 differs: DEDUCED,
log entry 111). -/
def Debug.atReset (k : Kind) (d : Debug) : Debug :=
  match k with
  | .debug => { Debug.new with unlocked := d.unlocked, bps := d.bps, wpAddr := d.wpAddr, wpCtrl := d.wpCtrl }
  | _ => Debug.new

/-- A reset is asserted already, so that a further cause joins it (R58, R61, R378). -/
def Phase.asserted : Phase → Bool
  | .running | .dormant => false
  | _ => true

/-- The cause a reset records when cause k comes (R58): alone, or the highest ranked of the joined ones. -/
def recordedCause (k : Kind) (s : State) : Kind :=
  let prior := Kind.ofCode s.dev.cause.toNat
  if s.dev.phase.asserted && decide (prior.rank ≤ k.rank) then prior else k

/-- CAUSES_SEEN with cause k (R58, Table 3-10). -/
def causesWith (k : Kind) (s : State) : BitVec 9 :=
  (if s.dev.phase.asserted then s.dev.causesSeen else 0) ||| (1 <<< (k.code - 1))

/-- The device registers while a reset with the recorded cause r is asserted (R57, R58, R65, R66, Table 3-10). -/
def Dev.atReset (k r : Kind) (byNrst : Bool) (seen : BitVec 9) (differed : Bool) (held : Bool) (d : Dev) : Dev :=
  let joined := d.phase.asserted
  let lost := r == .powerOn || r == .brownOut
  { Dev.new with
    phase := if k == .clockWindow || d.phase == .clockHeld then .clockHeld else .inReset,
    cause := BitVec.ofNat 4 r.code, causesSeen := seen, defaultsRestored := lost || differed,
    wakeSrc := (joined && d.wakeSrc) || (k == .dormantWake && byNrst),
    clockWhy := if k == .clockWindow || joined then d.clockWhy else 0,
    lockoutHeld := held, tsyncOut := d.tsyncOut && r.keepsTime }

/-- A reset of kind k asserted (R57, R58, R64, R65): the survival matrix is applied for the recorded cause. -/
def assertReset (k : Kind) (byNrst : Bool) (t : Tear) (s : State) : State :=
  let joined := s.dev.phase.asserted
  let seen := causesWith k s
  let r := recordedCause k s
  let clears := seen.getLsbD 2 || (k == .dormantWake && byNrst)
  let differed := if joined then s.dev.defaultsRestored else s.aorf.settingsDiffer
  let s := tearWrite k t s
  let aorf := s.aorf.atReset r joined clears s.dev.dvState
  tsyncGate { s with
    dev := s.dev.atReset k r byNrst seen differed aorf.lockout, aorf := aorf, tb := s.tb.afterReset r.keepsTime,
    set := defaultsOf s, jr := Journal.new, hb := HostBus.new, cm := Cmd.new,
    en := { Engine.new with image := s.en.image }, sf := Sfl.new, ent := Entropy.new,
    links := Vector.replicate 8 Link.new, short := ShortSt.new, wp := Printer.new,
    fu := { s.fu with xfer := none, patchSet := [], armed := 0 }, db := s.db.atReset r, sram := [] }

end Sys2Proof.Machine
end

