-- ==== Sys2Proof/Machine/Entropy.lean ====
section
/-! DEFINITION. The entropy source (R237 to R240): the health tests on raw bits, words in the pool, requests served in arrival order, health failures,
the start-up test and its repetition. -/

namespace Sys2Proof.Machine

/-! ## The health tests (R237) -/

/-- One raw bit through both health tests as SP 800-90B runs them (log entry 95): the source, and 1 where the repetition count test
fails, with cutoff 31, 2 where the adaptive proportion test does, with a window of 1,024 bits and cutoff 624, else 0. -/
def Entropy.test (b : Bool) (e : Entropy) : Entropy × Nat :=
  let run := if e.runLen != 0 && b == e.lastBit then e.runLen + 1 else 1
  let first := if e.aptPos = 0 then b else e.aptBit
  let hits := if e.aptPos = 0 then 1 else e.aptHits + (b == first).toNat
  let pos := if e.aptPos + 1 = 1024 then 0 else e.aptPos + 1
  ({ e with lastBit := b, runLen := run, aptBit := first, aptPos := pos, aptHits := hits },
    if 31 ≤ run then 1 else if 624 ≤ hits then 2 else 0)

/-- Raw bits through the health tests, up to the first failure. -/
def Entropy.testAll : List Bool → Entropy → Entropy × Nat
  | [], e => (e, 0)
  | b :: r, e =>
    let x := e.test b
    if x.2 = 0 then x.1.testAll r else x

/-- The health tests start afresh, with no partial block. -/
def Entropy.afresh (e : Entropy) : Entropy :=
  { e with lastBit := false, runLen := 0, aptBit := false, aptPos := 0, aptHits := 0, block := [] }

/-- The start-up test passes on raw bits (R238): both health tests, from their start. -/
def startupPasses (raw : List Bool) : Bool := (Entropy.new.testAll raw).2 == 0

/-! ## Draws -/

/-- No further challenge is issued: the port is disabled, a wrong response was less than 1 s ago, or 8 have failed (R369). -/
def challengeRefused (s : State) : Bool := debugDisabled s || s.db.refuseUs || decide (8 ≤ s.db.failures.toNat)

/-- A new debug challenge, valid for 60 s, replaces the previous one (R327, R369). -/
def newChallenge (w : DWord) (s : State) : State := { s with db := { s.db with challenge := some w, chalUs := 60000000 } }

/-- A request put behind the waiting ones. -/
def addDraw (d : Draw) (s : State) : State := { s with ent := { s.ent with waiting := s.ent.waiting ++ [d] } }

/-- A producer starts with the CID drawn; 0 and its previous CID are drawn again (R226). -/
def startProducer (n : Fin 32) (cid : Word) (s : State) : State :=
  let p := getProd n s
  if !p.drawReq then s
  else if cid = 0 ∨ cid = p.cid then addDraw (.producer n) s
  else
    let s := updProd n (fun _ => { ProdSt.new with running := true, cid := cid, nextSeq := 1, newLeft := 3 }) s
    raise 230 0x0801 .notice (argOf [(0, n.val), (4, cid.toNat)]) s

/-- Words that stand under one D moved to another, the difference of the two (R151, R164). -/
def recolour (diff : Word) (words : List Word) : List Word := words.map (· + diff)

/-- One word given to a request (Table 11-5): a 32-bit draw uses bits 31:0. A load of the LFSR moves the words that an entry into RUN
has coded to the new D. -/
def deliver (d : Draw) (w : DWord) (s : State) : State :=
  let lo : Word := w.setWidth 32
  match d with
  | .link l =>
    let s := updLink l (fun k => { k with seed := w, seedReady := true, seedSent := 0, entropyWait := false }) s
    if (getLink l s).later then addDraw (.engineFold l) s else s
  | .engineLoad =>
    if lo = 0 then addDraw .engineLoad s
    else { s with en := { s.en with lfsr := lo, words := recolour (lo - s.en.lfsr) s.en.words, seedWait := false, seedReq := false } }
  | .engineFold l => if lo = 0 then addDraw (.engineFold l) s else updLink l (fun k => { k with fold := some lo }) s
  | .producer n => startProducer n lo s
  | .challenge p =>
    if challengeRefused s then pushReply (finalReply p stLocked 0 []) s
    else pushReply (finalReply p stOk 0 (bytes8 w ++ leBytes 4 60000)) (newChallenge w s)

/-- Up to n words of the pool given to the waiting requests, in arrival order (R237). -/
def serve : Nat → State → State
  | 0, s => s
  | n + 1, s =>
    match s.ent.pool, s.ent.waiting with
    | w :: pool, d :: waiting => serve n (deliver d w { s with ent := { s.ent with pool := pool, waiting := waiting } })
    | _, _ => s

/-- Every waiting request served as far as the pool reaches. -/
def serveAll (s : State) : State := serve s.ent.pool.length s

/-- A request completes with ENTROPY_FAIL (R88, R151, R228, R327): a fold that cannot be drawn is left out (log entry 23). -/
def failDraw (d : Draw) (s : State) : State :=
  let s := { s with ent := { s.ent with failed := inc8 s.ent.failed } }
  match d with
  | .link l => updLink l (fun k => { k with entropyWait := true }) s
  | .engineLoad => s
  | .engineFold _ => s
  | .producer n =>
    if (getProd n s).drawReq then
      raise 230 0x0802 .warning (argOf [(0, n.val)]) (updProd n (fun p => { p with waiting := true, drawReq := false }) s)
    else s
  | .challenge p => pushReply (finalReply p stEntropyFail 0 []) s

/-- A new request (R237, R239): served in its turn, or failed at once while the source is unhealthy or locked. -/
def request (d : Draw) (s : State) : State :=
  match s.ent.state with
  | .unhealthy | .locked => failDraw d s
  | _ => serveAll (addDraw d s)

/-- The engine's load is requested (R151): until it succeeds the engine does not scan. -/
def requestLoad (s : State) : State :=
  request .engineLoad { s with en := { s.en with seedWait := true, seedReq := true } }

/-- A producer's draw is requested. -/
def requestProducer (n : Fin 32) (s : State) : State :=
  request (.producer n) (updProd n (fun p => { p with drawReq := true, waiting := false }) s)

/-- Producer n is configured in the active image (R225). -/
def prodParams (n : Nat) (s : State) : Option Producer :=
  match s.en.image with
  | some i => (i.producers[n]?).join
  | none => none

/-- SFL_PRODUCER_START (R226, R228): a configured producer that neither runs nor waits for a word draws its CID in RUN;
one whose draw failed draws again once the source is healthy. -/
def producerStart (n : Fin 32) (s : State) : State :=
  let p := getProd n s
  if s.dev.dvState = .run ∧ (prodParams n s).isSome ∧ ¬ p.running ∧ ¬ p.drawReq
      ∧ (p.waiting → s.ent.state = .healthy) then requestProducer n s
  else s

/-- Every wait ends when the source reports itself healthy (R88, R151, R228). -/
def drawAgain (s : State) : State :=
  let s := if s.en.seedReq && s.ent.waiting.all (fun d => d != .engineLoad) then request .engineLoad s else s
  let s := (List.finRange 8).foldl (fun s (l : Fin 8) => if (getLink l s).entropyWait then request (.link l) s else s) s
  (List.finRange 32).foldl (fun s (n : Fin 32) =>
    if s.dev.dvState = .run ∧ (getProd n s).waiting then requestProducer n s else s) s

/-- A failure of a health test or of the start-up test (R239, R240): test 1 repetition count, 2 adaptive proportion, 3
start-up. -/
def healthFail (test : Nat) (s : State) : State :=
  let waiting := s.ent.waiting
  let failures := s.ent.failures + 1
  let s := { s with ent := { s.ent with
    pool := [], waiting := [], failures := failures, lastRct := test == 1, lastApt := test == 2, block := [],
    state := if failures = 3 then .locked else .unhealthy } }
  let s := raise 231 0x0901 .warning (argOf [(0, test), (1, failures.toNat), (2, satNat 255 waiting.length)]) s
  let s := if failures = 3 then raise 231 0x0903 .warning (argOf [(1, 3)]) s else s
  waiting.foldl (fun s d => failDraw d s) s

/-- The retest that the host waits for ends with a status (R240, R299): the count goes with OK only. -/
def finishRetest (status : Byte) (s : State) : State :=
  match s.cm.running with
  | some (.retest _) =>
    finishRunning status (if status = stOk then [BitVec.ofNat 8 s.ent.failures.toNat] else []) s
  | _ => s

/-- The start-up test ends (R238, R240): the health tests go on from its bits. -/
def startupTestDone (raw : List Bool) (s : State) : State :=
  match s.ent.state with
  | .startup =>
    if startupPasses raw then
      let s := { s with ent := { (s.ent.afresh.testAll raw).1 with state := .healthy } }
      match s.cm.running with
      | some (.retest true) =>
        let s := raise 231 0x0902 .notice (argOf [(1, s.ent.failures.toNat)]) s
        finishRetest stOk (drawAgain s)
      | _ => finishRetest stWrongState (serveAll (drawAgain s))
    else finishRetest stEntropyFail (healthFail 3 s)
  | _ => s

/-- The conditioner delivers a word (R237): the pool holds 16. -/
def entropyWord (w : DWord) (s : State) : State :=
  if s.ent.pool.length < 16 then serveAll { s with ent := { s.ent with pool := s.ent.pool ++ [w] } } else s

/-- Raw bits that passed reach the conditioner, which compresses each block of 512 into a word (R237). -/
def entropyBlock (raw : List Bool) (s : State) : State :=
  let l := s.ent.block ++ raw
  if l.length < 512 then { s with ent := { s.ent with block := l } }
  else entropyWord (Config.conditioner (l.take 512)) { s with ent := { s.ent with block := l.drop 512 } }

/-- Raw bits of the source (R237, R239): every bit passes the health tests; a failure empties the pool, and a start-up test under way
fails with it; no bit of that test reaches the conditioner. -/
def entropyBits (raw : List Bool) (s : State) : State :=
  let x := s.ent.testAll raw
  let s' := { s with ent := x.1 }
  match s.ent.state with
  | .healthy => if x.2 = 0 then entropyBlock raw s' else healthFail x.2 s'
  | .startup => if x.2 = 0 then s' else finishRetest stEntropyFail (healthFail x.2 s')
  | _ => s

/-- ENTROPY_RETEST executes (R240): its refusal, or the start-up test begins or is waited for. -/
def entropyRetest (s : State) : Option Byte × State :=
  match s.ent.state with
  | .healthy => (some stWrongState, s)
  | .locked => (some stLocked, s)
  | .startup => (none, { s with cm := { s.cm with running := some (.retest false) } })
  | .unhealthy =>
    (none, { s with ent := { s.ent.afresh with state := .startup }, cm := { s.cm with running := some (.retest true) } })

end Sys2Proof.Machine
end

