-- ==== Sys2Proof/Machine/TimeBase.lean ====
section
/-! DEFINITION. Station time (chapter 2) and the crystal-to-PPS check (chapter 1): quality, discipline, steps, PPS and
IRIG-B on-time points, leap seconds, TSYNC_OUT, and the passing of time. -/

namespace Sys2Proof.Machine

/-! ## Quality -/

/-- The quality is one of the locked ones. -/
def Quality.locked : Quality → Bool
  | .lockedPps | .lockedIrig => true
  | _ => false

/-- The time base with a new quality: a lock restarts TB_LOCK_TIME, HOLDOVER its own count (R34). -/
def TimeBase.toQuality (q : Quality) (t : TimeBase) : TimeBase :=
  let t := if q.locked && !t.quality.locked then { t with lockSecs := 0, lockUs := 0 } else t
  let t := if q == .holdover then { t with holdoverUs := 0 } else t
  { t with quality := q }

/-- TB_UTC_OFFSET changed by a leap second and stored (R45, R247), then LEAP_SECOND raised (R46). -/
def applyLeap (s : State) : State :=
  let off := if s.tb.leapDelete then s.nv.live.utcOffset - 1 else s.nv.live.utcOffset + 1
  let s := storeItem (fun p => { p with utcOffset := off }) s
  let s := { s with tb := { s.tb with
    leapPending := false, leapDelete := false, leapDue := false, leapSkip := s.tb.leapDelete } }
  raise 225 0x0003 .notice (argOf [(0, off.toNat)]) s

/-- A change of quality raises TIME_QUALITY_CHANGE (R44); a leap second that fell due in UNSYNC is applied once a source
locks. -/
def setQuality (q : Quality) (s : State) : State :=
  if s.tb.quality = q then s
  else
    let old := s.tb.quality
    let s := { s with tb := s.tb.toQuality q }
    let s := tsyncGate (raiseCause 6 (raise 225 0x0001 .notice (argOf [(0, old.code), (1, q.code)]) s))
    if s.tb.leapDue && q.locked then applyLeap s else s

/-- PPS (1) or IRIG (2) is selected, AUTO selecting both (R40). -/
def selects (s : State) (which : Nat) : Bool := s.set.src.toNat == which || s.set.src.toNat == 3

/-- The lock transitions of Table 2-3. -/
def judgeLock (s : State) : State :=
  if s.tb.drift then s
  else if s.tb.irigLocked && selects s 2 && s.tb.quality != .lockedIrig then setQuality .lockedIrig s
  else if s.tb.ppsLocked && selects s 1 && s.tb.timeSetValid && !s.tb.quality.locked then setQuality .lockedPps s
  else s

/-- Acquisition begins again for both sources. -/
def TimeBase.reacquire (t : TimeBase) : TimeBase :=
  { t with ppsAcquired := false, ppsLocked := false, ppsLockRun := 0, irigAcquired := false, irigLocked := false,
           irigLockRun := 0, ppsFar := 0, irigFar := 0 }

/-- The quality after the loss of a lock (R34, Table 2-3): 10 min of lock give HOLDOVER. -/
def afterLock (s : State) : Quality := if 600 ≤ s.tb.lockSecs.toNat then .holdover else .unsync

/-! ## Steps and discipline -/

/-- The counter stepped by a signed number of µs (R33): TIME_STEP, never for 0. -/
def stepCounter (d : Int) (s : State) : State :=
  if d = 0 then s
  else
    raise 225 0x0002 .warning (BitVec.ofInt 64 d)
      { s with tb := { s.tb with counter := s.tb.counter + BitVec.ofInt 64 d } }

/-- The rate word slewed (R41): the law of the servo is not stated, only its bound of ±100 ppm. -/
def slew (s : State) : State :=
  let r : Int := (Config.freeWord s.fresh).toNat % 200001 - 100000
  { s with fresh := s.fresh + 1, tb := { s.tb with rate := BitVec.ofInt 32 r } }

/-- A signed number held within 32 bits. -/
def clamp32 (x : Int) : Word := BitVec.ofInt 32 (max (-2147483648) (min 2147483647 x))

/-- Controller time of an on-time point in ns, less TB_COMP (R40): the edge falls frac/24 µs into the present µs. -/
def onTimeNs (frac : Nat) (s : State) : Int :=
  (s.tb.counter.toNat : Int) * 1000 + (frac * 1000 / 24 : Nat) - s.set.comp.toInt

/-- The distance of a time in ns from the nearest whole second. -/
def secondError (t : Int) : Int := (t + 500000000) % 1000000000 - 500000000

/-- A number of ns as whole µs, to the nearest. -/
def roundUs (e : Int) : Int := (e + 500) / 1000

/-- The source in use drops its lock after three points beyond ±10 µs (R42). -/
def dropLock (s : State) : State := { setQuality .unsync s with tb := (setQuality .unsync s).tb.reacquire }

/-- The run of points beyond ±10 µs of a source (R42). -/
def TimeBase.farOf (irig : Bool) (t : TimeBase) : Nat := if irig then t.irigFar else t.ppsFar

def TimeBase.setFar (irig : Bool) (n : Nat) (t : TimeBase) : TimeBase :=
  if irig then { t with irigFar := n } else { t with ppsFar := n }

/-- One on-time point of the source in use (R41, R42), err being controller time less source time (its sign in TB_PHASE_ERR:
DESIGN CHOICE, log entry 114): the first fixes the phase by a step or by slewing; while locked,
to whichever source, the device never steps. -/
def discipline (irig acquired : Bool) (err : Int) (s : State) : State :=
  let s := { s with tb := { s.tb with phaseErr := clamp32 err } }
  if s.tb.quality.locked then
    let far := if err.natAbs > 10000 then s.tb.farOf irig + 1 else 0
    let s := { s with tb := s.tb.setFar irig far }
    if 3 ≤ far then dropLock s else slew s
  else
    let s := { s with tb := s.tb.setFar irig 0 }
    if !acquired && decide (err.natAbs > 100000) then stepCounter (-(roundUs err)) s else slew s

/-- The lock run of a source after a point with an error (R41). -/
def lockRun (run : Nat) (err : Int) : Nat := if err.natAbs ≤ 1000 then run + 1 else 0

/-! ## The crystal-to-PPS check (R29) -/

/-- The deviation of an interval in 0.1 ppm, to the nearest, held within 16 bits (Table 1-4). -/
def devTenths (counts : Nat) : Int :=
  max (-32767) (min 32767 ((((counts : Int) - 24000000) * 10 + 12) / 24))

/-- A valid interval judged by R29. -/
def crossCheck (counts : Nat) (s : State) : State :=
  let dev := ((counts : Int) - 24000000).natAbs
  let d := devTenths counts
  let bad := if 4800 < dev then s.tb.driftRun + 1 else 0
  let good := if dev ≤ 3600 then s.tb.clearRun + 1 else 0
  let s := { s with tb := { s.tb with devPpm := BitVec.ofInt 16 d, driftRun := bad, clearRun := good } }
  if !s.tb.drift && decide (3 ≤ bad) then
    let s := raise 224 0x0002 .warning (argOf [(0, (BitVec.ofInt 32 d).toNat)]) { s with tb := { s.tb with drift := true } }
    let s := setQuality .unsync s
    { s with tb := s.tb.reacquire }
  else if s.tb.drift && decide (10 ≤ good) then
    raise 224 0x0003 .notice 0 { s with tb := { s.tb with drift := false } }
  else s

/-- DV_CLOCK.PPS_CHECK follows selection and validity (Table 1-4). -/
def noteCheck (s : State) : State := { s with tb := { s.tb with ppsCheck := selects s 1 && s.tb.ppsValid } }

/-- The runs a missing or rejected PPS interval breaks (R29, R35, R41). -/
def TimeBase.breakPps (t : TimeBase) : TimeBase :=
  { t with driftRun := 0, clearRun := 0, ppsLockRun := 0, ppsFar := 0 }

/-! ## TIME_SET (R39, R313) -/

/-- A TIME_SET applied: the step, the offset and the leap fields; flags is byte 10 of Table 15-5. A leap second that fell due in
UNSYNC ends here without LEAP_SECOND (DESIGN CHOICE, log entry 100). -/
def applyTimeSet (tai : DWord) (offset : Half) (flags : Byte) (s : State) : State :=
  let d : Int := (tai - s.tb.counter).toInt
  let s := stepCounter d s
  let s := if d = 0 then s else
    let s := setQuality .unsync s
    { s with tb := s.tb.reacquire }
  let s := { s with tb := { s.tb with timeSetValid := true } }
  let s := setItem (fun p => { p with utcOffset := offset.setWidth 32 }) s
  if flags.getLsbD 1 then
    { s with tb := { s.tb with leapPending := true, leapDelete := flags.getLsbD 2, leapDue := false } }
  else if flags.getLsbD 3 || s.tb.leapDue then
    { s with tb := { s.tb with leapPending := false, leapDelete := false, leapDue := false } }
  else s

/-- A TIME_SET that waits for the edge takes effect there, with its outcome (R39, R313). -/
def pendingTimeSet (s : State) : State :=
  match s.cm.running with
  | some (.timeAtPps tai offset flags) =>
    let d := tai - s.tb.counter
    finishRunning stOk (bytes8 d) (writeParams (applyTimeSet tai offset flags s))
  | _ => s

/-- A TIME_SET waits for the next edge. -/
def timeSetWaits (s : State) : Bool :=
  match s.cm.running with
  | some (.timeAtPps ..) => true
  | _ => false

/-! ## PPS -/

/-- An edge that ends a valid interval (R29, R35, R39, R41). -/
def ppsPoint (counts frac : Nat) (s : State) : State :=
  let s := noteCheck { s with tb := { s.tb with ppsValid := true } }
  let s := if selects s 1 then crossCheck counts s else s
  let applied := timeSetWaits s
  let s := pendingTimeSet s
  if s.tb.drift || !selects s 1 then s
  else
    let err := if applied then -s.set.comp.toInt else secondError (onTimeNs frac s)
    let inUse := activeSrc s == 1
    let run := lockRun s.tb.ppsLockRun err
    let acquired := s.tb.ppsAcquired
    let s := { s with tb := { s.tb with ppsLockRun := run, ppsLocked := s.tb.ppsLocked || decide (3 ≤ run),
                                        ppsAcquired := acquired || inUse } }
    let s := if inUse then discipline false acquired err s else { s with tb := s.tb.setFar false 0 }
    judgeLock s

/-- An edge of PPS_IN marks a second (R35): it has the selected polarity, and the level before it was held for at least
1 µs, 24 counts of the time base. -/
def ppsActive (rising : Bool) (held : Nat) (s : State) : Bool := (rising != s.set.ppsEdge) && decide (24 ≤ held)

/-- An active PPS edge (R35): the first, and one after a missing edge, only start an interval. -/
def ppsEdge (counts frac : Nat) (s : State) : State :=
  if !s.tb.ppsStarted || s.tb.ppsMissed then
    { s with tb := { s.tb with ppsStarted := true, ppsMissed := false } }
  else if ((counts : Int) - 24000000).natAbs ≤ 24000 then ppsPoint counts frac s
  else raise 225 0x0004 .warning (BitVec.ofNat 64 counts) { s with tb := s.tb.breakPps }

/-- No edge for 1.1 s (R35): raised once. -/
def ppsMissing (s : State) : State :=
  if s.tb.ppsStarted && !s.tb.ppsMissed then
    raise 225 0x0004 .warning 0 { s with tb := { s.tb.breakPps with ppsMissed := true } }
  else s

/-- A source lost (R35, R36, Table 2-3). -/
def sourceLost (irig : Bool) (s : State) : State :=
  if irig then
    if s.tb.irigValid then
      let s := raise 225 0x0005 .warning 2
        { s with tb := { s.tb with irigValid := false, irigRun := 0, irigLast := none, irigLocked := false,
                                   irigAcquired := false, irigLockRun := 0, irigFar := 0 } }
      if s.tb.quality == .lockedIrig then
        if s.set.src == 3 && s.tb.ppsLocked && s.tb.timeSetValid && !s.tb.drift then setQuality .lockedPps s
        else setQuality (afterLock s) s
      else s
    else s
  else if s.tb.ppsValid then
    let s := raise 225 0x0005 .warning 1
      (noteCheck { s with tb := { s.tb.breakPps with ppsValid := false, ppsLocked := false, ppsAcquired := false } })
    let s := if timeSetWaits s then finishRunning stBadParam [] s else s
    if s.tb.quality == .lockedPps then setQuality (afterLock s) s else s
  else s

/-! ## IRIG-B (R36 to R38, R46) -/

/-- A leap year. -/
def leapYear (y : Nat) : Bool := (y % 4 == 0 && y % 100 != 0) || y % 400 == 0

/-- The leap years before a year. -/
def leapsBefore (y : Nat) : Nat := (y - 1) / 4 - (y - 1) / 100 + (y - 1) / 400

/-- Days from 1970-01-01 to the first day of a year from 1970 on. -/
def daysToYear (y : Nat) : Nat := (y - 1970) * 365 + (leapsBefore y - leapsBefore 1970)

/-- The year and day of year (from 1) of a day since 1970: 400 years have 146,097 days. -/
def yearOfDays (d : Nat) : Nat × Nat :=
  let rec go (fuel y d : Nat) : Nat × Nat :=
    match fuel with
    | 0 => (y, d + 1)
    | f + 1 => let n := if leapYear y then 366 else 365
      if d < n then (y, d + 1) else go f (y + 1) (d - n)
  go 400 (1970 + 400 * (d / 146097)) (d % 146097)

/-- The year and day of year of a day before or after 1970. -/
def yearOfDay (d : Int) : Nat × Nat :=
  let y := yearOfDays (d + 146097).toNat
  (y.1 - 400, y.2)

/-- The lengths of the months of a year. -/
def monthDays (y : Nat) : List Nat := [31, if leapYear y then 29 else 28, 31, 30, 31, 30, 31, 31, 30, 31, 30, 31]

/-- A day of a year (from 1) ends a month. -/
def endsMonth (y day : Nat) : Bool :=
  ((monthDays y).foldl (fun a n => (a.1 + n, a.2 || a.1 + n == day)) (0, false)).2

/-- The format carries a BCD year, control functions, SBS (Table 2-1). -/
def irigHasYear (fmt : Fin 8) : Bool := decide (4 ≤ fmt.val)
def irigHasCf (fmt : Fin 8) : Bool := fmt.val == 0 || fmt.val == 1 || fmt.val == 4 || fmt.val == 5
def irigHasSbs (fmt : Fin 8) : Bool := fmt.val == 0 || fmt.val == 3 || fmt.val == 4 || fmt.val == 7

/-- The UTC time the counter shows, in seconds. -/
def utcSeconds (s : State) : Nat := ((s.tb.counter.toNat / 1000000 : Nat) - s.nv.live.utcOffset.toInt).toNat

/-- The control functions of the frame are read (R37). -/
def irigCfUsed (f : IrigFrame) (s : State) : Bool := s.set.irigCf && irigHasCf f.fmt

/-- The year that a frame carries: the BCD year field, else the control-function year (R38). -/
def irigOwnYear (f : IrigFrame) (s : State) : Option Nat :=
  if irigHasYear f.fmt then some (2000 + f.bcdYear)
  else (if irigCfUsed f s then f.cfYear else none).map (2000 + ·)

/-- The year of a frame (R38): its own, else the counter's. -/
def irigYear (f : IrigFrame) (s : State) : Option Nat :=
  match irigOwnYear f s with
  | some y => some y
  | none => if s.tb.timeSetValid then some (yearOfDays (utcSeconds s / 86400)).1 else none

/-- UTC seconds of a frame since its year began (R37); second 60 falls on the next second's number. -/
def irigSec (f : IrigFrame) (s : State) : Int :=
  ((f.day - 1) * 86400 + f.hour * 3600 + f.minute * 60 + f.second : Nat)
    - (if irigCfUsed f s then f.offsetHalfHours * 1800 else 0)

/-- UTC seconds of a frame in a year. -/
def irigUtc (f : IrigFrame) (year : Nat) (s : State) : Int := (daysToYear year * 86400 : Nat) + irigSec f s

/-- The time that a frame spells (R36). -/
def irigMark (f : IrigFrame) (s : State) : IrigMark :=
  { year := irigOwnYear f s, sec := irigSec f s, sixty := f.second == 60 }

/-- Mark c is n seconds after mark p: by their years where both carry one, else across the end of a year of either length. -/
def IrigMark.after (p c : IrigMark) (n : Int) : Bool :=
  let d := c.sec - p.sec
  match p.year, c.year with
  | some a, some b => d + ((daysToYear b : Int) - daysToYear a) * 86400 == n
  | _, _ => d == n || d == n - 365 * 86400 || d == n - 366 * 86400

/-- UTC second u is the last of a UTC month. -/
def lastOfMonth (u : Nat) : Bool :=
  let y := yearOfDays (u / 86400)
  u % 86400 == 86399 && endsMonth y.1 y.2

/-- A deletion that was announced falls just before UTC second u (R36, R46): still pending, or applied since the previous
frame. -/
def irigDeletes (u : Nat) (s : State) : Bool :=
  ((s.tb.leapPending && s.tb.leapDelete) || s.tb.leapSkip) && lastOfMonth (u - 1)

/-- The order of two frames (R36, R46): plus 1 s, across second 60, or plus 2 s across an announced deletion. -/
def irigFollows (p c : IrigMark) (u : Nat) (s : State) : Bool :=
  if p.sixty then !c.sixty && p.after c 0 else p.after c 1 || (irigDeletes u s && p.after c 2)

/-- Second 60 is valid only at the end of a UTC month with an insertion pending (R46). -/
def irigSecondOk (f : IrigFrame) (u : Nat) (s : State) : Bool :=
  decide (f.second < 60) || (f.second == 60 && s.tb.leapPending && !s.tb.leapDelete && lastOfMonth (u - 1))

/-- The fields of a frame agree with each other (R36). -/
def irigFieldsOk (f : IrigFrame) : Bool :=
  f.positionOk && f.bcdOk &&
    (!irigHasSbs f.fmt || f.sbs == f.hour * 3600 + f.minute * 60 + f.second)

/-- The low (valid) or high (rejected) count of TB_IRIG_STAT advanced (Table 2-4). -/
def countIrig (ok : Bool) (w : Word) : Word :=
  let lo : Half := w.setWidth 16
  let hi : Half := (w >>> 16).setWidth 16
  if ok then (hi ++ inc16 lo).setWidth 32 else (inc16 hi ++ lo).setWidth 32

/-- A valid frame of which the year is known: acquisition, discipline and lock (R36, R41). -/
def irigPoint (utc : Int) (frac : Nat) (s : State) : State :=
  if !selects s 2 then s
  else
    let tai : Int := utc + s.nv.live.utcOffset.toInt
    let err := onTimeNs frac s - tai * 1000000000
    let run := lockRun s.tb.irigLockRun err
    let acquired := s.tb.irigAcquired
    let s := { s with tb := { s.tb with
      irigLockRun := run, irigAcquired := true, timeSetValid := true,
      irigLocked := s.tb.irigLocked || (decide (3 ≤ run) && decide (3 ≤ s.tb.irigRun)) } }
    judgeLock (discipline true acquired err s)

/-- A received IRIG-B frame (R36, R37, R38, R46). A frame with no previous one to follow, the first or the one after a
frame whose fields do not agree, is held to its own fields alone (DESIGN CHOICE, log entry 79). Two more DESIGN CHOICES: while no
year is known, the months are those of 2000 (log entry 112); TB_STATUS.IRIG_FMT follows valid frames alone (log entry 113). -/
def irigFrame (f : IrigFrame) (frac : Nat) (s : State) : State :=
  let year := irigYear f s
  let utc := irigUtc f (year.getD 2000) s
  let mark := irigMark f s
  let fields := irigFieldsOk f
  let ok := fields && irigSecondOk f utc.toNat s &&
    (match s.tb.irigLast with | some p => irigFollows p mark utc.toNat s | none => true)
  let s := { s with tb := { s.tb with irigStat := countIrig ok s.tb.irigStat, leapSkip := false,
                                      irigLast := if fields then some mark else none } }
  if ok then
    let announced := irigCfUsed f s && f.leapPending
    let s := { s with tb := { s.tb with
      irigValid := true, irigRun := s.tb.irigRun + 1, irigFmt := BitVec.ofNat 3 f.fmt.val, irigNoYear := year.isNone,
      leapPending := s.tb.leapPending || announced,
      leapDelete := if announced then f.leapDelete else s.tb.leapDelete } }
    if year.isSome then irigPoint utc frac s else s
  else
    { s with tb := { s.tb with irigRun := 0, irigLockRun := 0, irigFar := 0 } }

/-! ## Holdover, leap seconds, TSYNC_OUT -/

/-- The seconds spent in HOLDOVER when it expires (Table 2-7): as counted, and no less than TB_HOLDOVER_MAX, which the row
reports to have elapsed. -/
def holdoverSecs (s : State) : Nat := satNat 0xFFFFFFFF (max s.set.holdoverMax.toNat (s.tb.holdoverUs / 1000000))

/-- TB_HOLDOVER_MAX has elapsed in HOLDOVER (Table 2-3). -/
def holdoverExpired (s : State) : State :=
  if s.tb.quality = .holdover then
    setQuality .unsync (raise 225 0x0006 .warning (argOf [(0, holdoverSecs s)]) s)
  else s

/-- The end of the last second of the UTC month (R46). -/
def leapSecond (s : State) : State :=
  if s.tb.leapPending then
    if s.tb.holds then applyLeap s else { s with tb := { s.tb with leapDue := true } }
  else s

/-- A change of the selected source (R314, Table 2-3). The runs of R29 end where PPS does not stay selected. -/
def selectSource (src : BitVec 2) (s : State) : State :=
  if s.set.src = src then s
  else
    let was := selects s 1
    let s := setQuality .unsync { s with set := { s.set with src := src } }
    let t := s.tb.reacquire
    noteCheck { s with tb := if was && selects s 1 then t else { t with driftRun := 0, clearRun := 0 } }

/-! ## The passing of time -/

/-- What the fractional accumulator holds after n µs of the crystal, in 10⁻⁹ of a µs (log entry 99): each advances it by one µs
and the rate word's trim (R32). -/
def TimeBase.accAfter (n : Nat) (t : TimeBase) : Nat := t.acc + n * (1000000000 + t.rate.toInt).toNat

/-- The counter, TB_LOCK_TIME and the count of HOLDOVER after n µs of the crystal (R32, R34). -/
def TimeBase.passUs (n : Nat) (t : TimeBase) : TimeBase :=
  let t := { t with counter := t.counter + BitVec.ofNat 64 (t.accAfter n / 1000000000), acc := t.accAfter n % 1000000000 }
  match t.quality with
  | .unsync => t
  | .holdover => { t with holdoverUs := t.holdoverUs + n }
  | _ => { t with lockSecs := satWord (t.lockSecs.toNat + (t.lockUs + n) / 1000000), lockUs := (t.lockUs + n) % 1000000 }

/-- n operating minutes counted (R128, R160, R183): a parameter record is due every minute (R247). -/
def countMinutes (n : Nat) (s : State) : State :=
  { s with
    nv := { s.nv with
      due := s.nv.due || decide (0 < n),
      live := { s.nv.live with
        chMinutes := s.nv.live.chMinutes.mapIdx (fun i m => if chanEnabled (i / 6) (i % 6) s then m + n else m), brMinutes := s.nv.live.brMinutes.map (· + n),
        failAge := s.nv.live.failAge.map (· + n) } } }

/-- n µs pass while the clock runs: the counter and every count of time move; what falls due is a command of its own. -/
def passTime (n : Nat) (s : State) : State :=
  let s := { s with
    clock := s.clock + n,
    tb := s.tb.passUs n,
    dev := { s.dev with uptimeUs := s.dev.uptimeUs + n, opUs := s.dev.opUs + n },
    hb := { s.hb with silentUs := s.hb.silentUs + n },
    cm := { s.cm with waits := if s.db.coreHalted then s.cm.waits else s.cm.waits.map (fun w => (w.1, w.2 + n)) },
    db := { s.db with chalUs := s.db.chalUs - n, clockUs := satNat 1000000 (s.db.clockUs + n) } }
  if s.dev.opUs < 60000000 then s
  else countMinutes (s.dev.opUs / 60000000) { s with dev := { s.dev with opUs := s.dev.opUs % 60000000 } }

/-- The counter runs: always while firmware runs, and through a reset that keeps it (R51). -/
def counterRuns (s : State) : Bool :=
  live s || (s.dev.phase == .inReset && (Kind.ofCode s.dev.cause.toNat).keepsTime)

/-- What an empty queue does: one µs passes, for the counter and a running HOLDOVER alone while a reset that keeps them is
asserted (R34, R51). -/
def tick (s : State) : State :=
  if live s then passTime 1 s
  else if counterRuns s then { s with tb := s.tb.passUs 1 }
  else s

/-- TSYNC_OUT at a whole second (R51). -/
def tsyncRise (s : State) : State :=
  if counterRuns s then { s with dev := { s.dev with tsyncOut := tsyncAllowed s } } else s

/-- TSYNC_OUT after TSYNC_WIDTH (R51). -/
def tsyncFall (s : State) : State := { s with dev := { s.dev with tsyncOut := false } }

end Sys2Proof.Machine
end

