-- ==== Sys2Proof/Machine/Sfl.lean ====
section
/-! DEFINITION. Svaent frames between panels (chapter 11): the inbound queue, the judging of frames, the watchdog, the
outbound queue as the host reads it. -/

namespace Sys2Proof.Machine

/-! ## The inbound queue (R235) -/

/-- A frame queued for judging: it ends a run of inbound losses (R235). -/
def queueIn (b : List Byte) (s : State) : State :=
  let lost := s.sf.inLoss
  let s := { s with sf := { s.sf with inq := s.sf.inq ++ [b], inLoss := 0 } }
  if lost = 0 then s else raise 230 0x0806 .warning (argOf [(0, 0), (4, lost)]) s

/-- The inbound queue is full. -/
def inFull (s : State) : Bool := decide (64 ≤ s.sf.inq.length)

/-- A frame refused by a full queue (R235). -/
def loseIn (s : State) : State :=
  { s with sf := { s.sf with inLoss := s.sf.inLoss + 1, lossIn := inc8 s.sf.lossIn } }

/-! ## Judging (R229 to R233) -/

/-- The consumer connection that a source node names (Table 11-3, check 2). -/
def consumerOf (src : Half) (s : State) : Option (Nat × Consumer) :=
  let l := (s.en.image.map Image.consumers).getD []
  (List.range 32).findSome? (fun n =>
    match (l[n]?).join with
    | some c => if c.src = src then some (n, c) else none
    | none => none)

/-- Consumer n's parameters, where the active image configures it. -/
def consParams (n : Nat) (s : State) : Option Consumer :=
  match s.en.image with
  | some i => (i.consumers[n]?).join
  | none => none

/-- The age of a frame: the take-in time minus STAMP, as a signed number (R230). -/
def frameAge (f : SflFrame) (s : State) : Int := (s.tb.counter.setWidth 32 - f.stamp).toInt

/-- The age check applies (R230). -/
def ageApplies (f : SflFrame) (c : Consumer) (s : State) : Bool := c.ageMax != 0 && f.ts && s.tb.holds

/-- What Table 11-4 does with a frame. -/
inductive SflVerdict where
  | adopt (kind : Nat)
  | accept
  | duplicate
  | badCid
  | badSeq
deriving DecidableEq, Repr

/-- The step of a frame (R231). -/
def seqStep (last seq : BitVec 28) : Nat := (seq - last).toNat

/-- Table 11-4. -/
def sflVerdict (c : ConsSt) (f : SflFrame) : SflVerdict :=
  let d := seqStep c.last f.seq
  match c.state with
  | .empty => .adopt 1
  | .expired =>
    if f.cid ≠ c.cid then .adopt 2
    else if 1 ≤ d ∧ d ≤ 2 ^ 27 - 1 then .adopt 3
    else .badSeq
  | _ =>
    if f.cid ≠ c.cid then (if f.isNew then .adopt 2 else .badCid)
    else if d = 0 then .duplicate
    else if d ≤ 16 then .accept
    else .badSeq

/-- The payload, sequence and watchdog of a frame taken at a controller time and a clock (R231); its age, where it was checked. -/
def ConsSt.taken (f : SflFrame) (now clock : Nat) (age : Word) (st : ConnState) (c : ConsSt) : ConsSt :=
  { c with state := st, cid := f.cid, last := f.seq, lastUs := now, lastClock := clock, age := age, bits := f.bits, w0 := f.w0, w1 := f.w1 }

/-- An RR of an accepted frame is judged (R206, R233): the mode of the scan is judged when RS is given, and so is the reason of a
frame that leaves the connection not valid. -/
def judgeRR (n : Nat) (f : SflFrame) (s : State) : State :=
  let c := getCons n s
  if s.dev.dvState ≠ .run then rejectRemote n 9 f.seq s
  else match sflInBlock n s with
    | none => rejectRemote n 5 f.seq s
    | some (_, b) =>
      if !b.params.rrest then rejectRemote n 5 f.seq s
      else if c.state ≠ .valid then updCons n (fun c => { c with rrBad := c.rrBad ++ [f.seq] }) s
      else if c.rrNow.isNone then updCons n (fun c => { c with rrNow := some f.seq }) s
      else if c.rrNext.isNone then updCons n (fun c => { c with rrNext := some f.seq }) s
      else rejectRemote n 8 f.seq s

/-- SFL_CONN_LOST (R231, R232): from VALID only. -/
def connLost (n reason : Nat) (was : ConsSt) (s : State) : State :=
  if was.state = .valid then
    raise 230 0x0805 .warning (argOf [(0, n), (1, reason), (4, was.last.toNat)]) (updCons n (fun c => { c with lost := true }) s)
  else s

/-- A frame that passed checks 1 to 3, handled by Table 11-4. -/
def judgeSeq (n : Nat) (f : SflFrame) (age : Word) (s : State) : State :=
  let c := getCons n s
  let count (s : State) : State := { s with sf := { s.sf with rxCount := inc32 s.sf.rxCount } }
  match sflVerdict c f with
  | .adopt kind =>
    let s := count (updCons n (fun c => c.taken f s.tb.counter.toNat s.clock age .pending) s)
    let s := raise 230 0x0803 .notice (argOf [(0, n), (1, kind), (4, f.cid.toNat)]) s
    let s := connLost n 2 c s
    if f.rr then judgeRR n f s else s
  | .accept =>
    let st : ConnState := if f.isNew then .pending else .valid
    let s := count (updCons n (fun c => c.taken f s.tb.counter.toNat s.clock age st) s)
    let s := if st = .pending then connLost n 2 { c with last := f.seq } s
      else if c.state = .pending then raise 230 0x0804 .notice (argOf [(0, n), (4, f.seq.toNat)]) s
      else s
    if f.rr then judgeRR n f s else s
  | .duplicate =>
    let s := { s with sf := { s.sf with rxDup := inc32 s.sf.rxDup } }
    if f.rr then rejectRemote n (if s.dev.dvState = .run then 8 else 9) f.seq s else s
  | .badCid => { s with sf := { s.sf with errCid := inc8 s.sf.errCid } }
  | .badSeq => { s with sf := { s.sf with errSeq := inc8 s.sf.errSeq } }

/-- One inbound frame through the checks of Table 11-3. -/
def judgeFrame (b : List Byte) (s : State) : State :=
  if !sflCheck1 s.fu.site b then { s with sf := { s.sf with errCrc := inc8 s.sf.errCrc } }
  else
    let f := sflFields b
    match (if f.dest = nodeId s then consumerOf f.src s else none) with
    | none => { s with sf := { s.sf with errAddr := inc8 s.sf.errAddr } }
    | some (n, c) =>
      let age := frameAge f s
      if ageApplies f c s && (decide (age < -100) || decide ((c.ageMax * 1000 : Nat) < age)) then
        { s with sf := { s.sf with errAge := inc8 s.sf.errAge } }
      else judgeSeq n f (if ageApplies f c s then BitVec.ofInt 32 age else 0x80000000) s

/-- T_WD or more has passed since the last frame: by the take-in times (R232), or by the clock that no step of the time touches (R5,
R27, R212; DEDUCED, log entry 124). -/
def ConsSt.overdue (tWd : Nat) (now clock : Nat) (c : ConsSt) : Bool :=
  decide (tWd * 1000 ≤ now - c.lastUs) || decide (tWd * 1000 ≤ clock - c.lastClock)

/-- Consumer n expires at a take-in T_WD or more after its last frame (R232). -/
def expire (n : Nat) (s : State) : State :=
  match consParams n s with
  | none => s
  | some p =>
    let c := getCons n s
    if (c.state = .pending ∨ c.state = .valid) ∧ c.overdue p.tWd s.tb.counter.toNat s.clock then
      connLost n 1 c (updCons n (fun c => { c with state := .expired }) s)
    else s

/-- Every waiting frame judged in arrival order, then every watchdog (R229, R232). In other states frames are discarded. -/
def takeIn (s : State) : State :=
  let frames := s.sf.inq
  let s := { s with sf := { s.sf with inq := [] } }
  match s.dev.dvState with
  | .stop | .run | .fault =>
    let s := frames.foldl (fun s b => judgeFrame b s) s
    (List.range 32).foldl (fun s n => expire n s) s
  | _ => s

/-- A frame put into the inbound queue, as the host sends it; in a state that does not judge frames it is discarded
uncounted (R229, R235). -/
def frameIn (b : List Byte) (s : State) : State :=
  match s.dev.dvState with
  | .stop | .run | .fault => if inFull s then loseIn s else queueIn b s
  | _ => s

/-- The watchdog of connection n has run out at a take-in (R232): frames are judged first, and one that was taken restarts
it. -/
def connWatchdog (n : Nat) (s : State) : State :=
  match s.dev.dvState, consParams n s with
  | .stop, some _ | .run, some _ | .fault, some _ =>
    let before := getCons n s
    let s := s.sf.inq.foldl (fun s b => judgeFrame b s) { s with sf := { s.sf with inq := [] } }
    let c := getCons n s
    if c = before ∧ (c.state = .pending ∨ c.state = .valid) then
      connLost n 1 c (updCons n (fun c => { c with state := .expired }) s)
    else s
  | _, _ => s

/-! ## The outbound queue as the host takes it (R235, R316) -/

/-- Up to n frames taken from the outbound queue, oldest first. -/
def takeOut (n : Nat) (s : State) : List (List Byte) × State :=
  (s.sf.outq.take n, { s with sf := { s.sf with outq := s.sf.outq.drop n } })

/-- SFL_STATUS (Table 15-6). -/
def sflStatusData (consumer : Bool) (n : Nat) (s : State) : List Byte :=
  if consumer then
    let c := getCons n s
    let code : Nat := match c.state with
      | .empty => 0 | .pending => 1 | .valid => 2 | .expired => 3
    let p := consParams n s
    let f (g : Consumer → Nat) : Nat := (p.map g).getD 0
    [BitVec.ofNat 8 p.isSome.toNat, BitVec.ofNat 8 code] ++ leBytes 2 (f (fun p => p.src.toNat)) ++ bytes4 c.cid
      ++ leBytes 4 c.last.toNat ++ bytes4 (satWord (if c.state = .empty then 0 else (s.tb.counter.toNat - c.lastUs) / 1000))
      ++ leBytes 2 (f Consumer.tWd) ++ leBytes 2 (f Consumer.ageMax) ++ bytes4 c.age
      ++ [BitVec.ofNat 8 (f (fun p => p.modeConn.toNat)), 0, 0, 0]
  else
    let c := getProd n s
    let p := prodParams n s
    let f (g : Producer → Nat) : Nat := (p.map g).getD 0
    [BitVec.ofNat 8 p.isSome.toNat, BitVec.ofNat 8 c.running.toNat] ++ leBytes 2 (f (fun p => p.dest.toNat)) ++ bytes4 c.cid
      ++ leBytes 4 c.nextSeq.toNat ++ bytes4 c.sent ++ leBytes 2 (f Producer.tPi) ++ List.replicate 10 0

end Sys2Proof.Machine
end

