-- ==== Sys2Proof/Machine/Store.lean ====
section
/-! DEFINITION. The non-volatile store and the event journal (chapter 12): commits with their read-back failures, gap
records, parameter records, reading and acknowledging, recovery. -/

namespace Sys2Proof.Machine

/-- n failed read-backs of a write of len bytes to a macro (R250): two repeats, and a third failure takes it out of
service. -/
def readBack (b : Bool) (n addr len : Nat) (s : State) : State :=
  if macroOut b s then s
  else
    let s := { s with jr := { s.jr with retries := add8 s.jr.retries (satNat 2 n) } }
    if 3 ≤ n then macroFail b 2 (BitVec.ofNat 32 addr) (some (addr, len)) s else s

/-- The writer has a record to write: an ended gap, or a queued event that may be numbered. -/
def writerReady (s : State) : Bool := gapEnds s || (!s.jr.queue.isEmpty && !noSlot s && !nvBothOut s)

/-- One write of the journal writer with its failed read-backs (R249, R250, R258). With both macros out of service nothing is
committed; DV_STATE changes only as Table 3-7 states, so the next boot enters FAULT with NVM_BOTH (log entry 59). -/
def writeWith (nvaFails nvbFails : Nat) (f : State → State) (s : State) : State :=
  let addr := slotOffset (seqNext s.nv.head)
  f (readBack true nvbFails addr 32 (readBack false nvaFails addr 32 s))

/-- The journal writer commits the oldest queued event (R249). -/
def journalCommit (nvaFails nvbFails : Nat) (s : State) : State :=
  if writerReady s then writeWith nvaFails nvbFails writeNext s else s

/-- The gap record is committed once the gap has ended (R255). -/
def journalGap (nvaFails nvbFails : Nat) (s : State) : State :=
  if gapEnds s then writeWith nvaFails nvbFails commitGap s else s

/-- Words of the macros found to fail read-backs of the writes to come (R250): where and how often is the cells' own
(DESIGN CHOICE, log entry 127). -/
def noteWear (wear : List (Bool × Nat × Nat)) (s : State) : State :=
  if wear.isEmpty then s else { s with nv := { s.nv with worn := s.nv.worn ++ wear } }

/-- A parameter record that is due is written, its macro failing n read-backs (R247, R250). -/
def parameterRecord (n : Nat) (s : State) : State :=
  if s.nv.due then
    let q := s.nv.paramSeq + 1
    let s := readBack (paramInB q s) n (0x40000 + 1024 * paramSlot q s) 1024 s
    if s.nv.due then writeParams s else s
  else s

/-! ## Records as the host reads them (R248, R252) -/

/-- Bytes 0 to 27 of a record (Table 12-4). -/
def Record.body (r : Record) : List Byte :=
  bytes4 r.seq ++ bytes8 r.time ++ [r.quality, r.cls] ++ bytes2 r.source ++ bytes2 r.code ++ bytes8 r.arg ++ bytes2 r.flags

/-- A record with the NVA form of CHECK (R248). -/
def Record.bytes (r : Record) : List Byte := r.body ++ bytes4 (crc32 (0 :: r.body))

/-- The committed records from a sequence on, oldest first; the start lies within JR_OLDEST to JR_HEAD (R252). -/
def recordsFrom (start : Word) (s : State) : List Record := s.nv.records.dropWhile (fun r => seqBefore r.seq start)

/-- A start of 0 or below JR_OLDEST is refused (R252, R311). -/
def startRefused (start : Word) (s : State) : Bool := start == 0 || seqBefore start (jrOldest s)

/-- A start lies beyond JR_HEAD. -/
def startBeyond (start : Word) (s : State) : Bool := seqBefore s.nv.head start

/-- JOURNAL_75 clears at 50 % (R254). -/
def check50 (s : State) : State :=
  if s.jr.full75 && decide (jrUnack s ≤ 11264) then
    raise 228 0x0B02 .notice (argOf [(0, jrUnack s)]) { s with jr := { s.jr with full75 := false } }
  else s

/-- JOURNAL_ACK (R253): the status, and the acknowledgement pointer moved. -/
def journalAck (a : Word) (s : State) : Byte × State :=
  if a = 0 then (stBadParam, s)
  else if a = s.nv.live.ack || seqBefore a s.nv.live.ack then (stOk, s)
  else if seqBefore s.nv.head a then (stBadParam, s)
  else (stOk, check50 (storeItem (fun p => { p with ack := a }) s))

/-! ## Recovery (R251) -/

/-- One write completed by the recovery (Table 12-7). -/
def countRecovered (s : State) : State := { s with jr := { s.jr with recovered := s.jr.recovered + 1 } }

/-- A record completed from NVA: it is committed, and a gap record ends its gap. -/
def recoverRecord (r : Record) (s : State) : State :=
  if r.seq = seqNext s.nv.head then
    let s := writeOne true (slotOffset r.seq) 32 s
    let s := countRecovered (commitRecord r s)
    let s := if r.code = 0x0B03 then storeItem (fun p => { p with gap := Gap.none }) s else s
    if evEnabled s r.source.toNat then setPending r.source.toNat s else s
  else s

/-- The ring place after a place: 64 to 1,023 (R290). -/
def nextPlace (p : Nat) : Nat := if 1023 ≤ p then 64 else p + 1

/-- An entry put in the ring at its place. -/
def putEntry (e : RingEntry) (l : List RingEntry) : List RingEntry := l.filter (fun x => x.place != e.place) ++ [e]

/-- The next entry of a chain stands in the ring. -/
def putRing (c : Chain) (part : Nat) (s : State) : State :=
  { s with nv := { s.nv with
      ring := putEntry { place := s.nv.ringPos, part := part, chain := c } s.nv.ring, ringPos := nextPlace s.nv.ringPos } }

/-- The offset of entry n of the command journal (Table 12-1). -/
def entryOffset (n : Nat) : Nat := 0x44000 + 32 * n

/-- An entry of a chain completed from NVA: the ACCEPT entry makes its command an accepted one. -/
def recoverEntry (c : Chain) (part : Nat) (s : State) : State :=
  let s := countRecovered (putRing c part (writeOne true (entryOffset s.nv.ringPos) 32 s))
  if part = 0 then { s with nv := { s.nv with chains := s.nv.chains ++ [c] } } else s

/-- A write that is valid in NVA only is completed into NVB in boot step 6; a torn copy is discarded. The event journal and the
command journal are recovered alike. -/
def recoverJournal (s : State) : State :=
  let t := s.nv.torn
  let s := { s with nv := { s.nv with torn := none } }
  match t with
  | none => s
  | some (.record r) => recoverRecord r s
  | some (.entry c k) => recoverEntry c k s
  | some .outcome => countRecovered (writeOne true (entryOffset (s.nv.lastE.toNat % 64)) 32 s)

/-- What the walk of R251 finds at an offset: a record from the head checkpoint on, an outcome, an entry of the ring. -/
def inWalk (off : Nat) (s : State) : Bool :=
  if off < 0x44000 then false
  else if off < 0x44800 then ((s.nv.outcomes[(off - 0x44000) / 32]?).join).isSome
  else if off < 0x4C000 then s.nv.ring.any (fun e => e.place == (off - 0x44000) / 32)
  else if off < 0x50000 then false
  else match recordInSlot ((off - 0x50000) / 32) s.nv.records with
    | some r => decide (seqDist s.nv.live.headCheck r.seq ≤ seqDist s.nv.live.headCheck s.nv.head)
    | none => false

/-- The records before the one in slot k. -/
def recordsBefore (k : Nat) (l : List Record) : List Record := l.takeWhile (fun r => slotOf r.seq != k)

/-- An entry without a valid copy is discarded; the walk of the event journal ends at it, so that the head lies before it and every
copy beyond is discarded (R251). -/
def loseEntry (off : Nat) (s : State) : State :=
  if off < 0x44800 then
    { s with nv := { s.nv with outcomes := s.nv.outcomes.setIfInBounds ((off - 0x44000) / 32) none } }
  else if off < 0x4C000 then
    let lost := s.nv.ring.filter (fun e => e.place == (off - 0x44000) / 32)
    { s with nv := { s.nv with
        ring := s.nv.ring.filter (fun e => e.place != (off - 0x44000) / 32),
        chains := s.nv.chains.filter (fun c => !lost.any (fun e => e.chain == c)) } }
  else
    let l := recordsBefore ((off - 0x50000) / 32) s.nv.records
    { s with nv := { s.nv with records := l, head := (l.getLast?.map Record.seq).getD s.nv.live.headCheck } }

/-- A copy that fails its CHECK: completed from the other macro where that holds a valid one, either way round; else the entry is
lost. Only macros in service that pass their boot test are walked. -/
def recoverCopy (usable : Bool → Bool) (bad : List (Bool × Nat)) (s : State) (x : Bool × Nat) : State :=
  if !usable x.1 || macroOut x.1 s || !inWalk x.2 s then s
  else if usable (!x.1) && !macroOut (!x.1) s && !bad.contains (!x.1, x.2) then countRecovered (writeOne x.1 x.2 32 s)
  else loseEntry x.2 s

/-- Every copy that the walk of R251 finds invalid. -/
def recoverCopies (usable : Bool → Bool) (bad : List (Bool × Nat)) (s : State) : State :=
  bad.foldl (recoverCopy usable bad) s

/-- NVM_RECOVERED reports the completed records. -/
def noteRecovered (s : State) : State :=
  if s.jr.recovered = 0 then s
  else raise 227 0x0A02 .notice (argOf [(0, s.jr.recovered.toNat), (4, s.nv.head.toNat)]) s

/-- The parameter items after a reset (R128, R160, R183, R247): the newest record, with 10 min added to the hour
counters and none to the age of a failure. -/
def Params.resumed (p : Params) : Params :=
  { p with chMinutes := p.chMinutes.map (· + 10), brMinutes := p.brMinutes.map (· + 10) }

end Sys2Proof.Machine
end

