-- ==== Sys2Proof/Machine/HostBus.lean ====
section
/-! DEFINITION. The host bus (chapter 13): windows, attention, host silence, recovery of a disturbed bus. -/

namespace Sys2Proof.Machine

/-! ## Accesses -/

/-- The controller answers its addresses (R60, R262). -/
def busServes (s : State) : Bool := live s && s.hb.base != 0

/-- An acknowledged transfer restarts the silence timer and ends a silence (R276); a bus that carries it is held low no
longer (R277). -/
def touchBus (s : State) : State :=
  let ms := s.hb.silentUs / 1000
  let was := s.hb.silent
  let s := { s with hb := { s.hb with silent := false, silentUs := 0, nacked := false, stuck := false } }
  if was then raise 233 0x0C02 .notice (argOf [(0, ms)]) s else s

/-- An access that is not acknowledged. -/
def refuseAccess (s : State) : State := { s with hb := { s.hb with nacked := true, readData := [] } }

/-- n bytes of a window's content; beyond it the bus reads 0xFF. -/
def clockOut (n : Nat) (bytes : List Byte) : List Byte := (bytes ++ List.replicate (n - bytes.length) 0xFF).take n

/-- What a read returned. -/
def putRead (n : Nat) (bytes : List Byte) (s : State) : State :=
  { s with hb := { s.hb with readData := clockOut n bytes } }

/-! ## CMD read (R265, R281, R282) -/

/-- A reply's bytes (Table 14-2). -/
def Reply.bytes (r : Reply) : List Byte :=
  let b := [r.opcode, r.ctrl, r.status, r.orig] ++ bytes4 r.csn ++ leBytes 2 r.data.length ++ r.data
  b ++ bytes2 (crc16 b)

/-- FINAL of a reply. -/
def Reply.final (r : Reply) : Bool := r.ctrl.getLsbD 4

/-- The tag's bit. -/
def tagBit (tag : Nat) : BitVec 8 := (1 : BitVec 8) <<< tag

/-- A reply read completely leaves the queue; the final one frees its tag (R282). -/
def removeReply (r : Reply) (rest : List Reply) (s : State) : State :=
  { s with cm := { s.cm with
      replies := rest, inFlight := if r.final then s.cm.inFlight &&& ~~~tagBit (tagOf r.ctrl) else s.cm.inFlight } }

/-- A read of the CMD window. -/
def readCmd (clocked : Nat) (s : State) : State :=
  if busServes s then
    let s := touchBus s
    match s.cm.replies with
    | [] => putRead clocked [0, 0] s
    | r :: rest =>
      let b := r.bytes
      let s := putRead clocked (leBytes 2 b.length ++ b) s
      if b.length + 2 ≤ clocked then removeReply r rest s else s
  else refuseAccess s

/-! ## STAT read (R266, R267) -/

/-- The commands in flight. -/
def tagsInFlight (s : State) : Nat := (bitsOf s.cm.inFlight).countP id

/-- Bytes 0 to 13 of the STAT block (Table 13-2). -/
def statBody (s : State) : List Byte :=
  [s.dev.dvState.code, s.dev.faultCode] ++ leBytes 2 (dvFlags s).toNat ++ [s.tb.statusByte, s.hb.causes,
    BitVec.ofNat 8 (satNat 15 s.cm.replies.length + 16 * satNat 15 (tagsInFlight s)), s.hb.attnSeq]
    ++ bytes4 s.nv.head ++ leBytes 2 s.en.scanNo.toNat

/-- The STAT block. -/
def statBlock (s : State) : List Byte := statBody s ++ bytes2 (crc16 (statBody s))

/-- A read of all 16 bytes clears the causes it reported and ends the repetition of attention, and with it an episode of R277:
no attention is wanted any more. -/
def clearCauses (s : State) : State :=
  { s with hb := { s.hb with causes := 0, attnDue := false, backoff := false, losses := 0, stuck := false } }

/-- A read of the STAT window: the block is latched as the address is acknowledged. -/
def readStat (clocked : Nat) (s : State) : State :=
  if busServes s then
    let s := touchBus s
    let s := putRead clocked (statBlock s) s
    if 16 ≤ clocked then clearCauses s else s
  else refuseAccess s

/-! ## SFL window (R268) -/

/-- The states in which frames are queued (R268). -/
def takesFrames (s : State) : Bool :=
  match s.dev.dvState with
  | .stop | .run | .fault => true
  | _ => false

/-- A frame whose first byte meets a full queue is refused there and lost (R268). -/
def refuseFrame (s : State) : State :=
  let s := loseIn s
  { s with hb := { s.hb with nacked := true } }

/-- n whole frames taken in order; a full queue refuses a frame, whole or in part, at its first byte and ends the transfer. The
part-frame that follows n frames is counted. -/
def takeFrames : Nat → List Byte → State → State
  | 0, bytes, s =>
    if bytes.isEmpty then s
    else if takesFrames s && inFull s then refuseFrame s
    else { s with hb := { s.hb with errPart := inc8 s.hb.errPart } }
  | n + 1, bytes, s =>
    if takesFrames s then
      if inFull s then refuseFrame s else takeFrames n (bytes.drop 32) (queueIn (bytes.take 32) s)
    else takeFrames n (bytes.drop 32) s

/-- A write to the SFL window. -/
def writeSfl (bytes : List Byte) (s : State) : State :=
  if busServes s then takeFrames (bytes.length / 32) bytes (touchBus s) else refuseAccess s

/-- A read of the SFL window: a frame leaves the queue once its 32 bytes have been clocked out. -/
def readSfl (clocked : Nat) (s : State) : State :=
  if busServes s then
    let s := touchBus s
    let s := putRead clocked (BitVec.ofNat 8 s.sf.outq.length :: s.sf.outq.flatten) s
    (takeOut ((clocked - 1) / 32) s).2
  else refuseAccess s

/-! ## JRNL window (R269) -/

/-- A write to the JRNL window: only 4 bytes set the pointer. -/
def writeJrnl (bytes : List Byte) (s : State) : State :=
  if busServes s then
    let s := touchBus s
    if bytes.length = 4 then { s with hb := { s.hb with jptr := wordAt bytes 0 } } else s
  else refuseAccess s

/-- The records a JRNL read offers: status and at most 255 records. -/
def jrnlOffer (s : State) : Byte × List Record :=
  if startRefused s.hb.jptr s then (stBadParam, [])
  else if startBeyond s.hb.jptr s then (stOk, [])
  else (stOk, (recordsFrom s.hb.jptr s).take 255)

/-- A read of the JRNL window: the pointer moves past each record clocked out. -/
def readJrnl (clocked : Nat) (s : State) : State :=
  if busServes s then
    let s := touchBus s
    let o := jrnlOffer s
    let s := putRead clocked ([o.1, BitVec.ofNat 8 o.2.length] ++ o.2.flatMap Record.bytes) s
    { s with hb := { s.hb with jptr := seqAdd s.hb.jptr (min o.2.length ((clocked - 2) / 32)) } }
  else refuseAccess s

/-! ## Attention (R271 to R275) -/

/-- Attention is sent now: outstanding, in one of the five states, to a host that has an address of its own. -/
def attentionSent (s : State) : Bool :=
  live s && stateAll s && attentionOutstanding s && hostAddr s != 0 && !s.hb.clash

/-- The attention record (Table 13-4). -/
def attentionRecord (s : State) : List Byte :=
  [s.hb.base.setWidth 8, s.hb.causes, s.dev.dvState.code, s.hb.attnSeq]

/-- HB_ATTN_PER has elapsed: a repetition falls due, and none queues behind one that still waits or backs off. -/
def attentionPeriod (s : State) : State :=
  if attentionSent s && !s.hb.attnDue then { s with hb := { s.hb with attnDue := true, backoff := false, losses := 0 } } else s

/-- One attempt of an attention write with its end (R272, R274). -/
def attentionTry (r : BusResult) (s : State) : State :=
  let s := { s with hb := { s.hb with sent := attentionRecord s, backoff := false, stuck := false } }
  match r with
  | .acked => { s with hb := { s.hb with attnDue := false, losses := 0 } }
  | .nacked => { s with hb := { s.hb with attnDue := false, losses := 0, errNack := inc8 s.hb.errNack } }
  | .lost _ =>
    let n := s.hb.losses + 1
    if 16 ≤ n then { s with hb := { s.hb with errArb := inc8 s.hb.errArb, attnDue := false, losses := 0 } }
    else { s with hb := { s.hb with errArb := inc8 s.hb.errArb, backoff := true, losses := n } }

/-- The first write of an attention, or a repetition, once the bus is free. -/
def attentionWrite (r : BusResult) (s : State) : State :=
  if attentionSent s && s.hb.attnDue && !s.hb.backoff then attentionTry r s else s

/-- The retry after the backoff. -/
def attentionRetry (r : BusResult) (s : State) : State :=
  if attentionSent s && s.hb.attnDue && s.hb.backoff then attentionTry r s else s

/-- SCL held low for 10 ms (R275): the transfer is abandoned until the next repetition. -/
def stretchTimeout (s : State) : State :=
  if attentionSent s && s.hb.attnDue then
    { s with hb := { s.hb with attnDue := false, backoff := false, losses := 0, errPart := inc8 s.hb.errPart } }
  else s

/-! ## Recovery and silence (R276, R277) -/

/-- No SCL edge for 25 ms in a transfer addressed to the controller. -/
def targetTimeout (s : State) : State :=
  if busServes s then
    raise 233 0x0C03 .warning (argOf [(0, 1)]) { s with hb := { s.hb with errTarget := inc8 s.hb.errTarget } }
  else s

/-- A line held low for 10 ms while attention is wanted: reported once for each episode. -/
def lineHeldLow (s : State) : State :=
  if attentionSent s && s.hb.attnDue && !s.hb.stuck then
    raise 233 0x0C03 .warning (argOf [(0, 2)]) { s with hb := { s.hb with stuck := true } }
  else s

/-- The host-silence timer expires. -/
def hostSilence (s : State) : State :=
  if live s && s.hb.silenceOn && !s.hb.silent && s.set.silence != 0 then
    raise 233 0x0C01 .warning (argOf [(0, s.set.silence.toNat)])
      { s with hb := { s.hb with silent := true, silentUs := max s.hb.silentUs (s.set.silence.toNat * 1000) } }
  else s

end Sys2Proof.Machine
end

