-- ==== Sys2Proof/Machine/Printer.lean ====
section
/-! DEFINITION. The witness strip printer (chapter 17): what prints next, its 32 characters, one line slot, gating. -/

namespace Sys2Proof.Machine

/-! ## Characters (R356, R357, Tables 17-3 and 17-4) -/

/-- Codes of the marker glyphs, outside the text codes 0x20 to 0x7E (the model's own numbers). -/
def chBlock : Byte := 0x01
def chHollow : Byte := 0x02
def chBar : Byte := 0x03
def chRepeat : Byte := 0x04

/-- A decimal number of n digits with leading zeros. -/
def decDigits (n v : Nat) : List Byte := (List.range n).reverse.map (fun i => BitVec.ofNat 8 (0x30 + v / 10 ^ i % 10))

/-- A decimal number right-aligned in n columns. -/
def decRight (n v : Nat) : List Byte :=
  (List.range n).reverse.map (fun i => if v < 10 ^ i ∧ 0 < i then 0x20 else BitVec.ofNat 8 (0x30 + v / 10 ^ i % 10))

/-- n upper-case hex digits. -/
def hexDigits (n v : Nat) : List Byte :=
  (List.range n).reverse.map (fun i =>
    let d := v / 16 ^ i % 16
    BitVec.ofNat 8 (if d < 10 then 0x30 + d else 0x41 + (d - 10)))

/-- ASCII codes of a text. -/
def asciiOf (t : String) : List Byte := t.toList.map (fun c => BitVec.ofNat 8 c.toNat)

/-- A line of 32 columns with its marker. -/
def lineOf (marker : Byte) (text : List Byte) : List Byte := ((marker :: text) ++ List.replicate 32 0x20).take 32

/-- A record's UTC time in µs since 1970, with TB_UTC_OFFSET as it stands (R357). -/
def utcMicros (t : DWord) (s : State) : Int := t.toNat - s.nv.live.utcOffset.toInt * 1000000

/-- The UTC day of a time. -/
def utcDay (t : DWord) (s : State) : Int := utcMicros t s / 86400000000

/-- hh:mm:ss.uuuuuu. -/
def timeText (t : Int) : List Byte :=
  let us := (t % 86400000000).toNat
  let sec := us / 1000000
  decDigits 2 (sec / 3600) ++ asciiOf ":" ++ decDigits 2 (sec / 60 % 60) ++ asciiOf ":" ++ decDigits 2 (sec % 60)
    ++ asciiOf "." ++ decDigits 6 (us % 1000000)

/-- The month and day of a day of the year, from 1. -/
def monthDay (months : List Nat) (m day : Nat) : Nat × Nat :=
  match months with
  | [] => (m, day)
  | n :: r => if day ≤ n then (m, day) else monthDay r (m + 1) (day - n)

/-- yyyy-mm-dd. -/
def dateText (day : Int) : List Byte :=
  let y := yearOfDay day
  let md := monthDay (monthDays y.1) 1 y.2
  decDigits 4 y.1 ++ asciiOf "-" ++ decDigits 2 md.1 ++ asciiOf "-" ++ decDigits 2 md.2

/-- Class names (Table 17-3). -/
def classText (c : Nat) : List Byte :=
  asciiOf (match c with
    | 0 => "INF" | 1 => "NOT" | 2 => "WRN" | 3 => "TRP" | 4 => "FLT" | _ => "LCK")

/-- The time-quality letter of a record's quality byte. -/
def qualityText (q : Byte) : List Byte :=
  asciiOf (match q.toNat % 4 with
    | 0 => "U" | 1 => "H" | _ => "L")

/-- Line 1 of a record (Table 17-3). -/
def recordLine1 (r : Record) (s : State) : List Byte :=
  lineOf chBlock (decDigits 10 r.seq.toNat ++ [0x20] ++ timeText (utcMicros r.time s) ++ [0x20] ++ classText r.cls.toNat)

/-- Line 2 of a record. -/
def recordLine2 (r : Record) : List Byte :=
  lineOf chBlock (decRight 3 r.source.toNat ++ [0x20] ++ hexDigits 4 r.code.toNat ++ [0x20] ++ hexDigits 16 r.arg.toNat
    ++ [0x20] ++ qualityText r.quality)

/-! ## What prints next (R358, R359, R362 to R364) -/

/-- The record that prints next. -/
def nextPrinted (s : State) : Option Record := (waitingRecords s).head?

/-- The sequence that follows the cursor. -/
def afterCursor (s : State) : Word :=
  match s.nv.live.skipTo with
  | some q => seqNext q
  | none => if s.nv.live.cursorLine2 then seqNext s.nv.live.cursorSeq else s.nv.live.cursorSeq

/-- The range that the strip can no longer reach: from the first record to print whose slot has been reused to the one before
JR_OLDEST (R363). -/
def skipRange (s : State) : Option (Word × Word) :=
  s.nv.unreached.map (fun u => (u.1, seqAdd (jrOldest s) 0xFFFFFFFE))

/-- The host line that prints next: no waiting record was committed before its outcome (R359). -/
def hostDue (s : State) : Option TextLine :=
  match s.nv.live.text.head? with
  | none => none
  | some t =>
    match nextPrinted s with
    | none => some t
    | some r => if seqBefore t.after r.seq then some t else none

/-- A record line is preceded by a date line where the date differs from the last one printed (Table 17-4). -/
def dateBefore (r : Record) (s : State) : Bool := s.wp.dateLast != some (utcDay r.time s)

/-- The day a date line shows: that of the next record, else of the present time. -/
def dateOf (s : State) : Int := utcDay (((nextPrinted s).map Record.time).getD s.tb.counter) s

/-- The line that prints next but for tests and feeds: a skip line, a host line, or a record line with its date line before it. -/
def cursorLine (s : State) : Option LineKind :=
  match skipRange s with
  | some r => some (.skip r.1 r.2)
  | none => match hostDue s with
    | some t => some (.host t.csn)
    | none => match nextPrinted s with
      | none => none
      | some r =>
        if dateBefore r s then some (.date (utcDay r.time s))
        else some (.record r.seq (r.seq == s.nv.live.cursorSeq && !s.nv.live.cursorLine2))

/-- STARTED was written for this line; skip lines count as one, whatever their range. -/
def startedAs (k : LineKind) (s : State) : Bool :=
  match s.nv.live.started, k with
  | some (.skip _ _), .skip _ _ => true
  | some x, k => x == k
  | none, _ => false

/-- The line that a reset or the strip's disabling cut off: it stands before any other (R362; DEDUCED, log entry 129). -/
def cutLine (s : State) : Option LineKind :=
  match s.nv.live.testReq.find? (fun c => startedAs (.test c) s) with
  | some c => some (.test c)
  | none => (cursorLine s).filter (fun k => startedAs k s)

/-- The next text line. -/
def nextLine (s : State) : Option LineKind :=
  if s.wp.resumeDue then some .resume
  else if s.wp.dateDue then some (.date (dateOf s))
  else match cutLine s, s.nv.live.testReq with
    | some k, _ => some k
    | none, c :: _ => some (.test c)
    | none, [] => if 0 < feedLeft s then some .blankFeed else cursorLine s

/-- The characters of a line, but for the repeat mark (R356, R357, Table 17-4). -/
def render (k : LineKind) (s : State) : List Byte :=
  match k with
  | .record seq second =>
    match s.nv.records.find? (fun r => r.seq == seq) with
    | some r => if second then recordLine2 r else recordLine1 r s
    | none => lineOf chBlock []
  | .host c =>
    match s.nv.live.text.find? (fun t => t.csn == c) with
    | some t => lineOf chHollow (t.bytes.take 30)
    | none => lineOf chHollow []
  | .resume =>
    let seq := ((nextPrinted s).map Record.seq).getD (afterCursor s)
    let second := seq == s.nv.live.cursorSeq && !s.nv.live.cursorLine2
    lineOf chBar (asciiOf "RESUME " ++ decDigits 10 seq.toNat ++ asciiOf (if second then " LINE 2" else " LINE 1"))
  | .date day => lineOf chBar (asciiOf "DATE " ++ dateText day ++ asciiOf " UTC")
  | .skip first last => lineOf chBar (asciiOf "SKIP " ++ decDigits 10 first.toNat ++ [0x20] ++ decDigits 10 last.toNat)
  | .test _ => lineOf chBar (asciiOf "TST ABCDEFGHIJKLMNOPQRSTUVWXYZ")
  | .blankFeed => List.replicate 32 0x20

/-- The lines for which STARTED is written (R362): every text line but those that each reset prints anew, and the blank ones of a
feed. -/
def LineKind.once : LineKind → Bool
  | .record .. | .host _ | .skip .. | .test _ => true
  | _ => false

/-! ## Beginning and completing a text line -/

/-- A line begins (R361, R362): taken from the second buffer if it was rendered there. -/
def beginLine (k : LineKind) (due : Bool) (s : State) : State :=
  let ready := s.wp.ahead.filter (fun a => a.1 == k)
  { s with wp := { s.wp with
      line := some k, chars := (ready.map Prod.snd).getD [], rendered := ready.isSome || k == .blankFeed, ahead := none, due := due,
      isRepeat := startedAs k s, reprint := false, late := false, dotLine := 0 } }

/-- STARTED cleared with the line it was written for (R362). -/
def Params.ended (k : LineKind) (s : State) (p : Params) : Params := { p with started := if startedAs k s then none else p.started }

/-- The records still out of the strip's reach after a skip line up to a sequence. -/
def unreachedAfter (last : Word) (u : Option (Word × Word)) : Option (Word × Word) :=
  u.bind (fun x => if seqBefore last x.2 then some (seqNext last, x.2) else none)

/-- The cursor and the requests after a line's last dot line (R362 to R364), kept in a parameter record first (R247). -/
def lineDone (k : LineKind) (s : State) : State :=
  match k with
  | .record seq second =>
    storeItem (fun p => { p.ended k s with cursorSeq := seq, cursorLine2 := second, cursorHost := false, skipTo := none }) s
  | .host c =>
    storeItem (fun p => { p.ended k s with cursorHost := true, text := p.text.filter (fun t => t.csn != c) }) s
  | .resume => { s with wp := { s.wp with resumeDue := false } }
  | .date day => { s with wp := { s.wp with dateDue := false, dateLast := some day } }
  | .skip first last =>
    raise 232 0x0F04 .warning (argOf [(0, first.toNat), (4, last.toNat)])
      (storeItem (fun p => { p.ended k s with skipTo := some last })
        { s with nv := { s.nv with unreached := unreachedAfter last s.nv.unreached } })
  | .test c => storeItem (fun p => { p.ended k s with testReq := p.testReq.filter (· != c), testDone := c }) s
  | .blankFeed =>
    match s.nv.live.feed with
    | some (c, n) => if n ≤ s.wp.blanks + 1 then storeItem (fun p => { p with feed := none, feedDone := c }) s else s
    | none => s

/-- The text line in progress is over: a late one is still to print. -/
def endLine (s : State) : State :=
  match s.wp.line with
  | none => s
  | some k =>
    let clear (s : State) : State := { s with wp := { s.wp with line := none, late := false, dotLine := 0, isRepeat := false, reprint := false } }
    if s.wp.late then clear s
    else
      let blank := k == .blankFeed
      let s := clear (lineDone k s)
      { s with wp := { s.wp with lines := if blank then s.wp.lines else inc32 s.wp.lines,
                                 blanks := if blank then s.wp.blanks + 1 else 0 } }

/-! ## One line slot (R351 to R355) -/

/-- Printing may go on: a state that prints (R358), enabled. -/
def printing (s : State) : Bool := live s && stateAllPrint s.dev.dvState && s.set.printEnable
where
  /-- STOP, RUN, FAULT, MISMATCH, LOCKOUT; a halted core finishes a rendered line. -/
  stateAllPrint : DvState → Bool
  | .stop | .run | .fault | .mismatch | .lockout | .debugHalt => true
  | _ => false

/-- A character's dots in row n of the line. -/
def glyphDots (c : Byte) (n : Nat) : List Bool := (List.range 12).map (fun j => (Config.glyph c n).getLsbD (11 - j))

/-- The 384 dots of dot line n: 24 rows of glyphs, then 4 blank ones; a late line and a feed line are blank (R356,
R361, R364). -/
def dotsOf (w : Printer) : List Bool :=
  if w.late || w.line == some .blankFeed || decide (24 ≤ w.dotLine) then List.replicate 384 false
  else
    let chars := if w.isRepeat then w.chars.set 31 chRepeat else w.chars
    chars.flatMap (fun c => glyphDots c w.dotLine)

/-- The dots of pass 2: those that fired in neither of the two preceding dot lines (R353). -/
def coldDots (dots : List Bool) (last : List (List Bool)) : List Bool :=
  dots.mapIdx (fun i d => d && !last.any (fun l => l[i]?.getD false))

/-- How many of a list fire. -/
def firedCount (l : List Bool) : Nat := l.countP id

/-- The energy of a dot line in 0.5 µJ (R351, R353): a dot takes 0.12 mJ × t / 250 µs. -/
def lineEnergy (dark : Nat) (dots cold : List Bool) : Nat :=
  firedCount dots * (144 + 9 * dark) + firedCount cold * (48 + 3 * dark)

/-- An element would fire more than 32 times in 64 slots (R354). -/
def dutyBinds (dots : List Bool) (fired : List (List Bool)) : Bool :=
  (dots.mapIdx (fun i d => d && decide (32 ≤ (fired.take 63).countP (fun l => l[i]?.getD false)))).any id

/-- The head would receive more than 2.4 J in 200 slots (R355). -/
def heatBinds (e : Nat) (energy : List Nat) : Bool := decide (4800000 < e + (energy.take 199).sum)

/-- The time of a strobe in ns: 0.75 × t_base in pass 1, 0.25 × t_base in pass 2 (R351). -/
def strobeNs (pass2 : Bool) (dark : Nat) : Nat := if pass2 then 50000 + 3125 * dark else 150000 + 9375 * dark

/-- The four strobes of a pass that begins at a time: one after another, 1 µs apart, 96 dots each (Table 17-2). -/
def passStrobes (start ns : Nat) (dots : List Bool) : List Strobe :=
  (List.range 4).map (fun g =>
    { group := g + 1, start := start + g * (ns + 1000), ns := ns, dots := (dots.drop (96 * g)).take 96 })

/-- The strobes of a dot line: pass 1 from 50 µs, pass 2 once its data is latched, 1 µs, and 1 µs after that (Table 17-2). -/
def lineStrobes (dark : Nat) (dots cold : List Bool) : List Strobe :=
  let n1 := strobeNs false dark
  passStrobes 50000 n1 dots ++ passStrobes (50000 + 4 * n1 + 3000 + 2000) (strobeNs true dark) cold

/-- A slot in which nothing fires. -/
def Printer.quiet (w : Printer) : Printer :=
  { w with stepPin := false, throttled := false, strobe1 := [], strobe2 := [], strobes := [], shifts := [], fired := ([] :: w.fired).take 64,
           energy := (0 :: w.energy).take 200 }

/-- The dot line fires (R351, R353): both passes are shifted, dot 383 first, latched and strobed, a late line with no strobe; the
last entries of the windows become its own. -/
def Printer.fire (dark : Nat) (dots cold : List Bool) (e : Nat) (w : Printer) : Printer :=
  { w with stepPin := true, strobe1 := if w.late then [] else dots, strobe2 := if w.late then [] else cold,
           shifts := [dots.reverse, cold.reverse], headLatch := cold, strobes := if w.late then [] else lineStrobes dark dots cold,
           fired := dots :: w.fired.drop 1, energy := e :: w.energy.drop 1, lastLines := (dots :: w.lastLines).take 2,
           dotLine := w.dotLine + 1, throttled := false,
           softSteps := w.softSteps - 1, softSkip := decide (1 < w.softSteps) }

/-- A text line whose first step is due is not rendered (R361): LATE_LINE. -/
def noteLate (k : LineKind) (s : State) : State :=
  let seq := match k with
    | .record q _ => q.toNat
    | _ => 0
  let line := match k with
    | .record _ true => 2
    | _ => 1
  raise 232 0x0F01 .warning (argOf [(0, seq), (4, line)])
    { s with wp := { s.wp with late := true, lateCount := inc16 s.wp.lateCount } }

/-- STARTED is written at the first strobe of a text line (R362). -/
def noteStarted (k : LineKind) (s : State) : State :=
  if k.once && s.wp.dotLine == 0 && !s.wp.late && !startedAs k s then storeItem (fun p => { p with started := some k }) s
  else s

/-- The dot line that stands next: fired, or waiting for its thermal limits (R354, R355). PH_DI keeps the last bit shifted, dot 0 of
pass 2 (R351). -/
def dotLine (k : LineKind) (s : State) : State :=
  let dots := dotsOf s.wp
  let cold := coldDots dots s.wp.lastLines
  let e := lineEnergy s.set.dark.toNat dots cold
  let duty := dutyBinds dots (s.wp.fired.drop 1)
  let heat := heatBinds e (s.wp.energy.drop 1)
  if duty || heat then
    { s with wp := { s.wp with
        throttled := true,
        waitDuty := if duty then inc16 s.wp.waitDuty else s.wp.waitDuty,
        waitHeat := if heat then inc16 s.wp.waitHeat else s.wp.waitHeat } }
  else
    let s := noteStarted k s
    let s := { s with wp := s.wp.fire s.set.dark.toNat dots cold e,
                      dev := { s.dev with pins := { s.dev.pins with phDi := cold.head?.getD false } } }
    if s.wp.dotLine < 28 then s
    else
      let s := endLine s
      if s.set.paused || s.db.coreHalted then s
      else match nextLine s with
        | some n => beginLine n true s
        | none => s

/-- The motor's start (R352): the first step comes 10 ms, 8 slots, later. -/
def startMotor (s : State) : State :=
  { s with wp := { s.wp with motorOn := true, warm := 7, softSteps := 8, softSkip := false } }

/-- The slot of a line in progress. -/
def lineSlotOf (k : LineKind) (s : State) : State :=
  let w := s.wp
  let waiting := w.dotLine == 0 && !w.late
  if pauseHolds s || (waiting && s.db.coreHalted && !w.rendered) then s
  else if waiting && !w.rendered && !(w.due && w.motorOn) then s
  else if !w.motorOn then startMotor s
  else if 0 < w.warm then { s with wp := { w with warm := w.warm - 1 } }
  else if w.softSkip then { s with wp := { w with softSkip := false } }
  else if waiting && !w.rendered then dotLine k (noteLate k s)
  else dotLine k s

/-- A strip that is disabled: nothing fires, the motor stays disabled, the strip resumes under R362 (R364). -/
def stripOff (s : State) : State :=
  { s with wp := { s.wp with line := none, dotLine := 0, late := false, isRepeat := false, reprint := false, motorOn := false,
                             throttled := false, resumeDue := true, dateDue := true } }

/-- One line slot (R351). -/
def lineSlot (s : State) : State :=
  if !live s then s
  else
    let s := { s with wp := s.wp.quiet }
    if !s.set.printEnable then stripOff s
    else if !printing s || s.wp.gated || s.wp.jamWait then s
    else match s.wp.line with
      | some k => lineSlotOf k s
      | none =>
        if s.db.coreHalted then { s with wp := { s.wp with motorOn := false } }
        else if pauseHolds s then s
        else match nextLine s with
          | some k => beginLine k false s
          | none => s

/-- The core renders a line (R361): the one in progress, else the one that follows it. -/
def lineRendered (s : State) : State :=
  if !printing s || s.db.coreHalted then s
  else match s.wp.line with
    | some k =>
      if !s.wp.rendered && !s.wp.late then { s with wp := { s.wp with chars := render k s, rendered := true } }
      else
        let after := endLine s
        { s with wp := { s.wp with ahead := (nextLine after).map (fun n => (n, render n after)) } }
    | none => { s with wp := { s.wp with ahead := (nextLine s).map (fun n => (n, render n s)) } }

/-! ## Gating (R360) -/

/-- The sensors after their filter, evaluated while printing is enabled: a 1 stops printing, once for each episode; a line under way is
reprinted whole, also before a pause. -/
def printerGated (sensors : BitVec 3) (s : State) : State :=
  if !live s || !s.set.printEnable then s
  else
    let w := s.wp
    let s := { s with wp := { w with sensors := sensors } }
    if sensors = 0 then s
    else
      let begun := w.line.isSome && decide (0 < w.dotLine)
      let s := { s with wp := { s.wp with
        gated := true, jamWait := w.jamWait || sensors.getLsbD 2, throttled := false, stepPin := false, strobe1 := [], strobe2 := [], strobes := [],
        dotLine := 0, late := false, due := false, isRepeat := w.isRepeat || begun, reprint := w.reprint || begun } }
      if w.gated then s
      else
        raise 232 0x0F02 .warning (argOf [(0, sensors.toNat)])
          { s with wp := { s.wp with gateUs := s.clock, gateCount := inc16 s.wp.gateCount } }

/-- Printing resumes: PRINTER_READY with the gated time. -/
def endGating (s : State) : State :=
  raise 232 0x0F03 .notice (argOf [(0, satNat 0xFFFFFFFF ((s.clock - s.wp.gateUs) / 1000))])
    { s with wp := { s.wp with gated := false, jamWait := false } }

/-- Every sensor has read 0 for 2 s (R360): a jam still waits for RESUME. -/
def printerReady (s : State) : State :=
  if !live s || !s.set.printEnable || !s.wp.gated then s
  else
    let s := { s with wp := { s.wp with sensors := 0 } }
    if s.wp.jamWait then s else endGating s

/-- PRINT_CONTROL RESUME (R364): PAUSED clears, and a jam wait ends with every sensor at 0. -/
def printResume (s : State) : State :=
  let s := { s with set := { s.set with paused := false } }
  if s.wp.gated && s.wp.jamWait && s.wp.sensors == 0 then endGating s else s

/-- FEED n (R321, R364): the target, unless it is fed already; a resumed FEED that has ended is not fed again. -/
def printFeed (csn : Word) (n : Nat) (s : State) : State :=
  if s.nv.live.feedDone = csn ∨ s.nv.live.feed.map Prod.fst = some csn then s
  else if n ≤ blanksFed s.wp then storeItem (fun p => { p with feed := none, feedDone := csn }) s
  else storeItem (fun p => { p with feed := some (csn, n) }) s

/-- The motor is disabled 100 ms after the last step (R352). -/
def motorDisable (s : State) : State :=
  { s with wp := { s.wp with motorOn := false, warm := 0, softSteps := 8, softSkip := false } }

end Sys2Proof.Machine
end

