-- ==== Sys2Proof/Machine/Registers.lean ====
section
/-! DEFINITION. The host register file as it is read and written (R15, R16, R302, R303, R326, R332). -/

namespace Sys2Proof.Machine

/-! ## Reading (R302) -/

/-- One register read: TB_TIME_LO latches TB_TIME_HI (R32), EN_SNAP_DATA advances EN_SNAP_ADDR by 2 (Table 7-4). -/
def readReg (i : Nat) (s : State) : Word × State :=
  let w := hrf i s
  if i = 0x12 then (w, { s with tb := { s.tb with timeHi := (s.tb.counter >>> 32).setWidth 32 } })
  else if i = 0x69 then (w, { s with en := { s.en with snapAddr := s.en.snapAddr + 2 } })
  else (w, s)

/-- n register reads from index i, each step further on, or all of i. -/
def readRegs (step : Nat) : Nat → Nat → State → List Word × State
  | 0, _, s => ([], s)
  | n + 1, i, s =>
    let a := readReg i s
    let r := readRegs step n (i + step) a.2
    (a.1 :: r.1, r.2)

/-! ## Writing (R303, R332) -/

/-- An entry of WRITE_HRF. -/
structure RegWrite where
  index : Nat
  mask  : Word
  value : Word
deriving DecidableEq, Repr

/-- The writable RW bits of a register (Table 15-13); W1C fields and RO fields are not among them. -/
def rwBits (i : Nat) : Word :=
  if 0x08 ≤ i ∧ i ≤ 0x0F then 0xFFFFFFFF
  else if 0x90 ≤ i ∧ i ≤ 0x96 then 0xFFFFFFFF
  else match i with
    | 0x11 => 0x01FF003C
    | 0x18 => 0xFFFFFFFF
    | 0x19 => 0xFFFFFFFF
    | 0x21 => 0x00000003
    | 0x23 => 0xFFFFFFFF
    | 0x24 => 0x000000FF
    | 0x25 => 0xFFFFFFFF
    | 0x66 => 0x00000001
    | 0x68 => 0x00000FFF
    | 0x81 => 0x000000F7
    | 0x97 => 0x00007FFF
    | _ => 0

/-- The W1C bits of a register (Table 15-13). -/
def w1cBits (i : Nat) : Word :=
  if i = 0x01 then 0x00002000 else if 0x98 ≤ i ∧ i ≤ 0x9F then 0xFFFFFFFF else 0

/-- The bits of a register that its range of Table 15-13 speaks of. -/
def rangedBits (i : Nat) : Word :=
  match i with
  | 0x11 => 0x01FF0000
  | 0x18 | 0x19 | 0x23 | 0x25 => 0xFFFFFFFF
  | 0x21 => 0x00000003
  | 0x81 => 0x00000070
  | _ => 0

/-- A register's value lies in the range of Table 15-13. -/
def inRange (i : Nat) (w : Word) : Bool :=
  match i with
  | 0x11 => decide (1 ≤ w.toNat / 2 ^ 16 % 512) && decide (w.toNat / 2 ^ 16 % 512 ≤ 500)
  | 0x18 => decide (-32768 ≤ w.toInt) && decide (w.toInt ≤ 32767)
  | 0x19 => decide (1 ≤ w.toNat) && decide (w.toNat ≤ 86400)
  | 0x21 => decide (w.toNat % 4 ≤ 2)
  | 0x23 => decide (1 ≤ w.toNat) && decide (w.toNat ≤ 1000)
  | 0x25 => w == 0 || (decide (10 ≤ w.toNat) && decide (w.toNat ≤ 60000))
  | 0x81 => decide (w.toNat / 16 % 8 ≤ 5)
  | _ => true

/-- The register's word after a masked write of its RW bits: the other bits as they stand. -/
def mergeReg (e : RegWrite) (s : State) : Word :=
  let m := e.mask &&& rwBits e.index
  (hrf e.index s &&& ~~~m) ||| (e.value &&& m)

/-- The bits a masked write clears under W1C. -/
def clearedBits (e : RegWrite) : Word := e.mask &&& e.value &&& w1cBits e.index

/-- An entry is within the range of the fields it touches. -/
def writeOk (e : RegWrite) (s : State) : Bool := (e.mask &&& rangedBits e.index) == 0 || inRange e.index (mergeReg e s)

/-- A cause enabled while it is set and none was outstanding makes an attention write due (R271). -/
def enableCauses (en : Byte) (s : State) : State :=
  let starts := (s.hb.causes &&& en) != 0 && (s.hb.causes &&& s.set.attnEn) == 0
  { s with set := { s.set with attnEn := en }, hb := { s.hb with attnDue := s.hb.attnDue || starts } }

/-- EN_SNAP_CTRL.HOLD (R161): a release makes the newest snapshot readable. -/
def holdSnapshot (h : Bool) (s : State) : State :=
  { s with en := { s.en with hold := h, snapRead := if h then s.en.snapRead else s.en.snapNew } }

/-- TB_CTRL's writable bits (Table 2-6). -/
def writeTbCtrl (w : Word) (s : State) : State :=
  tsyncGate { s with set := { s.set with
    ppsEdge := w.getLsbD 2, irigCf := w.getLsbD 3, tsyncEn := w.getLsbD 4, tsyncAlways := w.getLsbD 5,
    tsyncWidth := (w >>> 16).setWidth 9 } }

/-- WP_CTRL's writable bits (Table 17-5). -/
def writeWpCtrl (w : Word) (s : State) : State :=
  { s with set := { s.set with dark := w.setWidth 3, printClass := (w >>> 4).setWidth 3, printEnable := w.getLsbD 7 } }

/-- The word w put into register i's RW fields. -/
def putReg (i : Nat) (w : Word) (s : State) : State :=
  if 0x08 ≤ i ∧ i ≤ 0x0F then { s with aorf := { s.aorf with user := s.aorf.user.setIfInBounds (i - 8) w } }
  else if 0x90 ≤ i ∧ i ≤ 0x97 then { s with set := { s.set with evEnable := s.set.evEnable.setIfInBounds (i - 0x90) w } }
  else match i with
    | 0x11 => writeTbCtrl w s
    | 0x18 => { s with set := { s.set with comp := w.setWidth 16 } }
    | 0x19 => { s with set := { s.set with holdoverMax := w } }
    | 0x21 => { s with set := { s.set with speed := w.setWidth 2 } }
    | 0x23 => { s with set := { s.set with attnPer := w.setWidth 16 } }
    | 0x24 => enableCauses (w.setWidth 8) s
    | 0x25 => { s with set := { s.set with silence := w.setWidth 16 } }
    | 0x66 => holdSnapshot (w.getLsbD 0) s
    | 0x68 => { s with en := { s.en with snapAddr := w.setWidth 12 } }
    | 0x81 => writeWpCtrl w s
    | _ => s

/-- Bits cleared under W1C. -/
def clearReg (i : Nat) (bits : Word) (s : State) : State :=
  if i = 0x01 then { s with dev := { s.dev with defaultsRestored := s.dev.defaultsRestored && !bits.getLsbD 13 } }
  else if 0x98 ≤ i ∧ i ≤ 0x9F then
    { s with jr := { s.jr with pend := updVec s.jr.pend (i - 0x98) (fun p => p &&& ~~~bits) } }
  else s

/-- One entry applied (R15, R16): writes to RO fields and reserved indices are ignored. -/
def applyWrite (e : RegWrite) (s : State) : State :=
  clearReg e.index (clearedBits e) (if e.mask &&& rwBits e.index = 0 then s else putReg e.index (mergeReg e s) s)

/-- All entries applied in order while each is in range; none where one is not (R303). -/
def applyWrites : List RegWrite → State → Option State
  | [], s => some s
  | e :: r, s => if writeOk e s then applyWrites r (applyWrite e s) else none

/-- The entries of a WRITE_HRF: 12 bytes each (R303). -/
def writeEntries (params : List Byte) : List RegWrite :=
  (List.range (params.length / 12)).map (fun i =>
    { index := (byteAt params (12 * i)).toNat, mask := wordAt params (12 * i + 4), value := wordAt params (12 * i + 8) })

/-- WRITE_HRF (R303): nothing is applied unless every entry is in range; the flag of R65 follows the last entry. -/
def writeRegs (l : List RegWrite) (s : State) : Byte × List Byte × State :=
  match applyWrites l s with
  | some s' => (stOk, [BitVec.ofNat 8 l.length], noteSettings s')
  | none => (stBadParam, [], s)

/-- SET_EVENT_ENABLES as a masked write of EV_ENABLE0 to 7 (R326). -/
def enableEntries (params : List Byte) : List RegWrite :=
  (List.range 8).map (fun n =>
    { index := 0x90 + n, mask := wordAt params (4 * n), value := wordAt params (32 + 4 * n) })

end Sys2Proof.Machine
end

