-- ==== Sys2Proof/Machine/Blocks.lean ====
section
/-! DEFINITION. The function block catalogue (chapter 8) and the RESTART block (R201 to R205): one evaluation of each block
type over plain values. The engine codes, checks and journals what these functions give. -/

namespace Sys2Proof.Machine

/-- An event of a block: code, class and the argument's bytes from byte 3; a source of its own where Table 8-1 names one. -/
structure BlkEvent where
  code  : Half
  cls   : Cls
  bytes : List (Nat × Nat)
  src   : Option Nat
deriving DecidableEq, Repr

/-- What a block reads beside its inputs: the scan period, its brake's minutes, its consumer, its host signal. -/
structure BlkCtx where
  per     : Nat               -- scan period in µs
  scan    : Word              -- the number of this scan
  minutes : Nat               -- the hour counter of an SBC's brake, in minutes
  cons    : ConsSt            -- the consumer of an SFL_IN
  rs      : Bool              -- a remote restart is given in this scan
  running : Bool              -- the producer of an SFL_OUT runs
  host    : Nat               -- the value of a HOSTSIG
  modes   : List Nat          -- MODE, M_AUTO, M_LOCAL, M_SERVICE, M_EN of this evaluation

/-- One evaluation. -/
structure BlkRes where
  outs    : List Nat
  st      : BlockSt
  evs     : List BlkEvent
  brReset : Bool := false     -- a brake test passed: the hour counter restarts

/-- An input's value; an unconnected or missing one is 0. -/
def inp (ins : List Nat) (k : Nat) : Nat := ins[k]?.getD 0

/-- An input is 1. -/
def isOn (ins : List Nat) (k : Nat) : Bool := inp ins k == 1

/-- The scans of a time in ms: N = ceil(T / P) (R165). -/
def scansOf (per ms : Nat) : Nat := (ms * 1000 + per - 1) / per

/-- A number of scans in ms. -/
def msOf (per n : Nat) : Nat := n * per / 1000

/-- Input k is connected. -/
def Block.has (b : Block) (k : Nat) : Bool := ((b.ins[k]?).join).isSome

/-- A block at an entry into RUN (R169): outputs 0, latches clear, timers stopped; faults kept, a start-up test pending
again (R177). -/
def BlockSt.entered (b : Block) (s : BlockSt) : BlockSt :=
  { outs := List.replicate b.outs.length 0, first := true, prev := [], latch := false, fault := s.fault,
    faultKind := s.faultKind, bothZero := s.fault && s.bothZero, stPend := b.type == .guard && b.params.stest,
    permit := false, t1 := 0, t2 := 0, t3 := 0, t4 := 0,
    active := b.type == .guardLock && !b.params.principle, blocked := b.type == .guardLock && s.blocked, armed := false,
    stuck := false, unclean := false, edgeHeld := false, fromStart := false, disarmed := false, waitEdge := false, tested := s.tested, dueRaised := s.dueRaised }

/-- A block after a reset. -/
def BlockSt.fresh (b : Block) : BlockSt :=
  BlockSt.entered b
    { outs := [], first := true, prev := [], latch := false, fault := false, faultKind := 0, bothZero := false,
      stPend := false, permit := false, t1 := 0, t2 := 0, t3 := 0, t4 := 0, active := false, blocked := false,
      armed := false, stuck := false, unclean := false, edgeHeld := false, fromStart := false, disarmed := false, waitEdge := false, tested := false,
      dueRaised := false }

/-- An input rises: not in the first scan (R169). -/
def rises (st : BlockSt) (ins : List Nat) (k : Nat) : Bool := !st.first && inp st.prev k == 0 && inp ins k == 1

/-- An input falls: not in the first scan (R169). -/
def falls (st : BlockSt) (ins : List Nat) (k : Nat) : Bool := !st.first && inp st.prev k == 1 && inp ins k == 0

/-- A count one on. A count stands in two WORD state signals (R164) and stays at its top. -/
def countUp (n : Nat) : Nat := min 0xFFFFFFFF (n + 1)

/-- The output k of the last evaluation. -/
def lastOut (st : BlockSt) (k : Nat) : Nat := st.outs[k]?.getD 0

/-! ## State signals (R164) -/

/-- One half of a count. -/
def halfOf (hi : Bool) (n : Nat) : Nat := if hi then n / 65536 % 65536 else n % 65536

/-- A count with one half replaced. -/
def withHalf (hi : Bool) (v n : Nat) : Nat := if hi then v % 65536 * 65536 + n % 65536 else n / 65536 % 65536 * 65536 + v % 65536

/-- The value of one item of MODESEL's state. -/
def ModeSt.item (m : ModeSt) : ModeItem → Nat
  | .pending => m.pending.toNat | .selected => m.selected.toNat | .pattern => m.pattern | .fault => m.fault.toNat
  | .lastW1 => m.lastW1 | .patCount h => halfOf h m.patCount | .badCount h => halfOf h m.badCount

/-- One item of MODESEL's state replaced. -/
def ModeSt.withItem (m : ModeSt) (x : ModeItem) (v : Nat) : ModeSt :=
  match x with
  | .pending => { m with pending := v == 1 }
  | .selected => { m with selected := v == 1 }
  | .pattern => { m with pattern := v }
  | .fault => { m with fault := v == 1 }
  | .lastW1 => { m with lastW1 := v }
  | .patCount h => { m with patCount := withHalf h v m.patCount }
  | .badCount h => { m with badCount := withHalf h v m.badCount }

/-- The value of one item of a block's state, MODESEL's own in m. -/
def BlockSt.item (m : ModeSt) (s : BlockSt) : StateItem → Nat
  | .latch => s.latch.toNat | .fault => s.fault.toNat | .faultKind => s.faultKind | .bothZero => s.bothZero.toNat
  | .stPend => s.stPend.toNat | .permit => s.permit.toNat | .active => s.active.toNat | .blocked => s.blocked.toNat
  | .armed => s.armed.toNat | .stuck => s.stuck.toNat | .waitEdge => s.waitEdge.toNat | .fromStart => s.fromStart.toNat
  | .tested => s.tested.toNat | .dueRaised => s.dueRaised.toNat
  | .t1 h => halfOf h s.t1 | .t2 h => halfOf h s.t2 | .t3 h => halfOf h s.t3 | .t4 h => halfOf h s.t4
  | .prev k => s.prev[k]?.getD 0 | .out k => s.outs[k]?.getD 0 | .mode x => m.item x

/-- One item of a block's state replaced by the value its state signal carries. -/
def BlockSt.withItem (s : BlockSt) (x : StateItem) (v : Nat) : BlockSt :=
  match x with
  | .latch => { s with latch := v == 1 }
  | .fault => { s with fault := v == 1 }
  | .faultKind => { s with faultKind := v }
  | .bothZero => { s with bothZero := v == 1 }
  | .stPend => { s with stPend := v == 1 }
  | .permit => { s with permit := v == 1 }
  | .active => { s with active := v == 1 }
  | .blocked => { s with blocked := v == 1 }
  | .armed => { s with armed := v == 1 }
  | .stuck => { s with stuck := v == 1 }
  | .waitEdge => { s with waitEdge := v == 1 }
  | .fromStart => { s with fromStart := v == 1 }
  | .tested => { s with tested := v == 1 }
  | .dueRaised => { s with dueRaised := v == 1 }
  | .t1 h => { s with t1 := withHalf h v s.t1 }
  | .t2 h => { s with t2 := withHalf h v s.t2 }
  | .t3 h => { s with t3 := withHalf h v s.t3 }
  | .t4 h => { s with t4 := withHalf h v s.t4 }
  | .prev k => { s with prev := s.prev.set k v }
  | .out k => { s with outs := s.outs.set k v }
  | .mode _ => s

/-- Both halves of a count. -/
def bothHalves (t : Bool → StateItem) : List StateItem := [t false, t true]

/-- What a block of a type keeps between scans: its latches, timer counts and previous inputs and outputs (R164). -/
def BlockType.keeps : BlockType → List StateItem
  | .estop | .guard | .lcurt => [.latch, .fault, .bothZero, .stPend, .permit, .blocked, .out 0] ++ bothHalves .t1
  | .guardLock => [.latch, .fault, .faultKind, .bothZero, .permit, .blocked, .active, .armed, .prev 2, .prev 3, .prev 4, .out 0]
      ++ bothHalves .t1 ++ bothHalves .t2 ++ bothHalves .t3 ++ bothHalves .t4
  | .twohand => [.fault, .active, .blocked, .armed, .out 0] ++ bothHalves .t1 ++ [.t2 false] ++ bothHalves .t3 ++ bothHalves .t4
  | .sbc => [.fault, .active, .tested, .dueRaised, .prev 2, .out 0] ++ bothHalves .t1
  | .edm => [.fault, .armed, .prev 0, .out 0] ++ bothHalves .t1 ++ bothHalves .t2
  | .restart => [.latch, .active, .armed, .stuck, .waitEdge, .fromStart] ++ bothHalves .t1 ++ bothHalves .t2 ++ bothHalves .t3
  | .modesel => [ModeItem.pending, .selected, .pattern, .fault, .lastW1, .patCount false, .patCount true, .badCount false,
      .badCount true].map .mode
  | .interlock => [.prev 0, .out 0]
  | .sflIn => [.latch, .permit, .out 66]
  | .ton => .active :: bothHalves .t1
  | .tof | .pulse => [.active, .prev 0, .out 1] ++ bothHalves .t1
  | .event => [.prev 0]
  | .sflOut => [.prev 66]
  | .and | .or | .not | .hostsig => []

/-- An event with byte 3 and a 32-bit detail (R174). -/
def blkEv (code : Half) (cls : Cls) (kind detail : Nat) : BlkEvent :=
  { code := code, cls := cls, bytes := [(3, kind % 256), (4, detail % 2 ^ 32)], src := none }

/-- FUNCTION_READY when an output rises (Table 8-2). -/
def readyEv (autoStart : Bool) (was now : Bool) : List BlkEvent :=
  if now && !was then [blkEv 0x0502 .notice (if autoStart then 2 else 1) 0] else []

/-- The restart latch (R168): set by RST while permitted, cleared otherwise; with START = AUTO it follows the permit. -/
def startLatch (autoStart latch permit rst : Bool) : Bool := permit && (autoStart || latch || rst)

/-! ## ESTOP, GUARD, LCURT (R175 to R177) -/

/-- The state of a discrepancy watch: its count, the fault, both channels seen 0. -/
structure Disc where
  count : Nat
  fault : Bool
  zero  : Bool
  raised : Bool
  cleared : Bool

/-- One scan of the discrepancy watch of two channels (R175). -/
def discWatch (n : Nat) (two a b : Bool) (count : Nat) (fault zero : Bool) : Disc :=
  if !two then { count := 0, fault := false, zero := false, raised := false, cleared := false }
  else if fault then
    let clears := zero && a && b
    { count := 0, fault := !clears, zero := !clears && (zero || (!a && !b)), raised := false, cleared := clears }
  else
    let c := if a == b then 0 else countUp count
    let hit := decide (0 < c) && decide (n ≤ c)
    { count := if hit then 0 else c, fault := hit, zero := false, raised := hit, cleared := false }

/-- The demand cause of two channels that were permitted (R175): 1 A, 2 B, 3 both. -/
def channelCause (two a b : Bool) : Nat := (!a).toNat + 2 * (two && !b).toNat

/-- ESTOP, GUARD and LCURT (R175, R177): inputs A, B, RST; outputs Q, F. -/
def evalSupervise (c : BlkCtx) (b : Block) (ins : List Nat) (st : BlockSt) : BlkRes :=
  let p := b.params
  let two := b.type == .lcurt || p.channels == 2
  let x := isOn ins 0
  let y := isOn ins 1
  let permit := x && (!two || y)
  let d := discWatch (scansOf c.per p.tDisc) two x y st.t1 st.fault st.bothZero
  let zeroSeen := st.stPend && (st.blocked || (!x && (!two || !y)))
  let testDone := st.stPend && st.blocked && permit
  let pend := st.stPend && !testDone
  let clearing := d.cleared || testDone
  let ok := permit && !d.fault && !pend
  let latch := startLatch p.autoStart st.latch ok (isOn ins 2 && !clearing)
  let evs :=
    (if st.first && st.stPend then [blkEv 0x0504 .warning 7 0] else [])
      ++ (if !st.first && st.permit && !permit then [blkEv 0x0501 .trip (channelCause two x y) 0] else [])
      ++ (if d.raised then [blkEv 0x0503 .warning 0 (msOf c.per (st.t1 + 1))] else [])
      ++ (if d.cleared then [blkEv 0x0505 .notice 1 0] else [])
      ++ (if testDone then [blkEv 0x0505 .notice 7 0] else [])
      ++ readyEv p.autoStart (lastOut st 0 == 1) latch
  let outs := [latch.toNat, (d.fault || pend).toNat]
  { outs := outs, evs := evs,
    st := { st with outs := outs, first := false, prev := ins, latch := latch, fault := d.fault, bothZero := d.zero,
                    stPend := pend, blocked := zeroSeen && !testDone, permit := permit, t1 := d.count } }

/-! ## GUARD_LOCK (R179) -/

/-- GUARD_LOCK: inputs A, B, LA, LB, UREQ, STILL, RST; outputs Q, F, LCMD. Fault kinds are bits of faultKind: door
discrepancy, lock discrepancy, lock not reached, door open while locked. T_LOCK runs from a lock command given with the door closed,
whatever the door does then (DEDUCED, log entry 126). -/
def evalGuardLock (c : BlkCtx) (b : Block) (ins : List Nat) (st : BlockSt) : BlkRes :=
  let p := b.params
  let twoD := p.channels == 2
  let twoL := p.lchannels == 2
  let a := isOn ins 0
  let a' := isOn ins 1
  let l := isOn ins 2
  let l' := isOn ins 3
  let door := a && (!twoD || a')
  let lock := l && (!twoL || l')
  let ureq := isOn ins 4
  let still := !b.has 5 || isOn ins 5
  let bit (i : Nat) : Bool := st.faultKind / 2 ^ i % 2 == 1
  let dd := discWatch (scansOf c.per p.tDisc) twoD a a' st.t1 (bit 0) st.bothZero
  let dl := discWatch (scansOf c.per p.tDisc) twoL l l' st.t2 (bit 1) st.blocked
  let allZero := !a && (!twoD || !a') && !l && (!twoL || !l')
  let openLocked := !door && lock
  let k2 := bit 2 && !allZero
  let k3 := bit 3 && !allZero
  let k3new := !bit 3 && st.armed && openLocked && !st.first
  let faultBefore := dd.fault || dl.fault || k2 || k3 || k3new
  -- the lock command, and the fault of a lock that is not reached
  let wasQ := lastOut st 0 == 1
  let permit := door && lock && !ureq
  let clearing := dd.cleared || dl.cleared || (bit 2 && !k2) || (bit 3 && !k3)
  let latch := startLatch p.autoStart st.latch (permit && !faultBefore) (isOn ins 6 && !clearing)
  let sinceFall := if latch then 0 else if wasQ || st.first then 0 else countUp st.t3
  let unlock := ureq && still && !latch && decide (scansOf c.per p.tRundown ≤ sinceFall)
  let cmd :=
    if faultBefore then !p.principle
    else if unlock then false
    else if !ureq && door then true
    else st.active
  let waiting := cmd && !lock && !faultBefore && (door || decide (0 < st.t4))
  let count := if waiting then countUp st.t4 else 0
  let k2new := !bit 2 && waiting && decide (scansOf c.per p.tLock < count)
  let fault := faultBefore || k2new
  let q := latch && !fault
  let cmd := if fault then !p.principle else cmd
  let lcmd := !fault && (if p.principle then cmd else !cmd)
  let doorFell := !st.first && st.permit && !door
  let lockFell := wasQ && ((inp st.prev 2 == 1 && !l) || (twoL && inp st.prev 3 == 1 && !l'))
  let demand :=
    if doorFell then [blkEv 0x0501 .trip (channelCause twoD a a') 0]
    else if lockFell then [blkEv 0x0501 .trip 4 0]
    else if rises st ins 4 then [blkEv 0x0501 .notice 5 0]
    else []
  let evs := demand
    ++ (if dd.raised then [blkEv 0x0503 .warning 0 (msOf c.per (st.t1 + 1))] else [])
    ++ (if dl.raised then [blkEv 0x0503 .warning 0 (msOf c.per (st.t2 + 1))] else [])
    ++ (if k2new then [blkEv 0x0504 .warning 2 0] else [])
    ++ (if k3new then [blkEv 0x0504 .warning 3 0] else [])
    ++ (if dd.cleared || dl.cleared then [blkEv 0x0505 .notice 1 0] else [])
    ++ (if bit 2 && !k2 then [blkEv 0x0505 .notice 2 0] else [])
    ++ (if bit 3 && !k3 then [blkEv 0x0505 .notice 3 0] else [])
    ++ readyEv p.autoStart wasQ q
  let kind := dd.fault.toNat + 2 * dl.fault.toNat + 4 * (k2 || k2new).toNat + 8 * (k3 || k3new).toNat
  let outs := [q.toNat, fault.toNat, lcmd.toNat]
  { outs := outs, evs := evs,
    st := { st with outs := outs, first := false, prev := ins, latch := q, fault := fault, faultKind := kind,
                    bothZero := dd.zero, blocked := dl.zero, permit := door, t1 := dd.count, t2 := dl.count,
                    t3 := sinceFall, t4 := if fault then 0 else count, active := cmd, armed := openLocked } }

/-! ## TWOHAND (R180) -/

/-- TWOHAND: inputs L_NO, L_NC, R_NO, R_NC; output Q. t1 counts from the first actuation, t2 names the first hand (1 left,
2 right), t3 and t4 count antivalence. -/
def evalTwohand (c : BlkCtx) (b : Block) (ins : List Nat) (st : BlockSt) : BlkRes :=
  let p := b.params
  let act (k : Nat) : Bool := isOn ins k && !isOn ins (k + 1)
  let rel (k : Nat) : Bool := !isOn ins k && isOn ins (k + 1)
  let same (k : Nat) : Bool := isOn ins k == isOn ins (k + 1)
  let free := rel 0 && rel 2
  let n3 := if same 0 then countUp st.t3 else 0
  let n4 := if same 2 then countUp st.t4 else 0
  let anti := scansOf c.per p.tAnti
  let newFault := !st.fault && (decide (anti ≤ n3) || decide (anti ≤ n4))
  let cleared := st.fault && free
  let fault := newFault || (st.fault && !cleared)
  let base : BlockSt := { st with first := false, prev := ins, fault := fault, t3 := n3, t4 := n4 }
  let done (q : Bool) (s : BlockSt) (evs : List BlkEvent) : BlkRes :=
    { outs := [q.toNat], evs := evs, st := { s with outs := [q.toNat] } }
  let faultEvs := (if newFault then [blkEv 0x0504 .warning 4 0] else []) ++ (if cleared then [blkEv 0x0505 .notice 4 0] else [])
  if fault then done false { base with armed := false, active := false, blocked := true } faultEvs
  else if free then done false { base with armed := true, active := false, blocked := false, t1 := 0, t2 := 0 } faultEvs
  else if lastOut st 0 == 1 then
    if act 0 && act 2 then done true base faultEvs
    else done false { base with armed := false, active := false, blocked := true } faultEvs
  else if !st.armed || st.blocked then done false base faultEvs
  else if !st.active then
    if act 0 && act 2 then done true { base with armed := false } faultEvs
    else if act 0 || act 2 then done false { base with active := true, t1 := 0, t2 := if act 0 then 1 else 2 } faultEvs
    else done false base faultEvs
  else
    let first := if st.t2 == 1 then act 0 else act 2
    let second := if st.t2 == 1 then act 2 else act 0
    let gap := countUp st.t1
    if !first then done false { base with armed := false, active := false, blocked := true } faultEvs
    else if !second then done false { base with t1 := gap } faultEvs
    else if gap ≤ scansOf c.per p.tSync then done true { base with armed := false, active := false } faultEvs
    else
      done false { base with armed := false, active := false, blocked := true }
        (faultEvs ++ [blkEv 0x0507 .notice 0 (satNat 0xFFFFFFFF (msOf c.per gap))])

/-! ## SBC (R181 to R183) -/

/-- SBC: inputs REL, SOFT, TREQ, MOT; outputs BS, TDRV, TOK, TDUE. BS is 0 OFF, 1 RELEASE, 2 HOLD_PWM, 3 CLAMP; a release that
is refused because a test is due leaves the brake applied as SOFT says (log entry 28). -/
def evalSbc (c : BlkCtx) (b : Block) (ins : List Nat) (st : BlockSt) : BlkRes :=
  let p := b.params
  let rel := isOn ins 0
  let soft := isOn ins 1
  let mot := isOn ins 3
  let applied := lastOut st 0 == 0 || lastOut st 0 == 3
  let starts := !st.active && decide (0 < p.btInt) && rises st ins 2 && !rel && applied
  let n := scansOf c.per p.tBtest
  let elapsed := if starts then 0 else countUp st.t1
  let inTest := st.active || starts
  let fails := inTest && mot
  let passes := st.active && !mot && decide (n ≤ elapsed)
  let runs := inTest && !fails && !passes
  let minutes := if passes then 0 else c.minutes
  let due := decide (0 < p.btInt) && decide (p.btInt * 60 ≤ minutes)
  let fault := fails || (st.fault && !passes)
  let tested := passes || (st.tested && !fails)
  let refused := fault || (p.btEnf && due && applied)
  let bs : Nat :=
    if fault || runs then 0
    else if rel && passes then 0
    else if rel && !refused then (if p.hold then 2 else 1)
    else if soft then 3
    else 0
  let dueNew := due && !(st.dueRaised && !passes)
  let evs :=
    (if dueNew then [blkEv 0x050A .warning 0 (minutes / 60)] else [])
      ++ (if fails then [blkEv 0x0509 .warning 1 (msOf c.per elapsed)] else [])
      ++ (if passes then [blkEv 0x0508 .notice 0 (c.minutes / 60)] else [])
  let outs := [bs, runs.toNat, (tested && !due && !fault).toNat, due.toNat]
  { outs := outs, evs := evs, brReset := passes,
    st := { st with outs := outs, first := false, prev := ins, fault := fault, active := runs,
                    t1 := if runs then elapsed else 0, tested := tested, dueRaised := (st.dueRaised && !passes) || due } }

/-! ## EDM (R184) -/

/-- EDM: inputs QI, FB; output Q. t1 counts from the rise while FB has not been seen 0 (armed); t2 counts scans with Q and
FB both 0. -/
def evalEdm (c : BlkCtx) (b : Block) (ins : List Nat) (st : BlockSt) : BlkRes :=
  let n := scansOf c.per b.params.tEdm
  let qi := isOn ins 0
  let fb := isOn ins 1
  let wasQ := lastOut st 0 == 1
  let cleared := st.fault && !qi && fb
  let q0 := !st.fault && qi && (wasQ || (rises st ins 0 && fb))
  let rose := q0 && !wasQ
  let watching := q0 && (rose || st.armed) && fb
  let elapsed := if rose then 0 else countUp st.t1
  let missClose := watching && decide (n ≤ elapsed) && !rose
  let openCount := if !q0 && !fb && !st.fault then countUp st.t2 else 0
  let missOpen := decide (n < openCount)
  let newFault := missClose || missOpen
  let fault := newFault || (st.fault && !cleared)
  let q := q0 && !newFault
  let evs := (if newFault then [blkEv 0x0504 .warning 5 0] else []) ++ (if cleared then [blkEv 0x0505 .notice 5 0] else [])
  { outs := [q.toNat], evs := evs,
    st := { st with outs := [q.toNat], first := false, prev := ins, fault := fault, armed := watching && !newFault,
                    t1 := if watching then elapsed else 0, t2 := if newFault then 0 else openCount } }

/-! ## RESTART (R201 to R205) -/

/-- A restart event under source 235 (Table 9-4). -/
def restartEv (code : Half) (kind ms : Nat) : BlkEvent :=
  { code := code, cls := if code = 0x0703 then .warning else .notice, bytes := [(3, kind), (4, ms % 2 ^ 32)],
    src := some 235 }

/-- The reason a release is rejected before its confirmation is judged: 4 not armed, 1 shorter than T_MIN, 2 unclean. -/
def releaseReason (nMin : Nat) (st : BlockSt) : Option Nat :=
  if !st.latch then some 4 else if st.t1 < nMin then some 1 else if st.unclean then some 2 else none

/-- A link start since the last scan unarms IN (R205): a press that runs is no armed one, and the OFF count for arming starts
afresh; that for STUCK goes on (R204). -/
def BlockSt.unarmed (st : BlockSt) : BlockSt :=
  if st.disarmed then { st with armed := false, latch := false, t2 := 0, disarmed := false } else st

/-- RESTART: input IN; outputs R, STUCK. t1 is the ON count, t2 the OFF count since IN was unarmed or ON, t3 that since IN was ON,
latch tells whether the press began armed, and fromStart whether IN has not been 0 since the entry into RUN or the link start. -/
def evalRestart (c : BlkCtx) (b : Block) (ins : List Nat) (st : BlockSt) : BlkRes :=
  let st := st.unarmed
  let nMin := scansOf c.per b.params.tMin
  let nMax := scansOf c.per b.params.tMax
  let on := isOn ins 0
  let ms := msOf c.per st.t1
  -- a release of the preceding scan whose record had not arrived
  let waited : Option Bool := if st.waitEdge then some (!st.unclean && st.edgeHeld) else none
  let waitEvs : List BlkEvent := match waited with
    | some true => [restartEv 0x0701 0 ms]
    | some false => [restartEv 0x0702 (if st.unclean then 2 else 3) ms]
    | none => []
  let rWaited := waited == some true
  let base : BlockSt := { st with first := false, prev := ins, waitEdge := false }
  let done (r : Bool) (s : BlockSt) (evs : List BlkEvent) : BlkRes :=
    { outs := [r.toNat, s.stuck.toNat], evs := waitEvs ++ evs, st := { s with outs := [r.toNat, s.stuck.toNat] } }
  if on then
    if !st.active then
      let fromStart := !st.armed && st.t2 == 0
      done rWaited { base with active := true, t1 := 1, t2 := 0, t3 := 0, latch := st.armed, fromStart := fromStart, unclean := false,
                               edgeHeld := false } []
    else
      let n := countUp st.t1
      if n == nMax + 1 then
        done rWaited { base with t1 := n, t2 := 0, t3 := 0, stuck := true }
          [restartEv 0x0703 st.fromStart.toNat (msOf c.per n)]
      else done rWaited { base with t1 := n, t2 := 0, t3 := 0 } []
  else
    let off := countUp st.t2
    let zeros := countUp st.t3
    let base := { base with active := false, t2 := off, t3 := zeros, armed := st.armed || decide (nMin ≤ off),
                            stuck := st.stuck && decide (zeros < nMin) }
    if !st.active then done rWaited base []
    else if nMax < st.t1 then done rWaited base []
    else match releaseReason nMin st with
      | some k => done rWaited base [restartEv 0x0702 k ms]
      | none =>
        if st.edgeHeld then done true base [restartEv 0x0701 0 ms] else done rWaited { base with waitEdge := true } []

/-! ## INTERLOCK (R187) -/

/-- The mask of missing permits P1 to P8. -/
def missingPermits (b : Block) (ins : List Nat) : Nat :=
  ((List.range 8).map (fun k => (b.has (k + 1) && !isOn ins (k + 1)).toNat * 2 ^ k)).sum

/-- INTERLOCK: inputs REQ, P1 to P8; output Q. -/
def evalInterlock (b : Block) (ins : List Nat) (st : BlockSt) : BlkRes :=
  let miss := missingPermits b ins
  let req := isOn ins 0
  let wasQ := lastOut st 0 == 1
  let edge := rises st ins 0
  let q := req && miss == 0 && (!b.params.reqEdge || wasQ || edge)
  let evs :=
    (if edge && miss != 0 then [blkEv 0x0506 .notice 0 miss] else [])
      ++ (if b.params.reqEdge && wasQ && miss != 0 then [blkEv 0x0501 .trip 7 0] else [])
  { outs := [q.toNat], evs := evs, st := { st with outs := [q.toNat], first := false, prev := ins } }

/-! ## SFL_IN and SFL_OUT (R188, R189) -/

/-- SFL_IN: input RST; outputs S0 to S63, W0, W1, OK, RS. -/
def evalSflIn (c : BlkCtx) (b : Block) (ins : List Nat) (st : BlockSt) : BlkRes :=
  let valid := c.cons.state == .valid
  let demand := !st.first && st.permit && (!valid || c.cons.lost)
  let ok := startLatch b.params.autoStart (st.latch && !demand) (valid && !demand) (isOn ins 0)
  let evs := (if demand then [blkEv 0x0501 .trip 8 0] else []) ++ readyEv b.params.autoStart (lastOut st 66 == 1) ok
  let bits := (List.range 64).map (fun k => (ok && c.cons.bits.getLsbD k).toNat)
  let word (w : Half) : Nat := if ok then w.toNat else 0
  let outs := bits ++ [word c.cons.w0, word c.cons.w1, ok.toNat, c.rs.toNat]
  { outs := outs, evs := evs,
    st := { st with outs := outs, first := false, prev := ins, latch := ok, permit := valid } }

/-- SFL_OUT: inputs S0 to S63, W0, W1, RR; output RUN. armed tells phase 4 of the same scan that RR has risen. -/
def evalSflOut (c : BlkCtx) (ins : List Nat) (st : BlockSt) : BlkRes :=
  { outs := [c.running.toNat], evs := [],
    st := { st with outs := [c.running.toNat], first := false, prev := ins, armed := rises st ins 66 } }

/-! ## General blocks (Table 8-6) -/

/-- The connected inputs of AND and OR. -/
def connected (b : Block) (ins : List Nat) : List Nat :=
  (List.range 8).filterMap (fun k => if b.has k then some (inp ins k) else none)

/-- A block without state. -/
def plain (v : Nat) (ins : List Nat) (st : BlockSt) : BlkRes :=
  { outs := [v], evs := [], st := { st with outs := [v], first := false, prev := ins } }

/-- Q and ET of a timer. -/
def timerRes (q : Bool) (et : Nat) (st : BlockSt) : BlkRes :=
  { outs := [q.toNat, et], evs := [], st := { st with outs := [q.toNat, et] } }

/-- TON: Q once IN has been 1 for PT. -/
def evalTon (c : BlkCtx) (b : Block) (ins : List Nat) (st : BlockSt) : BlkRes :=
  let base : BlockSt := { st with first := false, prev := ins }
  if isOn ins 0 then
    let e := if st.active then countUp st.t1 else 0
    timerRes (decide (scansOf c.per b.params.pt ≤ e)) (min b.params.pt (msOf c.per e)) { base with active := true, t1 := e }
  else timerRes false 0 { base with active := false, t1 := 0 }

/-- TOF: Q falls PT after IN falls. -/
def evalTof (c : BlkCtx) (b : Block) (ins : List Nat) (st : BlockSt) : BlkRes :=
  let base : BlockSt := { st with first := false, prev := ins }
  if isOn ins 0 then timerRes true 0 { base with active := true, t1 := 0 }
  else if st.active then
    let e := if inp st.prev 0 == 1 then 0 else st.t1 + 1
    let q := decide (e < scansOf c.per b.params.pt)
    timerRes q (min b.params.pt (msOf c.per e)) { base with active := q, t1 := e }
  else timerRes false (lastOut st 1) base

/-- PULSE: Q for PT from a rising edge, at least one scan, an edge within it ignored; ET then stays while IN is 1. -/
def evalPulse (c : BlkCtx) (b : Block) (ins : List Nat) (st : BlockSt) : BlkRes :=
  let base : BlockSt := { st with first := false, prev := ins }
  let n := max 1 (scansOf c.per b.params.pt)
  if st.active && decide (st.t1 + 1 < n) then
    timerRes true (min b.params.pt (msOf c.per (st.t1 + 1))) { base with t1 := st.t1 + 1 }
  else if rises st ins 0 then timerRes true 0 { base with active := true, t1 := 0 }
  else
    let et := if !isOn ins 0 then 0 else if st.active then b.params.pt else lastOut st 1
    timerRes false et { base with active := false, t1 := 0 }

/-- EVENT: one record at each selected edge (Table 8-6). -/
def evalEvent (c : BlkCtx) (b : Block) (ins : List Nat) (st : BlockSt) : BlkRes :=
  let p := b.params
  let up := rises st ins 0 && (p.edge == 0 || p.edge == 2)
  let down := falls st ins 0 && (p.edge == 1 || p.edge == 2)
  let cls : Cls := match p.cls with
    | 0 => .info | 1 => .notice | 2 => .warning | _ => .trip
  let ev : BlkEvent :=
    { code := p.code, cls := cls, src := some (192 + p.n),
      bytes := [(0, inp ins 1 % 65536), (2, inp ins 0), (4, c.scan.toNat)] }
  { outs := [], evs := if up || down then [ev] else [], st := { st with outs := [], first := false, prev := ins } }

/-! ## One block -/

/-- One evaluation of a block (chapter 8). -/
def evalBlock (c : BlkCtx) (b : Block) (ins : List Nat) (st : BlockSt) : BlkRes :=
  match b.type with
  | .estop | .guard | .lcurt => evalSupervise c b ins st
  | .guardLock => evalGuardLock c b ins st
  | .twohand => evalTwohand c b ins st
  | .sbc => evalSbc c b ins st
  | .edm => evalEdm c b ins st
  | .restart => evalRestart c b ins st
  | .modesel => { outs := c.modes, evs := [], st := { st with outs := c.modes, first := false, prev := ins } }
  | .interlock => evalInterlock b ins st
  | .sflIn => evalSflIn c b ins st
  | .sflOut => evalSflOut c ins st
  | .and => plain (if (connected b ins).all (· == 1) then 1 else 0) ins st
  | .or => plain (if (connected b ins).any (· == 1) then 1 else 0) ins st
  | .not => plain (1 - inp ins 0) ins st
  | .ton => evalTon c b ins st
  | .tof => evalTof c b ins st
  | .pulse => evalPulse c b ins st
  | .event => evalEvent c b ins st
  | .hostsig => plain c.host ins st

end Sys2Proof.Machine
end

