-- ==== Sys2Proof/Machine/Modes.lean ====
section
/-! DEFINITION. Operating modes (chapter 9): the selector, requests and their arbitration, AUTO pending, the hand-over and
its holds, over plain values. -/

namespace Sys2Proof.Machine

/-! ## The MODESEL block (R186, R192 to R197) -/

/-- What MODESEL reads in one scan. -/
structure ModeIn where
  per      : Nat
  first    : Bool             -- the first scan since RUN entry
  reqSrc   : BitVec 3
  tSel     : Nat
  sa       : Bool
  sl       : Bool
  ss       : Bool
  en       : Bool
  host     : Option Nat       -- the mode SET_MODE_REQUEST names
  w1       : Nat              -- safe word W1 of the mode connection
  hasConn  : Bool
  mode     : Mode
  handover : Bool             -- a hand-over is in progress

/-- What MODESEL gives in one scan. -/
structure ModeRes where
  st         : ModeSt
  mode       : Mode
  grant      : Bool           -- this scan is scan j of a hand-over
  evs        : List BlkEvent
  outs       : List Nat
  hostReason : Nat            -- the answer to the host's request: 0 granted

/-- A mode event under source 234 (Table 9-3). -/
def modeEv (code : Half) (b3 b4 b5 : Nat) : BlkEvent :=
  { code := code, cls := .notice, bytes := [(3, b3), (4, b4), (5, b5)], src := some 234 }

/-- The outputs MODE, M_AUTO, M_LOCAL, M_SERVICE, M_EN for a mode, all but MODE at 0 unless granted (R186). -/
def modeOuts (m : Mode) (granted en : Bool) : List Nat :=
  let on (k : Mode) : Nat := (granted && decide (m = k)).toNat
  [m.code, on .auto, on .localMode, on .service, (granted && decide (m = .service) && en).toNat]

/-- The selector pattern: exactly one contact at 1 names a mode; 3 is invalid (R186). -/
def selectorPattern (sa sl ss : Bool) : Nat :=
  if sa && !sl && !ss then 0 else if !sa && sl && !ss then 1 else if !sa && !sl && ss then 2 else 3

/-- One scan of the selector: its pattern count, its fault, the end of AUTO pending by a move of the key (R186, R196). -/
def selectorScan (nSel pat : Nat) (st : ModeSt) : ModeSt × List BlkEvent :=
  if pat = 3 then
    let bad := countUp st.badCount
    let hit := !st.fault && decide (nSel ≤ bad)
    let st := { st with pattern := 3, patCount := 0, badCount := bad, fault := st.fault || hit,
                        selected := st.selected && !(hit && st.pending), pending := st.pending && !hit }
    (st, if hit then [{ blkEv 0x0504 .warning 6 0 with src := some 234 }] else [])
  else
    let moved := st.pending && pat != 0
    let st' := { st with pattern := pat, patCount := if st.pattern = pat then countUp st.patCount else 1, badCount := 0,
                         fault := false, pending := st.pending && !moved, selected := st.selected && !moved }
    (st', if st.fault then [{ blkEv 0x0505 .notice 6 0 with src := some 234 }] else [])

/-- The bit of a source in REQ_SRC: 1 pins, 2 host, 3 SFL. -/
def srcAllowed (reqSrc : BitVec 3) (source : Nat) : Bool := reqSrc.getLsbD (source - 1)

/-- What a request meets before Table 9-2 (R195): 1 source not permitted, 5 selector fault, 2 hand-over in progress. -/
def requestBar (i : ModeIn) (st : ModeSt) (source : Nat) : Nat :=
  if !srcAllowed i.reqSrc source then 1 else if st.fault then 5 else if i.handover then 2 else 0

/-- The arbitration's running result. -/
structure Arb where
  grant : Option (Nat × Nat)  -- source and mode granted with a change
  pend  : Bool                -- AUTO pending starts
deriving DecidableEq, Repr

/-- One remote request by Table 9-2, the selector's own request already judged: its reason, and the result. -/
def judgeRemote (i : ModeIn) (st : ModeSt) (pins : Option Nat) (source m : Nat) (a : Arb) : Nat × Arb :=
  let present := match a.grant with
    | some g => g.2
    | none => i.mode.code
  if pins.isSome && pins != some m then (3, a)
  else if m = present then (0, a)
  else if srcAllowed i.reqSrc 1 then
    if m = 0 ∧ (st.pending ∨ a.pend) then (0, { grant := some (source, 0), pend := false }) else (3, a)
  else if m = 2 then (3, a)
  else (0, { a with grant := some (source, m) })

/-- MODESEL in one scan (R186, R192, R194 to R197). -/
def evalModesel (i : ModeIn) (st : ModeSt) : ModeRes :=
  let pins := srcAllowed i.reqSrc 1
  let nSel := scansOf i.per i.tSel
  let pat := selectorPattern i.sa i.sl i.ss
  let r := if pins then selectorScan nSel pat st else (st, [])
  let st1 := r.1
  -- the selector: the pattern's N_SEL-th scan
  let held := pins && pat != 3 && st1.patCount == nSel
  let st2 := if held && pat == i.mode.code then { st1 with selected := true } else st1
  let pinReq : Option Nat :=
    if held && pat != i.mode.code && !(st2.pending && pat == 0) then some pat else none
  let pinBar := if pinReq.isSome then requestBar i st2 1 else 0
  let pinGo : Option Nat := if pinBar = 0 then pinReq else none
  let remote := srcAllowed i.reqSrc 2 || srcAllowed i.reqSrc 3
  let arb0 : Arb := match pinGo with
    | some m => if m = 0 ∧ remote then { grant := none, pend := true } else { grant := some (1, m), pend := false }
    | none => { grant := none, pend := false }
  -- the mode connection
  let changed := i.hasConn && !i.first && i.w1 != st.lastW1
  let sflReq : Option Nat := if changed && decide (1 ≤ i.w1) && decide (i.w1 ≤ 3) then some (i.w1 - 1) else none
  let tooBig := changed && decide (3 < i.w1)
  -- host and SFL
  let hostBar := if i.host.isSome then requestBar i st2 2 else 0
  let sflBar := if sflReq.isSome then requestBar i st2 3 else 0
  let clash := i.host.isSome && sflReq.isSome && i.host != sflReq && hostBar == 0 && sflBar == 0
  let hostRes : Nat × Arb := match i.host with
    | some m => if hostBar ≠ 0 then (hostBar, arb0) else if clash then (4, arb0) else judgeRemote i st2 pinGo 2 m arb0
    | none => (0, arb0)
  let sflRes : Nat × Arb := match sflReq with
    | some m =>
      if sflBar ≠ 0 then (sflBar, hostRes.2) else if clash then (4, hostRes.2)
      else judgeRemote i st2 pinGo 3 m hostRes.2
    | none => (0, hostRes.2)
  let arb := sflRes.2
  -- the result
  let shown (st : ModeSt) : Bool := !pins || (st.selected && !st.pending && !st.fault)
  let refusedEv (reason source m : Nat) : List BlkEvent :=
    if reason = 0 then [] else [modeEv 0x0602 reason m source]
  let refused := refusedEv pinBar 1 (pinReq.getD 0) ++ refusedEv hostRes.1 2 (i.host.getD 0)
    ++ refusedEv sflRes.1 3 (sflReq.getD 0) ++ (if tooBig then [modeEv 0x0602 6 0xFF 3] else [])
  let st2 := { st2 with lastW1 := i.w1 }
  let pendEv := if arb0.pend then [modeEv 0x0605 0 i.mode.code 0] else []
  match arb.grant with
  | some (src, m) =>
    let st3 := { st2 with oldMode := i.mode, pending := false, selected := true, diff := [] }
    { st := st3, mode := Mode.ofCode m, grant := true,
      evs := r.2 ++ pendEv ++ [modeEv 0x0601 src i.mode.code m] ++ refused,
      outs := modeOuts (Mode.ofCode m) (shown st3) i.en, hostReason := hostRes.1 }
  | none =>
    let st3 := if arb.pend then { st2 with pending := true, selected := true } else st2
    { st := st3, mode := i.mode, grant := false,
      evs := r.2 ++ pendEv ++ refused,
      outs := modeOuts i.mode (shown st3) i.en, hostReason := hostRes.1 }

/-- The old mode's MODESEL outputs in a hand-over scan (R196, R198): those of the old mode, out of AUTO pending too; 0 in a selector
fault. -/
def oldModeOuts (st : ModeSt) (en : Bool) : List Nat := modeOuts st.oldMode (!st.fault) en

/-! ## The hand-over (R198 to R200) -/

/-- A brake state releases. -/
def releases (v : Nat) : Bool := v == 1 || v == 2

/-- The value of a binding is on: 1, or RELEASE or HOLD_PWM for a brake. -/
def bindOn (brake : Bool) (v : Nat) : Bool := if brake then releases v else v == 1

/-- Two evaluations of a binding combined (R198). -/
def combineBind (brake : Bool) (old new : Nat) : Nat :=
  if brake then
    if releases old && releases new then new else if old == 0 || new == 0 then 0 else 3
  else if old == 1 && new == 1 then 1 else 0

/-- Two evaluations of a safe word combined (R198). -/
def combineWord (old new : Nat) : Nat := if old = new then new else 0

/-- One binding in one scan: its values, whether it was held; the value to send, and whether it is held now (R199). -/
structure HoldRes where
  sent : Nat
  held : Bool
  placed : Bool
deriving DecidableEq, Repr

/-- R198 and R199 for one binding: handover counts the hand-over scans left with this one, 2 in scan j, 1 in scan j + 1. -/
def holdScan (b : OutBind) (handover old new rst : Nat) (held : Bool) : HoldRes :=
  let v := if handover = 0 then new else combineBind b.brake old new
  let place := handover == 1 && b.modeDep && !b.hoAuto && !held && !bindOn b.brake old && bindOn b.brake new
  let ends := !bindOn b.brake new || (handover == 0 && b.hoRst.isSome && rst == 1)
  let now := place || (held && !ends)
  { sent := if now then 0 else v, held := now, placed := place }

end Sys2Proof.Machine
end

