-- ==== Sys2Proof/Machine/Engine.lean ====
section
/-! DEFINITION. The logic engine (chapter 7): chameleon words, the LFSR, the checker, one scan from take-over to publish,
entries into RUN, re-verification. -/

namespace Sys2Proof.Machine

/-! ## Chameleon coding (R150 to R153) -/

/-- A = 63,877 (R150). -/
def codeA : Nat := 63877

/-- One step of the LFSR (R151). -/
def lfsrStep (d : Word) : Word := if d.msb then (d <<< 1) ^^^ 0x00400007 else d <<< 1

/-- n steps of the LFSR. -/
def lfsrRun : Nat → Word → Word
  | 0, d => d
  | n + 1, d => lfsrRun n (lfsrStep d)

/-- D_k from D_(k−1): 32 steps (R151). -/
def lfsrNext (d : Word) : Word := lfsrRun 32 d

/-- The word of value x under signature b in a scan with D = d (R150). -/
def encodeWord (x : Nat) (b d : Word) : Word := BitVec.ofNat 32 (codeA * x) + b + d

/-- u = (xc − D − B) mod 2^32 (R152). -/
def uOf (w b d : Word) : Word := w - d - b

/-- Quotient and remainder of an operand (R152). -/
def quotU (u : Word) : Nat := u.toNat / codeA
def remU (u : Word) : Nat := u.toNat % codeA

/-- The largest value of a class (Table 7-2). -/
def SigClass.top : SigClass → Nat
  | .bool => 1 | .word => 65535 | .time => 65535 | .bstate => 3

/-- The checker on a result (R153): 0 passes, 1 remainder, 2 range. -/
def checkU (c : SigClass) (u : Word) : Nat := if remU u ≠ 0 then 1 else if c.top < quotU u then 2 else 0

/-- AND of coded operands: q_y·u_x + r_y (Table 7-3), operand by operand. -/
def andU : List Word → Word
  | [] => 0
  | u :: r => r.foldl (fun z y => BitVec.ofNat 32 (quotU y * z.toNat + remU y)) u

/-- NOT of a coded BOOL (Table 7-3). -/
def notU (u : Word) : Word := BitVec.ofNat 32 codeA - u

/-- OR, formed as NOT(AND(NOT x, NOT y)) (R152). -/
def orU (l : List Word) : Word := notU (andU (l.map notU))

/-- The decide form: A·f + Σ r (Table 7-3). -/
def decideU (f : Nat) (ins : List Word) : Word := BitVec.ofNat 32 (codeA * f + (ins.map remU).sum)

/-- The operators of Table 7-3 on whole words; m is the constant of MULK, f the function of the decide form. -/
inductive CodedOp where
  | add | sub | not | mulk (m : Half) | mul | decide (f : Half → Half → Half)

/-- The result word of an operator on xc and yc, with the constants its compiler computes from the signatures (Table 7-3). -/
def CodedOp.word (op : CodedOp) (xc yc bx byy bz d : Word) : Word :=
  match op with
  | .add => xc + yc - d + (bz - bx - byy)
  | .sub => xc - yc + d + (bz - bx + byy)
  | .not => BitVec.ofNat 32 codeA + (bx + bz) + 2 * d - xc
  | .mulk m => m.setWidth 32 * (xc - d - bx) + bz + d
  | .mul => BitVec.ofNat 32 (quotU (uOf yc byy d)) * (xc - d - bx) + BitVec.ofNat 32 (remU (uOf yc byy d)) + bz + d
  | .decide f =>
    let x := uOf xc bx d
    let y := uOf yc byy d
    decideU (f (BitVec.ofNat 16 (quotU x)) (BitVec.ofNat 16 (quotU y))).toNat [x, y] + bz + d

/-- The value an operator computes on plain values, of which the result word carries A times, modulo 2^32. -/
def CodedOp.plain (op : CodedOp) (x y : Half) : Word :=
  match op with
  | .add => x.setWidth 32 + y.setWidth 32
  | .sub => x.setWidth 32 - y.setWidth 32
  | .not => 1 - x.setWidth 32
  | .mulk m => m.setWidth 32 * x.setWidth 32
  | .mul => y.setWidth 32 * x.setWidth 32
  | .decide f => (f x y).setWidth 32

/-- An operator vector of R154: two values under two signatures, and the signature of the result. -/
structure OpVector where
  op  : CodedOp
  x   : Half
  y   : Half
  bx  : Word
  byy : Word
  bz  : Word

/-- The 16 operator vectors. The ROM's own are not in the spec: these exercise every operator of Table 7-3 (log entry 92). -/
def opVector (n : BitVec 4) : OpVector :=
  let x : Half := BitVec.ofNat 16 (257 * n.toNat + 1)
  let ops : List CodedOp := [.add, .sub, .not, .mulk 3, .mul, .decide (fun a b => if a = b then 1 else 0)]
  { op := ops[n.toNat % 6]?.getD .add, x := if n.toNat % 6 = 2 then x &&& 1 else x, y := 2, bx := 1201, byy := 40517, bz := 22093 }

/-- A vector gives its recorded result on D (R154). -/
def OpVector.passes (v : OpVector) (d : Word) : Bool :=
  v.op.word (encodeWord v.x.toNat v.bx d) (encodeWord v.y.toNat v.byy d) v.bx v.byy v.bz d
    == BitVec.ofNat 32 codeA * v.op.plain v.x v.y + v.bz + d

/-- The canary: one valid word plus 1, which the checker must reject (R154). -/
def canaryRejected : Bool := checkU .bool (BitVec.ofNat 32 codeA + 1) != 0

/-- The coder test: values 0 and 1 under fixed signatures, which the checker must pass (R154). -/
def coderPasses (d : Word) : Bool :=
  checkU .bool (uOf (encodeWord 0 1201 d) 1201 d) == 0 && checkU .bool (uOf (encodeWord 1 40517 d) 40517 d) == 0

/-! ## The scan's working state -/

/-- What one evaluation of the blocks carries: words, words written or recoloured in this scan, block states, results
counted with their destination indices, and the first rejection (signal, kind, block). -/
structure Work where
  words : List Word
  fresh : List Nat
  sts   : List BlockSt
  count : Nat
  dests : List Nat
  fail  : Option (Nat × Nat × Nat)

/-- The signal of an index. -/
def sigAt (im : Image) (i : Nat) : Signal := im.signals[i]?.getD { cls := .bool, sig := 0, isState := false }

/-- A state word recoloured from D_(k−1) to D_k at its first read; the result goes through the checker as every other (R153, R164,
log entry 25). -/
def readWord (im : Image) (dOld d : Word) (blk : Nat) (i : Nat) (w : Work) : Word × Work :=
  let g := sigAt im i
  let x := w.words[i]?.getD 0
  if g.isState && !w.fresh.contains i then
    let x := x + d - dOld
    let k := checkU g.cls (uOf x g.sig d)
    (x, { w with words := w.words.set i x, fresh := i :: w.fresh, count := w.count + 1, dests := i :: w.dests,
                 fail := if w.fail.isNone && k != 0 then some (i, k, blk) else w.fail })
  else (x, w)

/-- The operands u of a block's connections; an unconnected input is 0. -/
def readInputs (im : Image) (dOld d : Word) (blk : Nat) : List (Option Nat) → Work → List Word × Work
  | [], w => ([], w)
  | none :: r, w =>
    let x := readInputs im dOld d blk r w
    (0 :: x.1, x.2)
  | some i :: r, w =>
    let y := readWord im dOld d blk i w
    let x := readInputs im dOld d blk r y.2
    (uOf y.1 (sigAt im i).sig d :: x.1, x.2)

/-- A result word written to its signal and checked as it is written (R153). -/
def writeResult (im : Image) (d : Word) (blk : Nat) (i : Nat) (u : Word) (w : Work) : Work :=
  let g := sigAt im i
  let k := checkU g.cls u
  { w with words := w.words.set i (u + g.sig + d), fresh := i :: w.fresh, count := w.count + 1, dests := i :: w.dests,
           fail := if w.fail.isNone && k != 0 then some (i, k, blk) else w.fail }

/-- The operands of a block's connected inputs. -/
def liveOps (b : Block) (us : List Word) : List Word :=
  (List.range b.ins.length).filterMap (fun k => if b.has k then us[k]? else none)

/-- The coded results of a block from its inputs and its state words: the operator's own form for AND, OR and NOT, the decide
form for every other. -/
def resultU (b : Block) (us sts : List Word) (f : Nat) : Word :=
  let live := liveOps b us
  match b.type with
  | .and => andU live
  | .or => orU live
  | .not => notU (us[0]?.getD 0)
  | _ => decideU f (live ++ sts)

/-- All outputs of a block written. -/
def writeOuts (im : Image) (d : Word) (blk : Nat) (b : Block) (us sts : List Word) (outs : List Nat) (w : Work) : Work :=
  (List.range b.outs.length).foldl (fun w k =>
    match (b.outs[k]?).join with
    | some i => writeResult im d blk i (resultU b us sts (outs[k]?.getD 0)) w
    | none => w) w

/-! ### State words (R164) -/

/-- What a block has read: the work, its state and MODESEL's with the items its state words carry, and those words' operands. -/
structure StateRead where
  work : Work
  st   : BlockSt
  mode : ModeSt
  us   : List Word

/-- A block's state words read, each recoloured unless an earlier block's read has done so. -/
def readStates (im : Image) (dOld d : Word) (blk : Nat) : List (StateItem × Nat) → StateRead → StateRead
  | [], r => r
  | (x, i) :: l, r =>
    let y := readWord im dOld d blk i r.work
    let u := uOf y.1 (sigAt im i).sig d
    let v := quotU u
    readStates im dOld d blk l
      { work := y.2, st := r.st.withItem x v, us := r.us ++ [u],
        mode := match x with
          | .mode m => r.mode.withItem m v
          | _ => r.mode }

/-- A block's state words written, in the decide form over its inputs and its state words, checked and counted as results (R152,
R153). -/
def writeStates (im : Image) (d : Word) (blk : Nat) (b : Block) (us sts : List Word) (st : BlockSt) (m : ModeSt) (w : Work) : Work :=
  b.states.foldl (fun w x => writeResult im d blk x.2 (decideU (st.item m x.1) (liveOps b us ++ sts)) w) w

/-- A block's state words encoded without the checker: at an entry into RUN, and at the scan a timed row stands for. -/
def putStates (im : Image) (d : Word) (b : Block) (st : BlockSt) (m : ModeSt) (words : List Word) : List Word :=
  b.states.foldl (fun w x => w.set x.2 (encodeWord (st.item m x.1) (sigAt im x.2).sig d)) words

/-- The state of block i. -/
def stAt (sts : List BlockSt) (b : Block) (i : Nat) : BlockSt := sts[i]?.getD (BlockSt.fresh b)

/-! ## What blocks read beside their inputs (R155) -/

/-- The value of a HOSTSIG block as current at the scan start (R190, R310). -/
def hostValue (s : State) (p : BlockParams) : Nat :=
  if p.n = 32 then s.hb.silent.toNat
  else if p.isWord then ((s.cm.hostWord[p.n]?).join.getD p.dflt).toNat
  else if s.cm.hostBoolSet.getLsbD p.n then (s.cm.hostBool.getLsbD p.n).toNat
  else p.dflt.toNat

/-- The accepted remote restart of an SFL_IN block can be given now, in the mode of this scan (R206). -/
def rsReady (mode : Mode) (s : State) (b : Block) : Bool :=
  let c := getCons b.params.conn.val s
  b.type == .sflIn && c.rrNow.isSome && b.params.rrest && c.state == .valid && mode == .auto

/-- The context of a block in this scan. -/
def blkCtx (s : State) (im : Image) (k : Word) (modes : List Nat) (rs : Bool) (b : Block) : BlkCtx :=
  { per := periodUs im.scanPer.val, scan := k,
    minutes := s.nv.live.brMinutes[2 * b.params.brakePort.val + b.params.brakeIx.val]?.getD 0,
    cons := getCons b.params.conn.val s, rs := rs, running := (getProd b.params.conn.val s).running,
    host := hostValue s b.params, modes := modes }

/-! ## Event sources (R174) -/

/-- The source of the events of a block's named input: 16p + i for a port input, 230 behind an SFL_IN, else 226. -/
def inputSource (im : Image) (b : Block) (k : Nat) : Nat :=
  match (b.ins[k]?).join with
  | none => 226
  | some i =>
    match im.inputs.find? (fun x => x.sig == i) with
    | some x => 16 * x.port.val + x.ix.val
    | none => if im.blocks.any (fun c => c.type == .sflIn && c.outs.contains (some i)) then 230 else 226

/-- The event source of a block (Table 8-1). -/
def blockSource (im : Image) (b : Block) : Nat :=
  match b.type with
  | .estop | .guard | .guardLock | .lcurt | .twohand | .interlock => inputSource im b 0
  | .edm => inputSource im b 1
  | .sbc => 160 + 2 * b.params.brakePort.val + b.params.brakeIx.val
  | .restart => 235
  | .modesel => 234
  | .sflIn | .sflOut => 230
  | .event => 192 + b.params.n
  | _ => 226

/-- The events of a block raised with its argument (R174). An EVENT block's argument is its own (Table 8-6). -/
def raiseBlk (im : Image) (ix : Nat) (b : Block) (evs : List BlkEvent) (s : State) : State :=
  evs.foldl (fun s e =>
    let arg := if b.type = .event then e.bytes else blockArg ix b ++ e.bytes
    raise (e.src.getD (blockSource im b)) e.code e.cls (argOf arg) s) s

/-! ## One block in a scan -/

/-- The host's mode request that waits for a scan (R194). -/
def hostMode (s : State) : Option Nat :=
  match s.cm.running with
  | some (.modeRequest m) => some m
  | _ => none

/-- What MODESEL reads (R186, R194). -/
def modeIn (s : State) (im : Image) (b : Block) (vals : List Nat) (first : Bool) : ModeIn :=
  let conn := (List.range 32).find? (fun n => match (im.consumers[n]?).join with
    | some c => c.modeConn
    | none => false)
  let w1 := match conn with
    | some n => let c := getCons n s; if c.state = .valid then c.w1.toNat else 0
    | none => 0
  { per := periodUs im.scanPer.val, first := first, reqSrc := b.params.reqSrc, tSel := b.params.tSel,
    sa := isOn vals 0, sl := isOn vals 1, ss := isOn vals 2, en := isOn vals 3,
    host := hostMode s,
    w1 := w1, hasConn := conn.isSome, mode := s.dev.mode, handover := s.dev.handover != 0 }

/-- MODESEL's scan taken into the state: the mode, the hand-over, the events (R195 to R197). -/
def takeModesel (im : Image) (ix : Nat) (b : Block) (r : ModeRes) (s : State) : State :=
  raiseBlk im ix b r.evs { s with
    dev := { s.dev with mode := r.mode, handover := if r.grant then 2 else s.dev.handover },
    en := { s.en with mode := r.st } }

/-- The host's answer to the request that this scan judged (R309). -/
def answerMode (r : ModeRes) (s : State) : State :=
  match s.cm.running with
  | some (.modeRequest _) =>
    finishRunning (if r.hostReason = 0 then stOk else stWrongState)
      [BitVec.ofNat 8 r.hostReason, BitVec.ofNat 8 s.dev.mode.code] s
  | _ => s

/-- MODESEL in a scan (R195 to R197, R309). -/
def applyModesel (im : Image) (ix : Nat) (b : Block) (r : ModeRes) (s : State) : State :=
  answerMode r (takeModesel im ix b r s)

/-- The remote restart of an SFL_IN block taken over in this scan (R206, R233). -/
def takeRestart (mode : Mode) (ix : Nat) (b : Block) (s : State) : State :=
  let n := b.params.conn.val
  let c := getCons n s
  let given := rsReady mode s b
  let reason : Nat := if mode = .auto then 7 else 6
  let s := updCons n (fun c => { c with rrNow := c.rrNext, rrNext := none, rrBad := [], lost := false }) s
  let s := c.rrBad.foldl (fun s seq => rejectRemote n reason seq s) s
  match c.rrNow with
  | none => s
  | some seq =>
    if given then raise 235 0x0701 .notice (argOf (blockArg ix b ++ [(3, 1), (4, seq.toNat)])) s
    else rejectRemote n reason seq s

/-- The hour counter of a brake restarts (R182). -/
def clearBrake (i : Nat) (s : State) : State :=
  setItem (fun q => { q with brMinutes := updVec q.brMinutes i (fun _ => 0) }) s

/-- What a block reports (R174): its events, where a brake's hour counter stands behind them once that is stored (R182, R247). -/
def reportBlk (im : Image) (ix : Nat) (b : Block) (r : BlkRes) (s : State) : State :=
  let s := if r.brReset then clearBrake (2 * b.params.brakePort.val + b.params.brakeIx.val) s else s
  raiseBlk im ix b r.evs (if b.type == .sbc && !r.evs.isEmpty then storedFirst s else s)

/-- One block evaluated in the new mode (R164): its results and its state words written and checked, its events raised. Remote
restarts are judged in the given mode. -/
def runBlock (im : Image) (dOld d k : Word) (mode : Mode) (ix : Nat) (p : Work × State) : Work × State :=
  if p.1.fail.isSome then p
  else match im.blocks[ix]? with
    | none => p
    | some b =>
      let x := readInputs im dOld d ix b.ins p.1
      let vals := x.1.map quotU
      let y := readStates im dOld d ix b.states { work := x.2, st := stAt p.1.sts b ix, mode := p.2.en.mode, us := [] }
      let rs := rsReady mode p.2 b
      let m := evalModesel (modeIn p.2 im b vals y.st.first) y.mode
      let r := evalBlock (blkCtx p.2 im k m.outs rs b) b vals y.st
      let s := if b.type = .modesel then applyModesel im ix b m p.2 else p.2
      let s := if b.type = .sflIn then takeRestart mode ix b s else s
      let s := reportBlk im ix b r s
      let w := writeOuts im d ix b x.1 y.us r.outs { y.work with sts := y.work.sts.set ix r.st }
      (writeStates im d ix b x.1 y.us r.st m.st w, s)

/-- One block evaluated with the old mode's MODESEL outputs; only its words count (R198). The remote restarts are those of
the new evaluation. -/
def runBlockOld (im : Image) (dOld d k : Word) (start : State) (oldOuts : List Nat) (newSts : List BlockSt) (ix : Nat)
    (w : Work) : Work :=
  match im.blocks[ix]? with
  | none => w
  | some b =>
    let x := readInputs im dOld d ix b.ins w
    let y := readStates im dOld d ix b.states { work := x.2, st := stAt w.sts b ix, mode := start.en.mode, us := [] }
    let rs := lastOut (stAt newSts b ix) 67 == 1 && b.type == .sflIn
    let r := evalBlock (blkCtx start im k oldOuts rs b) b (x.1.map quotU) y.st
    writeStates im d ix b x.1 y.us r.st y.mode (writeOuts im d ix b x.1 y.us r.outs { y.work with sts := y.work.sts.set ix r.st })

/-! ## Take-over (R155) -/

/-- The level of an input as the engine takes it over: 0 on a link that is not up. -/
def levelOf (s : State) (x : InputBind) : Nat :=
  let l := getLink x.port.val s
  if l.phase = 6 then (l.levels.getLsbD x.ix.val).toNat else 0

/-- Every port input encoded under its signal's signature (R155). -/
def encodeInputs (s : State) (im : Image) (d : Word) (w : Work) : Work :=
  im.inputs.foldl (fun w x =>
    { w with words := w.words.set x.sig (encodeWord (levelOf s x) (sigAt im x.sig).sig d), fresh := x.sig :: w.fresh }) w

/-- The folds due at this scan start (R151): those of links whose first RUN frame has gone out; a result of 0 is skipped. -/
def applyFolds (d : Word) (ls : List Link) : Word :=
  ls.foldl (fun d l =>
    match l.fold with
    | some v => if l.runSent = 0 ∨ d ^^^ v = 0 then d else d ^^^ v
    | none => d) d

/-- The folds used, or discarded with a failed scan. -/
def clearFolds (s : State) : State :=
  { s with links := s.links.map (fun l => if l.runSent = 0 then l else { l with fold := none }) }

/-! ## Coding failures in a scan (R158) -/

/-- A failure found in scan k: CODE_CHECK_FAIL with EN_CHECK and the scan number. -/
def scanFailure (signal kind block : Nat) (k : Word) (s : State) : State :=
  let w := checkWord signal kind block 0
  codingFailure 0x01 w (BitVec.ofNat 8 block) 0x0011 (argOf [(0, w.toNat), (4, k.toNat)]) s

/-! ## Publish (R156, R157, R161) -/

/-- The signal's operand u in this scan. -/
def sigU (im : Image) (d : Word) (words : List Word) (i : Nat) : Word := uOf (words[i]?.getD 0) (sigAt im i).sig d

/-- The code of an operand u of an output signal: (oc + M) mod 2^16 with M = P − A − B − D (R156). -/
def codeOf (p : Half) (u : Word) : Half := u.setWidth 16 + p - BitVec.ofNat 16 codeA

/-- The operand of a brake's output signal: 1 where the state releases (R156). -/
def brakeU (u : Word) (v : Nat) : Word := BitVec.ofNat 32 ((releases v).toNat * codeA + remU u)

/-- One binding published: hold, hand-over and refusal applied (R128, R156, R198 to R200). -/
structure Sent where
  value : Nat
  u     : Word

/-- The channel of a binding among the 48. -/
def OutBind.index (b : OutBind) : Nat := 6 * b.port.val + b.ch.val

/-- The operating hours of a channel since its last opening test. -/
def channelHours (i : Nat) (s : State) : Nat := (s.nv.live.chMinutes[i]?.getD 0) / 60

/-- An ON demand on a refused channel is journalled once (R128). -/
def noteRefused (b : OutBind) (on : Bool) (s : State) : State :=
  if on && !s.en.demanded.getLsbD b.index then
    raise b.source 0x0206 .warning (argOf [(0, channelHours b.index s)])
      { s with en := { s.en with demanded := s.en.demanded ||| ((1 : BitVec 48) <<< b.index) } }
  else s

/-- The code and the brake state of a channel put into its link's transmit buffer, once the link has carried a RUN frame
before this phase 4 (R157). -/
def putCode (b : OutBind) (k : Word) (x : Sent) (s : State) : State :=
  updLink b.port.val (fun l =>
    let p := onCode l.seed k b.ch.val
    let l := { l with codes := l.codes.set b.ch.val (codeOf p x.u) b.ch.isLt }
    if b.ch.val < 4 then l
    else { l with brState := updVec l.brState (b.ch.val - 4) (fun _ => BitVec.ofNat 2 x.value) }) s

/-- One binding in phase 4. -/
def publishBind (im : Image) (d k : Word) (words : List Word) (old : Option (List Word)) (ix : Nat) (b : OutBind)
    (s : State) : State :=
  let u := sigU im d words b.sig
  let new := quotU u
  let oldV := match old with
    | some w => quotU (sigU im d w b.sig)
    | none => new
  let h := s.dev.handover
  let rst := match b.hoRst with
    | some i => quotU (sigU im d words i)
    | none => 0
  let r := holdScan b h oldV new rst (s.en.holds.contains ix)
  let refused := (getLink b.port.val s).refused.getLsbD b.ch.val
  let s := if refused then noteRefused b (bindOn b.brake r.sent) s else s
  let value := if refused && bindOn b.brake r.sent then 0 else r.sent
  let u' : Word := if value = new && !b.brake then u
    else if b.brake then brakeU u value
    else BitVec.ofNat 32 (codeA * value + remU u)
  let holds := s.en.holds.filter (· != ix)
  let diff := s.en.mode.diff
  let diff := if h ≠ 0 ∧ oldV ≠ new ∧ diff.all (fun x => x.1 != ix) then diff ++ [(ix, oldV, new, 3 - h)] else diff
  let s := { s with en := { s.en with holds := if r.held then holds ++ [ix] else holds,
                                      mode := { s.en.mode with diff := diff } } }
  putCode b k { value := value, u := u' } s

/-- MODE_DISAGREE and MODE_HOLD in scan j + 1 (R199, R200): the holds are those placed in this scan. -/
def handoverEvents (before : List Nat) (s : State) : State :=
  if s.dev.handover = 1 then
    let s := noteDisagree s
    let placed := s.en.holds.filter (fun ix => !before.contains ix)
    placed.foldl (fun s ix => raise 234 0x0604 .notice (argOf [(0, bindSource ix s), (2, BlockType.modesel.code)]) s) s
  else s

/-- The AUX bits of port p, from the new-mode values (R170, R198). -/
def auxBits (im : Image) (d : Word) (words : List Word) (p : Nat) : BitVec 4 :=
  im.auxs.foldl (fun (a : BitVec 4) x =>
    if x.port.val ≠ p then a
    else if quotU (sigU im d words x.sig) = 1 then a ||| ((1 : BitVec 4) <<< x.ix.val)
    else a &&& ~~~((1 : BitVec 4) <<< x.ix.val)) 0

/-- The AUX bits of each link. -/
def publishAux (im : Image) (d : Word) (words : List Word) (s : State) : State :=
  { s with links := s.links.mapIdx (fun p l => { l with aux := auxBits im d words p }) }

/-- The decoded values of all signals (R161). -/
def snapshotOf (im : Image) (d k : Word) (words : List Word) : Snapshot :=
  { scan := k, values := (List.range im.signals.length).map (fun i =>
      let u := sigU im d words i
      if remU u = 0 then BitVec.ofNat 16 (quotU u) else 0) }

/-- The snapshot published: into the other buffer while the host holds one (R161). -/
def publishSnap (v : Snapshot) (s : State) : State :=
  { s with en := { s.en with snapNew := some v, snapRead := if s.en.hold then s.en.snapRead else some v } }

/-! ## Producers in phase 4 (R226, R227) -/

/-- The payload of an SFL_OUT block in one evaluation: safe bits, words, RR. -/
def payloadOf (im : Image) (d : Word) (words : List Word) (b : Block) : Nat × Nat × Nat × Nat :=
  let v (k : Nat) : Nat := match (b.ins[k]?).join with
    | some i => quotU (sigU im d words i)
    | none => 0
  (((List.range 64).map (fun k => v k % 2 * 2 ^ k)).sum, v 64, v 65, v 66)

/-- The payload with the hand-over's combination (R198); RR is combined as a safe bit (log entry 24). -/
def payloadIn (im : Image) (d : Word) (words : List Word) (old : Option (List Word)) (b : Block) : Nat × Nat × Nat × Nat :=
  let n := payloadOf im d words b
  match old with
  | none => n
  | some w =>
    let o := payloadOf im d w b
    (n.1 &&& o.1, combineWord o.2.1 n.2.1, combineWord o.2.2.1 n.2.2.1, n.2.2.2 &&& o.2.2.2)

/-- A producer in phase 4: its frame becomes due (R226). RR has risen from the value that its state signal held (R164, R189); in a
hand-over scan both evaluations must show it. -/
def markProducer (im : Image) (d : Word) (words : List Word) (old : Option (List Word)) (rose : Bool) (b : Block)
    (s : State) : State :=
  let n := b.params.conn.val
  let v := payloadIn im d words old b
  let p := getProd n s
  let edge := rose && v.2.2.2 == 1
  match (im.producers[n]?).join with
  | none => s
  | some q =>
    let pay : DWord × Half × Half := (BitVec.ofNat 64 v.1, BitVec.ofNat 16 v.2.1, BitVec.ofNat 16 v.2.2.1)
    let due := p.last.isNone || decide (scansOf (periodUs im.scanPer.val) q.tPi ≤ p.since + 1)
      || (q.onChange && p.last != some pay) || edge
    if !p.running then s
    else if due then
      let f : SflFrame :=
        { dest := q.dest, src := nodeId s, cid := p.cid, seq := p.nextSeq, isNew := decide (0 < p.newLeft), rr := edge,
          ts := s.tb.holds, stamp := s.tb.counter.setWidth 32, bits := pay.1, w0 := pay.2.1, w1 := pay.2.2 }
      updProd n (fun p => { p with due := some f }) s
    else updProd n (fun p => { p with since := p.since + 1 }) s

/-! ## The scan (R146) -/

/-- The values of a configuration without bindings on a channel: no output code is formed for it. -/
def idleCodes (k : Word) (s : State) : State :=
  { s with links := s.links.map (fun l =>
      { l with codes := Vector.ofFn (fun c : Fin 6 => onCode l.seed k c.val ^^^ 1), brState := Vector.replicate 2 0,
               scanned := l.scanned || (l.phase == 6 && decide (0 < l.runSent)) }) }

/-- The CRC-32 over the destination indices in evaluation order, two bytes each (R153, log entry 25). -/
def destCrc (dests : List Nat) : Word := crc32 (dests.reverse.flatMap (fun i => leBytes 2 i))

/-- Phase 4 (Table 7-1). -/
def publish (im : Image) (d k : Word) (w : Work) (old : Option (List Word)) (execUs : Half) (s : State) : State :=
  let before := s.en.holds
  let s := idleCodes k s
  let s := (List.range im.outs.length).foldl (fun s i =>
    match im.outs[i]? with
    | some b => publishBind im d k w.words old i b s
    | none => s) s
  let s := handoverEvents before s
  let s := publishAux im d w.words s
  let s := publishSnap (snapshotOf im d k w.words) s
  let s := (List.range im.blocks.length).foldl (fun s i =>
    match im.blocks[i]? with
    | some b => if b.type = .sflOut then markProducer im d w.words old (stAt w.sts b i).armed b s else s
    | none => s) s
  { s with en := { s.en with scanNo := k, published := true, execLast := execUs, execMax := if s.en.execMax < execUs then execUs else s.en.execMax } }

/-- The scan start: the hand-over moves on, due frames are placed, inbound frames are judged (R197, R226, R229). -/
def scanStart (s : State) : State := takeIn (sendAllDue { s with dev := { s.dev with handover := s.dev.handover - 1 } })

/-- D_k of the scan that starts (R151). -/
def scanSeed (s : State) : Word := lfsrNext (applyFolds s.en.lfsr s.links.toList)

/-- The bits that flip in the words' memory. -/
def flipWords (flips : List (Nat × Word)) (words : List Word) : List Word :=
  flips.foldl (fun w x => w.modify x.1 (· ^^^ x.2)) words

/-- The take-over (R155), and the memory upsets of this scan. -/
def scanInputs (e : ScanEnv) (im : Image) (d : Word) (s : State) : Work :=
  let w := encodeInputs s im d { words := s.en.words, fresh := [], sts := s.en.blocks, count := 0, dests := [], fail := none }
  { w with words := flipWords e.flips w.words }

/-- The order of evaluation: the compiler's (R164), unless a fault of the engine breaks it. -/
def scanOrder (e : ScanEnv) (im : Image) : List Nat := e.misorder.getD im.order

/-- The blocks evaluated in the new mode, remote restarts judged in the given mode. -/
def scanFold (e : ScanEnv) (im : Image) (mode : Mode) (s : State) : Work × State :=
  (scanOrder e im).foldl (fun p ix => runBlock im s.en.lfsr (scanSeed s) (s.en.scanNo + 1) mode ix p)
    (scanInputs e im (scanSeed s) s, clearFolds s)

/-- The mode of this scan: MODESEL's decision in it, wherever MODESEL stands in the order (R197, R206, log entry 93). -/
def scanMode (e : ScanEnv) (im : Image) (s : State) : Mode :=
  if im.blocks.any (fun b => b.type == .modesel) then (scanFold e im s.dev.mode s).2.dev.mode else s.dev.mode

/-- The evaluation in the new mode, from a started scan (R164). -/
def scanEval (e : ScanEnv) (im : Image) (s : State) : Work × State := scanFold e im (scanMode e im s) s

/-- What the close of the scan finds: signal, kind and block of the first failure (R153, R154, Table 7-4). A fault of the checker,
the coder or the operators shows as a test that fails. -/
def scanVerdict (e : ScanEnv) (im : Image) (d : Word) (n : BitVec 4) (w : Work) : Option (Nat × Nat × Nat) :=
  match w.fail with
  | some f => some f
  | none =>
    if w.count ≠ im.resultCount ∨ destCrc w.dests ≠ im.resultCrc then some (0, 3, 0)
    else if !(e.canaryRejected && canaryRejected) then some (0, 4, 0)
    else if !(e.coderOk && coderPasses d) then some (0, 5, 0)
    else if !(e.operatorOk && (opVector n).passes d) then some (0, 6, 0)
    else none

/-- MODESEL's EN as this scan took it over. -/
def serviceEn (im : Image) (w : Work) : Bool := (im.blocks.zip w.sts).any (fun x => x.1.type == .modesel && inp x.2.prev 3 == 1)

/-- The words of the old mode's evaluation in a hand-over scan (R198). -/
def scanOld (e : ScanEnv) (im : Image) (s : State) (w : Work) (after : State) : Option (List Word) :=
  if after.dev.handover = 0 then none
  else
    let outs := oldModeOuts after.en.mode (serviceEn im w)
    some ((scanOrder e im).foldl (fun v ix =>
      runBlockOld im s.en.lfsr (scanSeed s) (s.en.scanNo + 1) (clearFolds s) outs w.sts ix v) (scanInputs e im (scanSeed s) s)).words

/-- The end of a scan that passed: the image is kept, and phase 4 publishes. -/
def scanPublish (e : ScanEnv) (im : Image) (s : State) (w : Work) (after : State) : State :=
  publish im (scanSeed s) (s.en.scanNo + 1) w (scanOld e im s w after) e.execUs
    { after with en := { after.en with lfsr := scanSeed s, words := w.words, blocks := w.sts, opVector := after.en.opVector + 1 } }

/-- The end of a scan that failed: what phases 1 and 2 wrote stays, the LFSR has advanced, and a fold due in this scan is
discarded (R151). -/
def scanFailed (f : Nat × Nat × Nat) (s : State) (w : Work) (after : State) : State :=
  scanFailure f.1 f.2.1 f.2.2 (s.en.scanNo + 1)
    { after with en := { after.en with lfsr := lfsrNext s.en.lfsr, words := w.words, blocks := w.sts,
                                       opVector := after.en.opVector + 1 } }

/-- Phases 1 to 4 of a scan, from its start. -/
def scanPhases (e : ScanEnv) (im : Image) (s : State) : State :=
  let r := scanEval e im s
  match scanVerdict e im (scanSeed s) s.en.opVector r.1 with
  | some f => scanFailed f s r.1 r.2
  | none => scanPublish e im s r.1 r.2

/-- A released scan. -/
def scanBody (e : ScanEnv) (im : Image) (s : State) : State := scanPhases e im (scanStart s)

/-- The due scan of a halted core without a release: the engine stops, without SCAN_OVERRUN, and with it holds and a hand-over end
(R147, R199, R373, log entry 91). -/
def haltedStop (s : State) : State :=
  let s := noteDisagree s
  { s with en := { s.en with scanning := false, haltScan := false, haltedRun := true, holds := [] },
           dev := { s.dev with faultCode := 0x07, handover := 0 } }

/-- SCAN_OVERRUN at a due scan start (R147): byte 2 is 0 for an unfinished phase 4, 1 for no release. -/
def scanOverrun (e : ScanEnv) (s : State) : State :=
  let byte2 : Nat := if e.phase4Done then 1 else 0
  codingFailure 0x06 (checkWord 0 8 0 0) 0 0x0012 (argOf [(0, e.execUs.toNat), (2, byte2)]) s

/-- A due scan start (R145 to R147): the engine scans in RUN, and for the scan released before a core halt (R373). -/
def scan (e : ScanEnv) (s : State) : State :=
  if !s.en.scanning || s.en.seedWait then s
  else match s.en.image with
    | none => s
    | some im =>
      match s.dev.dvState with
      | .run => if e.released && e.phase4Done then scanBody e im s else scanOverrun e s
      | .debugHalt =>
        if s.dev.heldState = .run then
          if s.en.haltScan && e.released && e.phase4Done then scanBody e im { s with en := { s.en with haltScan := false } }
          else haltedStop s
        else s
      | _ => s

/-! ## Loading an image, and entering RUN (R169) -/

/-- The engine's state for a newly read image: every block as after a reset; whether its host address lies on a window of the
controller is judged anew (R263). -/
def loadImage (im : Option Image) (s : State) : State :=
  let bs := (im.map Image.blocks).getD []
  { s with
    hb := { s.hb with clash := addressClash s.hb.base ((im.map Image.hostAddr).getD 0) }
    en := { s.en with
      image := im, blocks := bs.map BlockSt.fresh, words := ((im.map Image.signals).getD []).map (fun _ => 0),
      holds := [], mode := ModeSt.new } }

/-- The block states at an entry into RUN (R169). -/
def enterStates (im : Image) (old : List BlockSt) : List BlockSt :=
  (List.range im.blocks.length).filterMap (fun i => (im.blocks[i]?).map (fun b => (stAt old b i).entered b))

/-- The words at an entry into RUN: every signal 0, every state word the state of its block. -/
def enterWords (im : Image) (d : Word) (m : ModeSt) (sts : List BlockSt) : List Word :=
  (im.blocks.zip sts).foldl (fun w x => putStates im d x.1 x.2 m w) (im.signals.map (fun g => encodeWord 0 g.sig d))

/-- MODESEL's state at an entry into RUN (R192): a selector fault is kept (R167). -/
def ModeSt.entered (m : ModeSt) : ModeSt := { ModeSt.new with fault := m.fault }

/-- The engine starts to scan (R169, R192): outputs 0, faults kept. -/
def startEngine (im : Image) (s : State) : State :=
  let sts := enterStates im s.en.blocks
  { s with
    en := { s.en with scanning := true, haltedRun := false, words := enterWords im s.en.lfsr s.en.mode.entered sts,
                      blocks := sts, holds := [], mode := s.en.mode.entered },
    links := s.links.map (fun l => { l with scanned := false }),
    dev := { s.dev with handover := 0 } }

/-- Every configured producer draws its CID (R226). -/
def drawProducers (s : State) : State :=
  (List.finRange 32).foldl (fun s (n : Fin 32) =>
    if (prodParams n.val s).isSome then requestProducer n s else s) s

/-- An entry into RUN by the RUN command. -/
def enterRun (why : Nat) (s : State) : State :=
  match s.en.image with
  | none => s
  | some im => drawProducers (setState .run why (startEngine im s))

/-! ## Re-verification (R159, R160) -/

/-- Re-verification ends (R159): REVERIFY_PASSED, or REVERIFY_FAIL and LOCKOUT. -/
def reverifyDone (pass : Bool) (check : Word) (us : Half) (s : State) : State :=
  if s.dev.dvState = .fault ∧ s.en.reverify then
    if pass then
      raise 226 0x0013 .notice (argOf [(0, us.toNat)])
        { s with en := { s.en with reverify := false, reverifyOk := true } }
    else
      let w := (check &&& 0x1FFF0FFF) ||| 0x9000
      let s := raise 226 0x0014 .lockout (argOf [(0, w.toNat)])
        { s with en := { s.en with reverify := false, reverifyOk := false, check := w } }
      enterLockout s.dev.faultCode.toNat s
  else s

/-- 1,440 operating minutes have passed since the last counted failure (R160): the window ends. -/
def windowEnd (s : State) : State :=
  match s.nv.live.failAge with
  | some a => setItem (fun p => { p with failAge := some (max a 1440) }) s
  | none => s

end Sys2Proof.Machine
end

