-- ==== Sys2Proof/Machine/PortInputs.lean ====
section
/-! DEFINITION. The inputs and test-pulse sources of a field port (chapter 5): parameter words as used, the input filter,
settling, dark pulses and their verdicts, latches and learning. -/

namespace Sys2Proof.Machine

/-! ## Parameter words as the port uses them (R102, Tables 5-2, 5-3, 6-7) -/

/-- The limits of a word with a plain range. -/
def wordRange (a : Nat) : Option (Nat × Nat) :=
  if 0x10 ≤ a ∧ a < 0x20 then some (2, 65535)
  else if a = 0x20 then some (1, 125)
  else if 0x44 ≤ a ∧ a < 0x48 then some (50, 1000)
  else if a = 0x48 then some (1, 65535)
  else if a = 0x49 then some (0, 600)
  else if a = 0x4C ∨ a = 0x4D then some (10, 2000)
  else if a = 0x4E ∨ a = 0x4F then some (10, 100)
  else if a = 0x50 ∨ a = 0x51 then some (10, 1000)
  else if a = 0x52 then some (20, 120)
  else none

/-- IN_CFG as used (Table 5-3): TYPE 3 is unused, SRC 9 to 15 is unpulsed, bits 15:8 are reserved. -/
def clampCfg (v : Nat) : Nat :=
  let t := if v % 4 = 3 then 0 else v % 4
  let src := if 8 < v / 8 % 16 then 0 else v / 8 % 16
  t + v / 4 % 2 * 4 + src * 8 + v / 128 % 2 * 128

/-- The value the port uses for a word. -/
def clampWord (a v : Nat) : Nat :=
  if a < 0x10 then clampCfg v
  else if 0x21 ≤ a ∧ a ≤ 0x28 then (if v < 50 then 0 else if 2000 < v then 2000 else v)
  else match wordRange a with
    | some (lo, hi) => if v < lo then lo else if hi < v then hi else v
    | none => v

/-- The word lies outside its limits (R102). -/
def clampBad (a v : Nat) : Bool :=
  if a < 0x10 then v % 4 == 3 || decide (8 < v / 8 % 16)
  else if 0x21 ≤ a ∧ a ≤ 0x28 then (decide (0 < v) && decide (v < 50)) || decide (2000 < v)
  else match wordRange a with
    | some (lo, hi) => decide (v < lo) || decide (hi < v)
    | none => false

/-- A parameter word of the port as used. -/
def PortSt.par (p : PortSt) (a : Nat) : Nat := clampWord a (pword p.words a).toNat

/-- A diagnostic waits for a REFRESH frame (R120). -/
def PortSt.diag (code : Half) (arg : Nat) (p : PortSt) : PortSt :=
  { p with diagq := p.diagq ++ [(code, BitVec.ofNat 16 arg)] }

/-- An input is used (R98, R99). -/
def PortSt.used (p : PortSt) (i : Nat) : Bool := p.par i % 4 != 0
/-- The source an input is assigned to, 1 to 8; 0 unpulsed. -/
def PortSt.srcOf (p : PortSt) (i : Nat) : Nat := p.par i / 8 % 16
/-- An input is used and assigned to source k (1 to 8). -/
def PortSt.onSource (p : PortSt) (k i : Nat) : Bool := p.used i && p.srcOf i == k
/-- The maximum dark time of source k, 1 to 8; 0 disabled. -/
def PortSt.maxDark (p : PortSt) (k : Nat) : Nat := p.par (0x20 + k)

/-- What a word belongs to is in use: an unused input and a disabled channel raise no diagnostic (R99, Table 6-7); but IN_CFG itself
does, whatever its TYPE, as Table 5-3 has it (DESIGN CHOICE, log entry 120). -/
def PortSt.wordUsed (p : PortSt) (a : Nat) : Bool :=
  let en (w : Nat) : Bool := (pword p.words w).getLsbD 0
  if (0x10 ≤ a ∧ a < 0x20) ∨ (0x30 ≤ a ∧ a < 0x40) then p.used (a % 16)
  else if 0x44 ≤ a ∧ a < 0x48 then en (a - 4)
  else if 0x4C ≤ a ∧ a < 0x52 then en (0x4A + a % 2)
  else true

/-- The members of pair n share a source (R100). -/
def PortSt.pairShares (p : PortSt) (n : Nat) : Bool :=
  let a := p.par (2 * n)
  let b := p.par (2 * n + 1)
  p.used (2 * n) && p.used (2 * n + 1) && decide (a / 4 % 2 = 1) && decide (b / 4 % 2 = 1)
    && decide (a / 8 % 16 = b / 8 % 16) && decide (a / 8 % 16 ≠ 0)

/-- Supply flags (Table 4-4). -/
def PortSt.uf1Missing (p : PortSt) : Bool := p.supply.getLsbD 0
/-- Pulse and source diagnostics and latches are suppressed (Table 6-6). -/
def PortSt.pulsesMute (p : PortSt) : Bool := p.supply.getLsbD 0 || p.supply.getLsbD 1
def PortSt.uf1High (p : PortSt) : Bool := p.supply.getLsbD 2
/-- UF2 missing or high: outputs open, tests suspended. -/
def PortSt.uf2Out (p : PortSt) : Bool := p.supply.getLsbD 3 || p.supply.getLsbD 5

/-- The port's logic runs its inputs: it has a clock and has seen a RUN frame since the link start (R105). -/
def PortSt.sampling (p : PortSt) : Bool := p.phase != .silent && p.gotRun
/-- The port may make dark pulses: seeded, with its frame phase adopted (R110). -/
def PortSt.pulsing (p : PortSt) : Bool := p.phase == .seeded && p.gotRun && p.framePhase.isSome

/-- The level LEVELS shows (R99, R100, R104, R105, R117). -/
def PortSt.level (p : PortSt) (i : Nat) : Bool :=
  match p.inputs[i]? with
  | some x => p.used i && x.accepted && !x.settling && !x.latch && !p.pairShares (i / 2)
  | none => false

/-! ## Edge records (R84) -/

/-- A record put in the queue of 32; a full queue discards it, and the run of discards is reported when the queue next
takes a record. -/
def PortSt.pushEdge (r : Word) (p : PortSt) : PortSt :=
  if p.edges.length < 32 then
    let n := p.discards
    let p := { p with edges := p.edges ++ [r], discards := 0 }
    if n = 0 then p else p.diag 0x0110 (satNat 65535 n)
  else { p with discards := p.discards + 1 }

/-! ## Samples (R98, R103, Tables 5-1, 20-5) -/

/-- The voltage, in mV, from which an input of a TYPE surely reads ON (Table 5-1). -/
def sureOn (type : Nat) : Nat := if type = 1 then 15000 else 11000

/-- The OFF level of an input, in mV: 5 V or more, and at least 1 V below the ON level. Where it lies in between is open: a
free value (log entry 87). -/
def offLevel (type : Nat) : Nat := 5000 + Config.inputLevel type 0 % (sureOn type - 5999)

/-- The ON level: at least 1 V above the OFF level, and at most the voltage that surely reads ON. -/
def onLevel (type : Nat) : Nat := offLevel type + 1000 + Config.inputLevel type 1 % (sureOn type - offLevel type - 999)

/-- The input current, in µA, up to which an input reads OFF at any voltage (Table 20-5). -/
def offCurrent (type : Nat) : Nat := if type = 1 then 500 else 1500

/-- The sample of an input of a TYPE: 1 above the ON level, 0 below the OFF level, the previous sample between them. -/
def sampleOf (type : Nat) (prev : Bool) (r : InputRead) : Bool :=
  if r.microAmps ≤ offCurrent type ∨ r.milliVolts ≤ offLevel type then false
  else if onLevel type ≤ r.milliVolts then true
  else prev

/-- A pin that no current enters. -/
def InputRead.none : InputRead := { milliVolts := 0, microAmps := 0 }

/-! ## The input filter (R103, R105) -/

/-- One result of the filter: level, settling result or edge, raw-edge offset. -/
structure FilterOut where
  level  : Bool
  settle : Bool
  rawOfs : Nat
deriving DecidableEq, Repr

/-- The settling run (R105). -/
def InputSt.settleTick (d : Nat) (x : Bool) (s : InputSt) : InputSt × Option FilterOut :=
  let age := match s.setAge with
    | some (v, n) => if v = x then n + 1 else 0
    | none => 0
  if d ≤ age then
    ({ s with accepted := x, settling := false, setAge := none }, some { level := x, settle := true, rawOfs := 0 })
  else ({ s with setAge := some (x, age) }, none)

/-- An age one sample on, or a new one. -/
def nextAge (a : Option Nat) : Nat := (a.map (· + 1)).getD 0

/-- The filter (R103). -/
def InputSt.filterTick (d : Nat) (x : Bool) (s : InputSt) : InputSt × Option FilterOut :=
  if x ≠ s.accepted then
    let raw := nextAge s.rawAge
    let run := nextAge s.runAge
    if d ≤ run then
      ({ s with accepted := x, rawAge := none, runAge := none, backAge := none },
        some { level := x, settle := false, rawOfs := raw })
    else ({ s with rawAge := some raw, runAge := some run, backAge := none }, none)
  else
    match s.rawAge with
    | none => ({ s with runAge := none }, none)
    | some r =>
      let back := nextAge s.backAge
      if d ≤ back then ({ s with rawAge := none, runAge := none, backAge := none }, none)
      else ({ s with rawAge := some (r + 1), runAge := none, backAge := some back }, none)

/-- One sample tick of an input of a TYPE with debounce time d: a blanked input keeps its last sample (R103, R112), the first
samples after a link start are discarded (R105), and without UF1 every input reads 0 (Table 6-6), the held sample standing until
the window ends. A reading between the levels right after a window goes on from what the levels gave within it (DESIGN CHOICE, log
entry 119). -/
def InputSt.tick (type d : Nat) (uf1Missing : Bool) (r : InputRead) (s : InputSt) : InputSt × Option FilterOut :=
  let raw := !uf1Missing && sampleOf type s.rawNow r
  let held := if s.blank then s.sampleNow else raw
  let x := !uf1Missing && held
  let s := { s with rawNow := raw, sampleNow := held }
  if 0 < s.skip then ({ s with skip := s.skip - 1 }, none)
  else if s.settling then s.settleTick d x
  else s.filterTick d x

/-- What a tick's result becomes: a record, unless the input's latch is set or its pair is held (R100, R117). -/
def PortSt.report (i : Nat) (pos : Nat) (o : Option FilterOut) (p : PortSt) : PortSt :=
  match o, p.inputs[i]? with
  | some r, some x =>
    if x.latch || p.pairShares (i / 2) then p
    else p.pushEdge (edgeRecord i r.level r.settle (BitVec.ofNat 4 (pos / 10)) (pos % 10) r.rawOfs)
  | _, _ => p

/-- One sample of input i at a position of the 16-cycle count. -/
def PortSt.sampleTick (i pos : Nat) (r : InputRead) (p : PortSt) : PortSt :=
  match p.inputs[i]? with
  | none => p
  | some x =>
    let y := x.tick (p.par i % 4) (p.par (0x10 + i)) p.uf1Missing r
    PortSt.report i pos y.2 { p with inputs := p.inputs.setIfInBounds i y.1 }

/-- Samples of input i, one a microsecond, the last at a given cycle and sample (R103, R105). -/
def PortSt.feed (i : Nat) (samples : List InputRead) (cyc sample : Nat) (p : PortSt) : PortSt :=
  if p.sampling && p.used i then
    let last := 10 * cyc + sample + 160 * samples.length
    (List.range samples.length).foldl (fun p k =>
      p.sampleTick i ((last - (samples.length - 1 - k)) % 160) (samples[k]?.getD InputRead.none)) p
  else p

/-! ## Inputs and sources at the first RUN frame of a link start (R89, R105, R106) -/

/-- Source k (1 to 8) may be on. -/
def PortSt.sourceOn (p : PortSt) (k : Nat) : Bool := p.maxDark k != 0 && !p.uf1High

/-- The first RUN frame: the filters of the used inputs start from OFF and SETTLING, sources switch on. -/
def PortSt.startInputs (p : PortSt) : PortSt :=
  { p with
    inputs := p.inputs.mapIdx (fun i _ =>
      if p.used i then { InputSt.new with skip := 20 } else { InputSt.new with settling := false }),
    sources := p.sources.mapIdx (fun k _ => { SourceSt.new with on := p.sourceOn (k + 1) }) }

/-! ## Latches -/

/-- Input i's fault latch set (R113, R117). -/
def PortSt.latchInput (i : Nat) (p : PortSt) : PortSt :=
  { p with inputs := updVec p.inputs i (fun x => { x with latch := true, cleanNow := 0, cleanFrames := 0 }) }

/-- Every input of source k latched. -/
def PortSt.latchSource (k : Nat) (p : PortSt) : PortSt :=
  (List.range 16).foldl (fun p i => if p.onSource k i then p.latchInput i else p) p

/-! ## Pulse frames and dark pulses (R107 to R117) -/

/-- Table 5-4: the source dark in a slot. -/
def slotSource (slot : Nat) : Nat :=
  ([1, 2, 3, 4, 5, 4, 2, 6, 1, 3, 5, 6, 7, 8, 8, 7] : List Nat)[slot % 16]?.getD 0

/-- The port and source that own a sub-window (R107, R108). -/
def subWindowOwner (w : Nat) : Nat × Nat := (w % 8, slotSource (w / 8))

/-- A frame ends (R117): it was clean where both dark pulses of the input's source in it were. -/
def InputSt.frameEnd (x : InputSt) : InputSt :=
  { x with cleanNow := 0, cleanFrames := if x.cleanNow = 2 then x.cleanFrames + 1 else 0 }

/-- A clean dark pulse (R117): the second one of the second clean frame in a row clears a latch, which the flag tells. -/
def InputSt.cleanPulse (x : InputSt) : InputSt × Bool :=
  if x.latch && decide (1 ≤ x.cleanFrames) && decide (1 ≤ x.cleanNow) then
    ({ x with latch := false, cleanNow := 0, cleanFrames := 0 }, true)
  else ({ x with cleanNow := x.cleanNow + 1 }, false)

/-- The frame start of source k (R116): a shorted source that has stood at full voltage for a whole frame is cleared; one
that is off is retried. A source that was switched off while UF1 muted SOURCE_SHORT is cleared with its SOURCE_CLEARED all the same
(DESIGN CHOICE, log entry 121). -/
def PortSt.retrySource (full : BitVec 8) (k : Nat) (p : PortSt) : PortSt :=
  match p.sources[k - 1]? with
  | none => p
  | some x =>
    if !x.shorted then p
    else if x.on && full.getLsbD (k - 1) && !p.pulsesMute then
      { p with sources := p.sources.setIfInBounds (k - 1) { x with shorted := false } }.diag 0x0116 (k - 1)
    else { p with sources := p.sources.setIfInBounds (k - 1) { x with on := p.sourceOn k } }

/-- A pulse frame starts (R116, R117). -/
def PortSt.frameStart (full : BitVec 8) (p : PortSt) : PortSt :=
  if p.pulsing then
    (List.range 8).foldl (fun p k => p.retrySource full (k + 1)) { p with inputs := p.inputs.map InputSt.frameEnd }
  else p

/-- A period code of TP_PERIOD as half-microseconds of one sub-window (R107): n × 62.5 µs. -/
def halfWindow (n : Nat) : Nat := 125 * n

/-- The position in the pulse frame, in µs, at time t of the clock (R110). -/
def PortSt.framePos (t : Nat) (p : PortSt) : Nat :=
  ((p.framePhase.map BitVec.toNat).getD 0 + (t - p.phaseAt)) % (8000 * p.par 0x20)

/-- Position pos lies within ±1 µs of the start of sub-window w, round the end of the frame. -/
def nearWindow (n pos w : Nat) : Bool :=
  let d := (2 * pos + 256 * 125 * n - halfWindow n * w) % (128 * halfWindow n)
  decide (d ≤ 2) || decide (128 * halfWindow n ≤ d + 2)

/-- A sub-window of source k (1 to 8) on this port starts at position pos: one in each of its two slots (R107, R108). -/
def PortSt.windowStarts (k pos : Nat) (p : PortSt) : Bool :=
  (List.range 16).any (fun slot => slotSource slot == k && nearWindow (p.par 0x20) pos (8 * slot + p.straps.toNat))

/-- The sub-window that position pos lies in. -/
def PortSt.windowAt (pos : Nat) (p : PortSt) : Nat := 2 * pos / halfWindow (p.par 0x20) % 128

/-- An input at the start of a dark pulse of its source (R111, R112): what its levels gave at the last sample before is held,
and an input held at 1 is noted. -/
def InputSt.darkStart (type : Nat) (uf1Missing : Bool) (r : InputRead) (x : InputSt) : InputSt :=
  let raw := !uf1Missing && sampleOf type x.rawNow r
  let held := if x.blank then x.sampleNow else raw
  { x with rawNow := raw, sampleNow := held, noted := !uf1Missing && held, blank := true, blankEnd := none }

/-- A dark pulse of source k (1 to 8) starts at time t (R106, R107, R108, R111): in its own sub-window, no other being dark. -/
def PortSt.darkStart (t k : Nat) (rs : List InputRead) (p : PortSt) : PortSt :=
  match p.sources[k - 1]? with
  | none => p
  | some x =>
    if p.pulsing && x.on && p.sources.all (fun y => !y.dark) && p.maxDark k != 0 && p.windowStarts k (p.framePos t) then
      { p with
        sources := p.sources.setIfInBounds (k - 1) { x with dark := true, darkAt := t },
        inputs := p.inputs.mapIdx (fun i y =>
          if p.onSource k i then y.darkStart (p.par i % 4) p.uf1Missing (rs[i]?.getD InputRead.none) else y) }
    else p

/-- The samples that the ticks of a dark pulse give input i, the sample before them being prev (R98, R103). -/
def darkSamples (type i : Nat) (uf1Missing : Bool) : Bool → List DarkTick → List Bool
  | _, [] => []
  | prev, d :: r =>
    let x := !uf1Missing && sampleOf type prev (d.inputs[i]?.getD InputRead.none)
    x :: darkSamples type i uf1Missing x r

/-- The first of the first two consecutive samples of 0, the first sample having number n (R111). -/
def firstDark : Nat → List Bool → Option Nat
  | n, x :: y :: r => if !x && !y then some n else firstDark (n + 1) (y :: r)
  | _, _ => none

/-- The first tick from number m on at which the source pin reads below 5 V, the first tick having number n. -/
def firstLow (m : Nat) : Nat → List DarkTick → Option Nat
  | _, [] => none
  | n, d :: r => if m ≤ n ∧ d.pinMilliVolts < 5000 then some n else firstLow m (n + 1) r

/-- The tick at which a dark pulse ends (R111): the first at which the pin is low and every noted input has given its two
samples of 0 (decays lists the tick of the first of them), or the maximum dark time; none while neither has come. -/
def darkEndTick (maxDark : Nat) (decays : List (Option Nat)) (ticks : List DarkTick) : Option Nat :=
  let byItself := if decays.all Option.isSome then firstLow ((decays.map (fun d => d.getD 0 + 1)).foldl max 0) 0 ticks else none
  match byItself with
  | some e => if e < maxDark then some e else if maxDark < ticks.length then some maxDark else none
  | none => if maxDark < ticks.length then some maxDark else none

/-- The degradation check of one measured decay (R119): the input after it, and whether CABLE_DEGRADED is raised. -/
def InputSt.degrade (learned decay : Nat) (x : InputSt) : InputSt × Bool :=
  let worse := decide (3 * learned < decay)
  let n := if worse then x.degraded + 1 else 0
  let h := if decay ≤ 2 * learned then x.healthy + 1 else 0
  if 4 ≤ n ∧ ¬ x.degShown then ({ x with degraded := n, healthy := h, degShown := true }, true)
  else ({ x with degraded := n, healthy := h, degShown := x.degShown && decide (h < 16) }, false)

/-- One of the 64 dark pulses measured for learning, as it ends (R118): the input was 0 at its start (reason 1), it reached
the maximum dark time (reason 2), or it gives a decay. -/
def InputSt.learnPulse (decay : Nat) (toMax : Bool) (x : InputSt) : InputSt :=
  if x.learning && decide (x.learnData.length < 64) then
    let why := if !x.noted then 1 else if toMax then 2 else 0
    { x with learnData := x.learnData ++ [decay], learnFail := if x.learnFail = 0 then why else x.learnFail }
  else x

/-- The recovery allowance of input i (R112). -/
def PortSt.allowance (i : Nat) (p : PortSt) : Nat := if p.par (0x30 + i) = 0 then 50 else max 10 (2 * p.par (0x30 + i))

/-- Input i when a dark pulse of its source ends at time at: the window's last sample is set (R112), what it measured is
learned (R118). -/
def PortSt.endInput (i at_ decay : Nat) (toMax last : Bool) (p : PortSt) : PortSt :=
  let until_ := at_ + p.allowance i
  { p with inputs := updVec p.inputs i (fun x => { x.learnPulse decay toMax with rawNow := last, blankEnd := some until_ }) }

/-- The verdict on one input of source k whose pin fell below 5 V (R113, R117, R119). It was seen at 0 where it gave two
consecutive samples of 0, the sight of R111 (DEDUCED, log entry 88). -/
def PortSt.judgeInput (k i : Nat) (decay : Option Nat) (p : PortSt) : PortSt :=
  match p.inputs[i]? with
  | none => p
  | some x =>
    if !x.noted then p
    else match decay with
      | none => (p.diag 0x0101 (i + 16 * (k - 1))).latchInput i
      | some n =>
        let c := x.cleanPulse
        let learned := p.par (0x30 + i)
        let checks := decide (p.par i / 128 % 2 = 1) && learned != 0
        let r := if checks then c.1.degrade learned n else (c.1, false)
        let p := { p with inputs := p.inputs.setIfInBounds i r.1 }
        let p := if r.2 then p.diag 0x0102 (i + 16 * satNat 4095 n) else p
        if c.2 then p.diag 0x0105 i else p

/-- A dark pulse of source k ends and is judged (R111, R113); while UF1 is missing or low it gives no verdict. Nothing ends
while neither condition of R111 has come. -/
def PortSt.darkEnd (k : Nat) (ticks : List DarkTick) (p : PortSt) : PortSt :=
  match p.sources[k - 1]? with
  | none => p
  | some x =>
    if !x.dark then p
    else
      let mine := (List.range 16).filter (fun i => p.onSource k i)
      let seen (i : Nat) : List Bool :=
        darkSamples (p.par i % 4) i p.uf1Missing ((p.inputs[i]?.map InputSt.rawNow).getD false) ticks
      let noted := mine.filter (fun i => (p.inputs[i]?.map InputSt.noted).getD false)
      match darkEndTick (p.maxDark k) (noted.map (fun i => firstDark 0 (seen i))) ticks with
      | none => p
      | some e =>
        let decay (i : Nat) : Option Nat := firstDark 0 ((seen i).take (e + 1))
        let toMax := decide (p.maxDark k ≤ e)
        let pinLow := decide (((ticks[e]?).map DarkTick.pinMilliVolts).getD 0 < 5000)
        let p := { p with sources := p.sources.setIfInBounds (k - 1) { x with dark := false } }
        let p := mine.foldl (fun p i =>
          p.endInput i (x.darkAt + e) ((decay i).getD 0) toMax ((seen i)[e]?.getD false)) p
        if p.pulsesMute then p
        else if !pinLow then (p.diag 0x0111 (k - 1)).latchSource k
        else mine.foldl (fun p i => p.judgeInput k i (decay i)) p

/-- An input whose dark pulse is abandoned without a verdict: the pulse leaves no window and counts for nothing. -/
def InputSt.abandoned (dark : Bool) (x : InputSt) : InputSt :=
  if dark then { x with noted := false, blank := false, blankEnd := none } else x

/-- Every dark pulse in progress abandoned without a verdict (Table 6-6, R95). -/
def PortSt.abandonPulses (p : PortSt) : PortSt :=
  let dark (i : Nat) : Bool := ((p.sources[p.srcOf i - 1]?).map SourceSt.dark).getD false && p.srcOf i != 0
  { p with sources := p.sources.map (fun x => { x with dark := false }),
           inputs := p.inputs.mapIdx (fun i x => x.abandoned (dark i)) }

/-- The sources off, a dark pulse abandoned (Table 6-6). -/
def PortSt.sourcesOff (p : PortSt) : PortSt :=
  { p.abandonPulses with sources := p.abandonPulses.sources.map (fun x => { x with on := false }) }

/-- The sources on again after UF1 high; a shorted one waits for its retry (R116). -/
def PortSt.sourcesBack (p : PortSt) : PortSt :=
  { p with sources := p.sources.mapIdx (fun k x => { x with on := p.gotRun && p.sourceOn (k + 1) && !x.shorted }) }

/-- The blanking window of an input is over at time t: its last sample is behind (R112). -/
def InputSt.blankOver (t : Nat) (x : InputSt) : InputSt :=
  match x.blankEnd with
  | some e => if e ≤ t then { x with blank := false, blankEnd := none } else x
  | none => x

/-- The blanking window of input i ends at time t; a new dark pulse of its source has opened a new one (R112). -/
def PortSt.blankEnd (t i : Nat) (p : PortSt) : PortSt := { p with inputs := updVec p.inputs i (fun x => x.blankOver t) }

/-- A current rise of source k of port n at time t inside a sub-window of another source (R114). -/
def PortSt.crossShort (t n k : Nat) (p : PortSt) : PortSt :=
  let own := subWindowOwner (p.windowAt (p.framePos t))
  match p.sources[k - 1]? with
  | some x =>
    if p.pulsing && x.on && !x.dark && !p.pulsesMute && own != (n, k) then
      p.diag 0x0112 ((k - 1) + 8 * own.1 + 64 * (own.2 - 1))
    else p
  | none => p

/-- A source held low or in current limit (R116). -/
def PortSt.sourceShort (k : Nat) (p : PortSt) : PortSt :=
  match p.sources[k - 1]? with
  | some x =>
    if p.sampling && x.on && !x.dark then
      let p := { p with sources := p.sources.setIfInBounds (k - 1) { x with on := false, shorted := true } }
      if p.pulsesMute then p else (p.diag 0x0115 (k - 1)).latchSource k
    else p
  | none => p

/-! ## Learning (R118) -/

/-- LEARN_REQ: every used input of a selected source starts to learn with the source's next dark pulse. -/
def PortSt.startLearn (mask : Byte) (p : PortSt) : PortSt :=
  { p with
    learnReq := mask,
    inputs := p.inputs.mapIdx (fun i x =>
      if p.used i && p.srcOf i != 0 && mask.getLsbD (p.srcOf i - 1) then
        { x with learning := true, learnData := [], learnFail := 0 }
      else x) }

/-- A number put into a rising list. -/
def insertRising (a : Nat) : List Nat → List Nat
  | [] => [a]
  | b :: l => if a ≤ b then a :: b :: l else b :: insertRising a l

/-- The median of an even number of measurements, rounded up to 1 µs. -/
def medianUp (l : List Nat) : Nat :=
  let m := l.foldr insertRising []
  let n := m.length / 2
  ((m[n - 1]?.getD 0) + (m[n]?.getD 0) + 1) / 2

/-- The largest and the smallest measurement. -/
def largest (l : List Nat) : Nat := l.foldl max 0
def smallest (l : List Nat) : Nat := l.foldl min 65535

/-- The reason of a failed learning, 0 for none (R118). -/
def InputSt.learnReason (x : InputSt) : Nat :=
  if x.learnFail ≠ 0 then x.learnFail else if 2 * smallest x.learnData < largest x.learnData then 3 else 0

/-- After 64 dark pulses the median decay or the failure is reported, once UF1's flags let a diagnostic be raised (Table 6-6). -/
def PortSt.learned (i : Nat) (p : PortSt) : PortSt :=
  match p.inputs[i]? with
  | none => p
  | some x =>
    if x.learning && decide (64 ≤ x.learnData.length) && !p.pulsesMute then
      let p := { p with inputs := p.inputs.setIfInBounds i { x with learning := false, learnData := [], learnFail := 0 } }
      if x.learnReason = 0 then p.diag 0x0103 (i + 16 * satNat 4095 (medianUp x.learnData))
      else p.diag 0x0104 (i + 16 * x.learnReason)
    else p

end Sys2Proof.Machine
end

