-- ==== Sys2Proof/Machine/ImageRules.lean ====
section
/-! DEFINITION. The rules of the function block catalogue that STAGE_CONFIG_COMMIT checks (R163, R305): connections,
parameter ranges, and the rules over a whole image. -/

namespace Sys2Proof.Machine

/-! ## Connections -/

/-- The number of inputs and of outputs of a type (chapter 8). -/
def BlockType.inCount : BlockType → Nat
  | .estop | .guard | .lcurt => 3
  | .guardLock => 7
  | .twohand => 4
  | .sbc => 4
  | .edm => 2
  | .restart => 1
  | .modesel => 4
  | .interlock => 9
  | .sflIn => 1
  | .sflOut => 67
  | .and | .or => 8
  | .not | .ton | .tof | .pulse => 1
  | .event => 2
  | .hostsig => 0

def BlockType.outCount : BlockType → Nat
  | .estop | .guard | .lcurt => 2
  | .guardLock => 3
  | .twohand => 1
  | .sbc => 4
  | .edm => 1
  | .restart => 2
  | .modesel => 5
  | .interlock => 1
  | .sflIn => 68
  | .sflOut => 1
  | .and | .or | .not => 1
  | .ton | .tof | .pulse => 2
  | .event => 0
  | .hostsig => 1

/-- The class of input k: BOOL, but for the words of SFL_OUT and the argument of EVENT. -/
def inClass (b : Block) (k : Nat) : SigClass :=
  match b.type with
  | .sflOut => if k = 64 ∨ k = 65 then .word else .bool
  | .event => if k = 1 then .word else .bool
  | _ => .bool

/-- The class of output k. -/
def outClass (b : Block) (k : Nat) : SigClass :=
  match b.type with
  | .sbc => if k = 0 then .bstate else .bool
  | .modesel => if k = 0 then .word else .bool
  | .sflIn => if k = 64 ∨ k = 65 then .word else .bool
  | .ton | .tof | .pulse => if k = 1 then .time else .bool
  | .hostsig => if b.params.isWord then .word else .bool
  | _ => .bool

/-- Every connection names a signal of the image, of the class the connection carries. -/
def connsOk (im : Image) (conns : List (Option Nat)) (cls : Nat → SigClass) : Bool :=
  (List.range conns.length).all (fun k =>
    match (conns[k]?).join with
    | none => true
    | some i => match im.signals[i]? with
      | none => false
      | some g => g.cls == cls k)

/-- The class of a state signal by what it holds (R164). -/
def StateItem.cls (b : Block) : StateItem → SigClass
  | .faultKind | .t1 _ | .t2 _ | .t3 _ | .t4 _ => .word
  | .prev k => inClass b k
  | .out k => outClass b k
  | .mode .pattern | .mode .lastW1 | .mode (.patCount _) | .mode (.badCount _) => .word
  | _ => .bool

/-- Every latch, timer count and previous value of a block is held in a state signal of its class (R164). -/
def statesOk (im : Image) (b : Block) : Bool :=
  b.type.keeps.all (fun x => b.states.any (fun y => y.1 == x))
    && b.states.all (fun y => match im.signals[y.2]? with
      | some g => g.isState && g.cls == y.1.cls b
      | none => false)

/-- The inputs a block must have connected (chapter 8). -/
def requiredIns (b : Block) : List Nat :=
  let p := b.params
  let rst (k : Nat) : List Nat := if p.autoStart then [] else [k]
  match b.type with
  | .estop => [0, 2] ++ (if p.channels = 2 then [1] else [])
  | .guard => [0] ++ (if p.channels = 2 then [1] else []) ++ rst 2
  | .lcurt => [0, 1] ++ rst 2
  | .guardLock => [0, 2] ++ (if p.channels = 2 then [1] else []) ++ (if p.lchannels = 2 then [3] else []) ++ rst 6
  | .twohand => [0, 1, 2, 3]
  | .sbc => [0] ++ (if 0 < p.btInt then [3] else [])
  | .edm => [0, 1]
  | .restart => [0]
  | .modesel => []
  | .interlock => [0, 1]
  | .sflIn => rst 0
  | .sflOut => []
  | .and | .or => []
  | .not | .ton | .tof | .pulse => [0]
  | .event => [0]
  | .hostsig => []

/-- The RST input of a type (Table 8-1). -/
def rstInput (t : BlockType) : Option Nat :=
  match t with
  | .estop | .guard | .lcurt => some 2
  | .guardLock => some 6
  | .sflIn => some 0
  | _ => none

/-- RST takes only output R of a RESTART or output RS of an SFL_IN (R168). -/
def rstSource (im : Image) (i : Nat) : Bool :=
  im.blocks.any (fun c => (c.type == .restart && (c.outs[0]?).join == some i)
    || (c.type == .sflIn && (c.outs[67]?).join == some i))

/-- The port input behind a connection. -/
def portInput (im : Image) (b : Block) (k : Nat) : Option InputBind :=
  match (b.ins[k]?).join with
  | some i => im.inputs.find? (fun x => x.sig == i)
  | none => none

/-- IN_CFG of a port input (Table 5-3): its PAIR bit and its source. -/
def inputCfg (im : Image) (x : InputBind) : Nat := ((im.portWords[x.port.val]?.getD [])[x.ix.val]?.getD 0).toNat
def inputPair (im : Image) (x : InputBind) : Bool := inputCfg im x / 4 % 2 == 1
def inputSource8 (im : Image) (x : InputBind) : Nat := let v := inputCfg im x / 8 % 16; if v ≤ 8 then v else 0

/-- Two port inputs form a dual-channel pair (R100). -/
def dualPair (im : Image) (x y : InputBind) : Bool :=
  let a := inputSource8 im x
  let b := inputSource8 im y
  x.port == y.port && x.ix.val / 2 == y.ix.val / 2 && x.ix != y.ix && inputPair im x && inputPair im y
    && ((a != b && a != 0 && b != 0) || (a == 0 && b == 0))

/-! ## Parameters -/

/-- lo ≤ v ≤ hi. -/
def between (lo v hi : Nat) : Bool := decide (lo ≤ v) && decide (v ≤ hi)

def oneOrTwo (n : Nat) : Bool := n == 1 || n == 2

/-- Parameters in the ranges of chapter 8. -/
def paramsOk (b : Block) : Bool :=
  let p := b.params
  match b.type with
  | .estop => oneOrTwo p.channels && between 10 p.tDisc 2000 && !p.autoStart
  | .guard => oneOrTwo p.channels && between 10 p.tDisc 2000
  | .lcurt => p.channels == 2 && between 10 p.tDisc 500
  | .guardLock => oneOrTwo p.channels && oneOrTwo p.lchannels && between 10 p.tDisc 2000
      && between 0 p.tRundown 60000 && between 10 p.tLock 2000
  | .twohand => between 100 p.tSync 500 && between 20 p.tAnti 500
  | .sbc => between 100 p.tBtest 5000 && between 0 p.btInt 8760
  | .edm => between 10 p.tEdm 1000
  | .restart => between 50 p.tMin 10000 && between 50 p.tMax 10000 && decide (p.tMin < p.tMax)
  | .modesel => between 50 p.tSel 2000
  | .ton | .tof | .pulse => between 0 p.pt 65535
  | .event => between 0 p.n 31 && p.code != 0 && between 0 p.cls 3 && between 0 p.edge 2
  | .hostsig => if p.n = 32 then !p.isWord else between 0 p.n 31 && (p.isWord || decide (p.dflt.toNat ≤ 1))
  | _ => true

/-! ## Rules of single types -/

/-- What chapter 8 and, for the selector contacts of MODESEL, R193 ask of the sources of a block's inputs. -/
def sourcesOk (im : Image) (b : Block) : Bool :=
  let pi := portInput im b
  match b.type with
  | .estop =>
    if b.params.channels = 2 then
      match pi 0, pi 1 with
      | some x, some y => dualPair im x y
      | _, _ => true
    else true
  | .lcurt =>
    match pi 0, pi 1 with
    | some x, some y => inputPair im x && inputPair im y && inputSource8 im x == 0 && inputSource8 im y == 0
    | _, _ => false
  | .twohand =>
    match pi 0, pi 1, pi 2, pi 3 with
    | some w, some x, some y, some z =>
      let src (v : InputBind) : Nat × Nat := (v.port.val, inputSource8 im v)
      let l := [src w, src x, src y, src z]
      l.all (fun v => v.2 != 0) && decide l.Nodup
    | _, _, _, _ => false
  | .restart =>
    match pi 0 with
    | some x => inputSource8 im x != 0
    | none => false
  | .modesel => b.params.reqSrc.getLsbD 0 || !(b.has 0 || b.has 1 || b.has 2)
  | .and | .or => decide (2 ≤ b.ins.countP Option.isSome)
  | _ => true

/-- One block keeps the rules that concern it alone. -/
def blockOk (im : Image) (b : Block) : Bool :=
  decide (b.ins.length ≤ b.type.inCount) && decide (b.outs.length ≤ b.type.outCount)
    && connsOk im b.ins (inClass b) && connsOk im b.outs (outClass b) && statesOk im b
    && (requiredIns b).all (fun k => b.has k)
    && (match rstInput b.type with
        | some k => (match (b.ins[k]?).join with | some i => rstSource im i | none => true)
        | none => true)
    && paramsOk b && sourcesOk im b

/-! ## Rules between blocks -/

/-- An earlier block of the image makes this one a second of its kind (R186, R189, R191). -/
def repeats (im : Image) (ix : Nat) (b : Block) : Bool :=
  (im.blocks.take ix).any (fun c => c.type == b.type &&
    match b.type with
    | .modesel => true
    | .sflIn | .sflOut => c.params.conn == b.params.conn
    | .event => c.params.n == b.params.n
    | .hostsig => c.params.n == b.params.n && c.params.isWord == b.params.isWord
    | _ => false)

/-- The outputs of a block as signal indices. -/
def outSignals (b : Block) : List Nat := b.outs.filterMap id

/-- One pass of R164: the blocks whose inputs all come from placed blocks, state signals or no block. -/
def placeBlocks (im : Image) (placed : List Nat) : List Nat :=
  (List.range im.blocks.length).filter (fun ix =>
    placed.contains ix || match im.blocks[ix]? with
      | none => true
      | some b => b.ins.all (fun o => match o with
        | none => true
        | some i => (sigAt im i).isState ||
          (List.range im.blocks.length).all (fun j => placed.contains j ||
            match im.blocks[j]? with
            | none => true
            | some c => !(outSignals c).contains i)))

/-- The blocks no order can place: they lie on a loop that no state signal breaks, or behind one (R164). -/
def looped (im : Image) : List Nat :=
  let placed := (List.range (im.blocks.length + 1)).foldl (fun p _ => placeBlocks im p) []
  (List.range im.blocks.length).filter (fun ix => !placed.contains ix)

/-! ### Host-derived signals (R172) -/

/-- How a signal is host-derived: 0 not, 1 through AND and TON only, 2 a HOSTSIG output itself, 3 through another block. -/
def hostStep (b : Block) (levels : List Nat) : Nat :=
  let l := b.ins.filterMap (fun o => o.map (fun i => levels[i]?.getD 0))
  match b.type with
  | .hostsig => 2
  | .and | .ton => if l.any (· == 3) then 3 else if l.any (0 < ·) then 1 else 0
  | _ => if l.any (0 < ·) then 3 else 0

/-- One pass over the blocks. -/
def hostPass (im : Image) (levels : List Nat) : List Nat :=
  im.blocks.foldl (fun l b =>
    let v := hostStep b l
    (outSignals b).foldl (fun l i => l.set i (max v (l[i]?.getD 0))) l) levels

/-- The level of every signal. -/
def hostLevels (im : Image) : List Nat :=
  (List.range (2 * im.blocks.length + 1)).foldl (fun l _ => hostPass im l) (im.signals.map (fun _ => 0))

/-- A signal may not feed a protected place (R172). -/
def hostBad (levels : List Nat) (i : Nat) : Bool := decide (2 ≤ levels[i]?.getD 0)

/-- A block takes a host-derived signal where R172 forbids it: an SFL_OUT safe bit or word, an RST input, MODESEL. -/
def hostMisused (levels : List Nat) (b : Block) : Bool :=
  let bad (k : Nat) : Bool := match (b.ins[k]?).join with
    | some i => hostBad levels i
    | none => false
  match b.type with
  | .sflOut => (List.range 66).any bad
  | .modesel => (List.range 4).any bad
  | t => match rstInput t with
    | some k => bad k
    | none => false

/-! ### Bindings (R170, R172) -/

/-- The safe outputs and brakes of a port that the image enables (Table 6-7). -/
def enabledIn (im : Image) (p c : Nat) : Bool :=
  ((im.portWords[p]?.getD [])[if c < 4 then 0x40 + c else 0x46 + c]?.getD 0).getLsbD 0

/-- The binding of a channel. -/
def bindsOf (im : Image) (p c : Nat) : List OutBind := im.outs.filter (fun b => b.port.val == p && b.ch.val == c)

/-- A channel's bindings keep R170 and R172. -/
def channelOk (im : Image) (levels : List Nat) (p c : Nat) : Bool :=
  let l := bindsOf im p c
  (!enabledIn im p c || l.length == 1) &&
    l.all (fun b => !hostBad levels b.sig &&
      if c < 4 then (im.signals[b.sig]?.map Signal.cls) == some .bool
      else
        let sbcs := im.blocks.filter (fun k => k.type == .sbc && k.params.brakePort.val == p && k.params.brakeIx.val == c - 4)
        sbcs.length == 1 && sbcs.all (fun k => (k.outs[0]?).join == some b.sig))

/-- All bindings. -/
def bindingsOk (im : Image) (levels : List Nat) : Bool :=
  (List.range 8).all (fun p => (List.range 6).all (fun c => channelOk im levels p c))
    && im.auxs.all (fun a => (im.signals[a.sig]?.map Signal.cls) == some .bool)

/-! ### The two-hand panel (R193) -/

/-- The block is an AND that also takes M_LOCAL. -/
def andLocal (im : Image) (b : Block) : Bool :=
  b.type == .and && im.blocks.any (fun m => m.type == .modesel && ((m.outs[2]?).join).isSome && b.ins.contains ((m.outs[2]?).join))

/-! ### Where a signal goes (R164, R193, R199) -/

/-- What a block that reads reached signals carries on: its outputs and its state signals, of those for previous inputs the ones whose
input is reached. -/
def carried (b : Block) (reached : List Nat) : List Nat :=
  outSignals b ++ (b.states.filter (fun x => match x.1 with
    | .prev k => match (b.ins[k]?).join with
      | some i => reached.contains i
      | none => false
    | _ => true)).map Prod.snd

/-- One pass over the blocks: the seeds of every block, and what the blocks that do not stop it carry on. -/
def spreadPass (im : Image) (seed : Block → List Nat) (stops : Block → Bool) (reached : List Nat) : List Nat :=
  im.blocks.foldl (fun l b =>
    let reads := !stops b && b.ins.any (fun o => match o with
      | some i => l.contains i
      | none => false)
    l ++ (seed b ++ (if reads then carried b l else [])).filter (fun i => !l.contains i)) reached

/-- Every signal that the seeds reach; each pass before the last adds one. -/
def spread (im : Image) (seed : Block → List Nat) (stops : Block → Bool) : List Nat :=
  (List.range (im.signals.length + 1)).foldl (fun l _ => spreadPass im seed stops l) []

/-- The signals that hold an output of a block of a type: its outputs, and the state signals that keep one (R164). -/
def outputsOf (t : BlockType) (b : Block) : List Nat :=
  if b.type == t then
    outSignals b ++ (b.states.filter (fun x => match x.1 with
      | .out _ => true
      | _ => false)).map Prod.snd
  else []

/-- The signals that TWOHAND's Q reaches by a path other than as an operand of an AND with M_LOCAL. -/
def handReach (im : Image) : List Nat := spread im (outputsOf .twohand) (andLocal im)

/-- No safe output and no brake is bound to such a signal (R193). -/
def handsOk (im : Image) : Bool := im.outs.all (fun b => !(handReach im).contains b.sig)

/-! ### Hand-over settings (R176, R199) -/

/-- A binding is marked as what it depends on; where that is a MODESEL output, AUTO is refused on an ESTOP's path, and MANUAL needs its
HO_RST (R199). -/
def handoverOk (im : Image) : Bool :=
  let onMode := spread im (outputsOf .modesel) (fun _ => false)
  let onEstop := spread im (outputsOf .estop) (fun _ => false)
  im.outs.all (fun b => b.modeDep == onMode.contains b.sig
    && (!b.modeDep || (if b.hoAuto then !onEstop.contains b.sig else match b.hoRst with
      | some i => rstSource im i
      | none => false)))

/-! ### Signatures (R150) -/

/-- The signatures lie from 1 to 63,876 and are all different. -/
def signaturesOk (im : Image) : Bool :=
  im.signals.all (fun g => between 1 g.sig.toNat 63876) && decide (im.signals.map Signal.sig).Nodup

/-! ### Sizes, order and pulses (R102, R109, R148, R149, R164) -/

/-- The capacity of a configuration, and its worst case within 80 % of the scan period (R148, R149). -/
def sizesOk (im : Image) : Bool :=
  decide (im.blocks.length ≤ 1024) && decide (im.signals.length ≤ 4096)
    && decide (im.wcetUs.toNat * 10 ≤ periodUs im.scanPer.val * 8)

/-- The order names every block once, and places each behind the blocks that feed it other than through a state signal; no two
blocks share a state signal (R164). -/
def orderOk (im : Image) : Bool :=
  decide (im.order.length = im.blocks.length) && decide im.order.Nodup && im.order.all (fun i => decide (i < im.blocks.length))
    && (List.range im.order.length).all (fun k =>
      match (im.order[k]?).bind (fun i => im.blocks[i]?) with
      | none => true
      | some b => b.ins.all (fun o => match o with
        | none => true
        | some i => (sigAt im i).isState || (im.order.drop k).all (fun j => match im.blocks[j]? with
          | none => true
          | some c => !(outSignals c).contains i)))
    && decide (im.blocks.flatMap (fun b => b.states.map Prod.snd)).Nodup

/-- A port's input and pulse words keep the limits of chapter 5 (R100, R102, R109): one period for all, every dark time and its
guard within the sub-window, no pair on one source. -/
def pulsesOk (im : Image) : Bool :=
  let n := im.tpPeriod.toNat
  between 1 n 125 && im.portWords.toList.all (fun ws =>
    let w (a : Nat) : Nat := (pword ws a).toNat
    let used (i : Nat) : Bool := let t := w i % 4; t == 1 || t == 2
    (List.range 16).all (fun i => decide (w i < 256) && decide (w i % 4 ≠ 3) && decide (w i / 8 % 16 ≤ 8)
        && (!used i || decide (2 ≤ w (0x10 + i)))
        && (!(used i && used (i / 2 * 2 + 1 - i % 2) && w i / 4 % 2 == 1 && w (i / 2 * 2 + 1 - i % 2) / 4 % 2 == 1)
          || w i / 8 % 16 == 0 && w (i / 2 * 2 + 1 - i % 2) / 8 % 16 == 0
          || w i / 8 % 16 != w (i / 2 * 2 + 1 - i % 2) / 8 % 16))
      && (List.range 8).all (fun k =>
        let d := w (0x21 + k)
        d == 0 || (between 50 d 2000 && decide (2 * d + 25 ≤ 125 * n))))

/-! ## The verdict -/

/-- The first block whose rule is broken. -/
def brokenBlock (im : Image) : Option Nat :=
  let levels := hostLevels im
  let loop := looped im
  (List.range im.blocks.length).find? (fun ix =>
    match im.blocks[ix]? with
    | none => false
    | some b => !blockOk im b || repeats im ix b || loop.contains ix || hostMisused levels b)

/-- The image keeps the rules that are no one block's. -/
def wholeOk (im : Image) : Bool :=
  bindingsOk im (hostLevels im) && handsOk im && handoverOk im && signaturesOk im && sizesOk im && orderOk im && pulsesOk im

/-- The image keeps every rule that STAGE_CONFIG_COMMIT checks (R163, log entry 94). -/
def imageOk (im : Image) : Bool := (brokenBlock im).isNone && wholeOk im

end Sys2Proof.Machine
end

