-- ==== Sys2Proof/Machine/Fuses.lean ====
section
/-! DEFINITION. Fuses, locks, patch sets and version agreement (chapter 16). -/

namespace Sys2Proof.Machine

/-! ## Rows and their checks (R333 to R335) -/

/-- Region codes (R322): 0 IDENT, 1 TRIM, 2 SAFECFG, 3 PATCH0, 4 PATCH1, 5 LOCKS, 6 KEYS, 7 CUSTOMER. -/
def rowRegion (r : Nat) : Nat :=
  if r = 0 then 0 else if r ≤ 3 then 1 else if r ≤ 5 then 2 else if r ≤ 11 then 3 else if r ≤ 17 then 4
  else if r = 18 then 5 else if r ≤ 22 then 6 else 7

/-- The step rows and the half rows; every other row is whole (Table 16-1). -/
def rowStep (r : Nat) : Bool := r == 5 || r == 18
def rowHalf (r : Nat) : Bool := decide (6 ≤ r) && decide (r ≤ 17)

/-- The rows that may not be blank (Table 16-1). -/
def rowRequired (r : Nat) : Bool := decide (r ≤ 4) || (decide (19 ≤ r) && decide (r ≤ 22))

/-- The 16 bytes of a row, byte 0 first. -/
def rowBytes (d : BitVec 128) : List Byte := leBytes 16 d.toNat

/-- The check field of 128 data bits (R333): CRC-8, and a parity bit that makes the number of 1s even. -/
def rowCheck (d : BitVec 128) : BitVec 9 :=
  let c := crc8 (rowBytes d)
  let ones := (bitsOf d).countP id + (bitsOf c).countP id
  BitVec.ofNat 9 (c.toNat + ones % 2 * 256)

/-- A row of which no bit is blown. -/
def FuseRow.isBlank (w : FuseRow) : Bool := w.data == 0 && w.check == 0

/-- The check of one half: blank, or the CRC-8 over bits 55:0 in bits 63:56 (Table 16-4). -/
def halfOk (h : DWord) : Bool := h == 0 || BitVec.setWidth 8 (h >>> 56) == crc8 (leBytes 7 h.toNat)

/-- The half n of a row. -/
def rowHalfOf (d : BitVec 128) (n : Nat) : DWord := (d >>> (64 * n)).setWidth 64

/-- The vote of the triple whose lowest bit is b (R335). -/
def triple (d : BitVec 128) (b : Nat) : Bool :=
  decide (2 ≤ (d.getLsbD b).toNat + (d.getLsbD (b + 1)).toNat + (d.getLsbD (b + 2)).toNat)

/-- The counter steps 1 to 32 of row 5, voted. -/
def counterSteps (d : BitVec 128) : List Bool := (List.range 32).map (fun i => triple d (3 * i))

/-- Steps 1 to c at 1, every step above at 0. -/
def contiguous (l : List Bool) : Bool := (l.dropWhile id).all (! ·)

/-- The number of triples' bits of a step row; every bit above must read 0 (Table 16-2). -/
def stepBits (r : Nat) : Nat := if r = 5 then 102 else 48

/-- The check of row r (R335, R338). -/
def rowOk (r : Nat) (w : FuseRow) : Bool :=
  if rowStep r then
    w.check == 0 && w.data >>> stepBits r == 0 && (r != 5 || contiguous (counterSteps w.data))
  else if rowHalf r then w.check == 0 && halfOk (rowHalfOf w.data 0) && halfOk (rowHalfOf w.data 1)
  else if w.isBlank then !rowRequired r
  else w.check == rowCheck w.data && (r != 4 || (decide (1 ≤ w.data.toNat % 16) && decide (w.data.toNat % 16 ≤ 8)))

/-! ## Redirection (R334) -/

/-- A copy of the table that keeps its reserved bits 0. -/
def copyLegal (c : Half) : Bool :=
  let entry (b : Nat) : Bool := b / 32 % 4 == 0 && (b / 128 == 1 || b % 32 == 0)
  entry (c.toNat % 256) && entry (c.toNat / 256)

/-- The value of any two identical copies (R334). -/
def voteRedirect (f : Fuses) : Option Half :=
  let same (a b : Half) : Bool := a == b && copyLegal a
  if same f.redirect[0] f.redirect[1] || same f.redirect[0] f.redirect[2] then some f.redirect[0]
  else if same f.redirect[1] f.redirect[2] then some f.redirect[1]
  else none

/-! ## Boot steps 1 and 2 (R61, R336 to R339) -/

/-- Locks as blown: write-lock of region g, read-lock of region g (Table 16-2, R337). -/
def writeLocked (f : Fuses) (g : Nat) : Bool := triple (f.row 18).data (3 * g)
def readLocked (f : Fuses) (g : Nat) : Bool := triple (f.row 18).data (3 * g + 24)

/-- FU_SAFECFG from rows 4 and 5 (Table 15-11, Table 16-1). -/
def safecfgWord (f : Fuses) : Word :=
  let a := (f.row 4).data.toNat
  let b := (f.row 5).data
  pack [(0, (triple b 99).toNat), (1, (triple b 96).toNat), (8, a / 1024 % 256), (16, a % 16),
    (20, (counterSteps b).countP id), (26, a / 16 % 64)]

/-- The customer rows from 26 down to 23 that are not blank and pass (R339). -/
def customerRow (f : Fuses) : Option Nat :=
  [26, 25, 24, 23].find? (fun r => !(f.row r).isBlank && rowOk r (f.row r))

/-- Fuse sense: every user latches its field until the next reset (R61, R338, R339). -/
def Fuses.sensed (f : Fuses) : Fuses :=
  let f := { f with redirUsed := (voteRedirect f).getD 0 }
  let cust := match customerRow f with
    | some r => (f.row r).data.toNat
    | none => 0x40
  { f with
    sparesReg := fuSpares f, safecfg := safecfgWord f,
    locks := pack ((List.range 8).map (fun g => (g, (writeLocked f g).toNat))
      ++ (List.range 8).map (fun g => (8 + g, (readLocked f g).toNat))),
    baseAddr := BitVec.ofNat 7 cust, node := BitVec.ofNat 16 (cust / 256), site := BitVec.ofNat 32 (cust / 2 ^ 32),
    revs := Vector.replicate 8 0, mismatch := 0xFF00, patchVer := 0, abiReg := 0, compiler := 0 }

/-- The blink code of a failed fuse check (R61, Table 3-4); the redirection table is judged first. -/
def blinkCode (f : Fuses) : Option Nat :=
  let bad (r : Nat) : Bool := !rowOk r (f.row r)
  if (voteRedirect f).isNone then some 6
  else if bad 0 then some 1
  else if bad 1 || bad 2 || bad 3 then some 2
  else if bad 4 || bad 5 then some 3
  else if bad 18 then some 4
  else if bad 19 || bad 20 || bad 21 || bad 22 then some 5
  else none

/-- FUSE_CHECK_FAIL for PATCH and CUSTOMER rows: a PATCH row for each failing half, and as a whole where its check field does not
read 0 (R335, Table 16-3). -/
def fuseEvents (s : State) : State :=
  (List.range 32).foldl (fun s r =>
    if rowHalf r then
      let w := s.fu.row r
      let s := if halfOk (rowHalfOf w.data 0) then s else raise 237 0x0E01 .warning (argOf [(0, r), (1, 0)]) s
      let s := if halfOk (rowHalfOf w.data 1) then s else raise 237 0x0E01 .warning (argOf [(0, r), (1, 1)]) s
      if w.check = 0 then s else raise 237 0x0E01 .warning (argOf [(0, r), (1, 0xFF)]) s
    else if 23 ≤ r ∧ !rowOk r (s.fu.row r) then raise 237 0x0E01 .warning (argOf [(0, r), (1, 0xFF)]) s
    else s) s

/-! ## FUSE_READ and FUSE_PROGRAM (R322, R323, R340, R341) -/

/-- The data bits of row r that are not reserved (Tables 16-1 and 16-4): reserved ones are never blown and read 0 (R16). -/
def rowBits (r : Nat) : BitVec 128 :=
  if r = 0 then ~~~(0xFF <<< 40) else if r = 4 then 0x3FFFF
  else if rowHalf r then ~~~((0xF <<< 28) ||| (0xF <<< 92)) else BitVec.allOnes 128

/-- FUSE_READ (R322). -/
def fuseRead (row : Nat) (s : State) : Byte × List Byte :=
  if 32 ≤ row then (stBadParam, [])
  else if readLocked s.fu (rowRegion row) then (stLocked, [])
  else
    let w := s.fu.row row
    let flags := (rowOk row w).toNat + (spareOf s.fu.redirUsed row).isSome.toNat * 2
      + (writeLocked s.fu (rowRegion row)).toNat * 4
    (stOk, [BitVec.ofNat 8 row, BitVec.ofNat 8 (rowRegion row), BitVec.ofNat 8 flags, 0] ++ rowBytes (w.data &&& rowBits row))

/-- What R341 makes of a request. -/
inductive Verdict where
  | nothing                  -- equal content: OK, no effect
  | badParam
  | blow
  | redirect                 -- the present bits are in the way
deriving DecidableEq, Repr

/-- Every bit of a is in b. -/
def subset {w : Nat} (a b : BitVec w) : Bool := a &&& ~~~b == 0

/-- The whole-row rule (R341): a closed row, a row to be completed, a blank row. -/
def wholeVerdict (blank ok : Bool) (data want : BitVec 128) (check : BitVec 9) : Verdict :=
  if blank then .blow
  else if ok then (if data = want then .nothing else .badParam)
  else if subset data want && subset check (rowCheck want) then .blow
  else .redirect

/-- The rule of one half (R341). -/
def halfVerdict (data want : DWord) : Verdict :=
  if data = 0 then (if want = 0 then .nothing else .blow)
  else if halfOk data then (if data = want then .nothing else .badParam)
  else if subset data want then .blow
  else .redirect

/-- Two halves together. -/
def Verdict.both (a b : Verdict) : Verdict :=
  if a = .badParam || b = .badParam then .badParam
  else if a = .redirect || b = .redirect then .redirect
  else if a = .blow || b = .blow then .blow
  else .nothing

/-- The epoch of the patch set in use; 0 with none (R341). -/
def epochInUse (f : Fuses) : Nat := f.patchVer.toNat / 2 ^ 24

/-- The step-row rule (R341): whole triples, counter steps in order, up to the epoch in use. -/
def stepVerdict (r : Nat) (epoch : Nat) (data want : BitVec 128) : Verdict :=
  let whole := (List.range (stepBits r / 3)).all (fun i =>
    let v := (want >>> (3 * i)).toNat % 8
    v == 0 || v == 7)
  let keeps := subset data want
  let old := (counterSteps data).countP id
  let new := (counterSteps want).countP id
  if !keeps || !whole || want >>> stepBits r != 0 then .badParam
  else if r == 5 && (!contiguous (counterSteps want) || (decide (old < new) && decide (epoch < new))) then .badParam
  else if data = want then .nothing
  else .blow

/-- The redirection table as it stands in the fuses. -/
def presentTable (f : Fuses) : Half := (voteRedirect f).getD f.redirUsed

/-- A row as it stands in the fuses: in its spare from the redirection on, though it is read from there only after the next
sense (R334). -/
def Fuses.rowNow (f : Fuses) (r : Nat) : FuseRow :=
  match spareOf (presentTable f) r with
  | some k => f.spares[k]?.getD FuseRow.blank
  | none => f.rows[r]?.getD FuseRow.blank

/-- The verdict on a request (R323, R341). -/
def fuseVerdict (r : Nat) (want : BitVec 128) (f : Fuses) : Verdict :=
  let w := f.rowNow r
  if rowStep r then stepVerdict r (epochInUse f) w.data want
  else if rowHalf r then
    (halfVerdict (rowHalfOf w.data 0) (rowHalfOf want 0)).both (halfVerdict (rowHalfOf w.data 1) (rowHalfOf want 1))
  else wholeVerdict w.isBlank (rowOk r w) w.data want w.check

/-- A programmed row: the controller computes the check field of a whole row (R341). -/
def programmed (r : Nat) (want : BitVec 128) : FuseRow :=
  { data := want, check := if rowStep r || rowHalf r then 0 else rowCheck want }

/-- A row with a request blown into it where it stands: bits of the check field of a step row or a half row stay as they are (R323). -/
def Fuses.written (f : Fuses) (r : Nat) (want : BitVec 128) : FuseRow :=
  if rowStep r || rowHalf r then { data := want, check := (f.rowNow r).check } else programmed r want

/-- The next free spare (R334): in order, spare 0 first. -/
def freeSpare (f : Fuses) : Option Nat :=
  let t := presentTable f
  if !t.getLsbD 7 then some 0 else if !t.getLsbD 15 then some 1 else none

/-- The entry of spare k for row r blown into one copy of the table: fuses only go from 0 to 1 (R323, R334). -/
def Fuses.blowCopy (f : Fuses) (k r : Nat) (i : Fin 3) : Fuses :=
  { f with redirect := f.redirect.set i (f.redirect[i] ||| BitVec.ofNat 16 ((0x80 + r) * 256 ^ k)) }

/-- The row put into a spare. -/
def Fuses.putSpare (f : Fuses) (k : Nat) (w : FuseRow) : Fuses := { f with spares := f.spares.setIfInBounds k w }

/-- The row put into a spare, and the entry blown into copy A, then B, then C (R334, R341). -/
def Fuses.redirectTo (f : Fuses) (k r : Nat) (w : FuseRow) : Fuses :=
  (((f.putSpare k w).blowCopy k r 0).blowCopy k r 1).blowCopy k r 2

/-- The row put where it stands in the fuses. -/
def Fuses.putRow (f : Fuses) (r : Nat) (w : FuseRow) : Fuses :=
  match spareOf (presentTable f) r with
  | some k => { f with spares := f.spares.setIfInBounds k w }
  | none => { f with rows := f.rows.setIfInBounds r w }

/-- The cells of a row cannot be programmed: rows 0 to 31, spares 32 and 33. -/
def rowFails (f : Fuses) (r : Nat) : Bool :=
  f.badRows.contains (match spareOf (presentTable f) r with | some k => 32 + k | none => r)

/-- The result of a request equal to what the row holds (R323): 1 for a row redirected since the last sense, so that a repeated
execution answers as the first. -/
def sameResult (f : Fuses) (r : Nat) : Byte :=
  if (spareOf (presentTable f) r).isSome && (spareOf f.redirUsed r).isNone then 1 else 0

/-- A spare would fail its read-back: its cells cannot be programmed, or what an interrupted redirection left in it is no part of
the row. -/
def spareFails (f : Fuses) (k : Nat) (w : FuseRow) : Bool :=
  let old := f.spares[k]?.getD FuseRow.blank
  f.badRows.contains (32 + k) || !subset old.data w.data || !subset old.check w.check

/-- The row programmed into spare k after its own cells failed or are in the way (R341). -/
def programSpare (k r : Nat) (want : BitVec 128) (s : State) : Byte × List Byte × State :=
  if spareFails s.fu k (programmed r want) then (stLocked, [], raise 237 0x0E04 .warning (argOf [(0, r)]) s)
  else
    let s := { s with fu := s.fu.redirectTo k r (programmed r want) }
    let s := raise 237 0x0E03 .warning (argOf [(0, r), (1, k)]) s
    (stOk, [BitVec.ofNat 8 r, 1, 0, 0], raise 237 0x0E02 .notice (argOf [(0, r), (1, 1)]) s)

/-- Data of a request is to be blown (R341): refused with no spare free, then read back. -/
def blowRow (redirect : Bool) (r : Nat) (want : BitVec 128) (s : State) : Byte × List Byte × State :=
  match freeSpare s.fu with
  | none => (stLocked, [], s)
  | some k =>
    if redirect || rowFails s.fu r then programSpare k r want s
    else
      (stOk, [BitVec.ofNat 8 r, 0, 0, 0],
        raise 237 0x0E02 .notice (argOf [(0, r), (1, 0)]) { s with fu := s.fu.putRow r (s.fu.written r want) })

/-- FUSE_PROGRAM is refused before its content is judged (R323, R340): outside STOP or 0 to 100 °C, beyond the rows, write-locked. -/
def fuseRefusal (r : Nat) (s : State) : Option Byte :=
  if s.dev.dvState != .stop || decide (s.dev.dieTemp.toNat < 64) || decide (164 < s.dev.dieTemp.toNat) then some stWrongState
  else if 32 ≤ r then some stBadParam
  else if writeLocked s.fu (rowRegion r) && !rowStep r then some stLocked
  else none

/-- The data bits a request asks for, the reserved ones left out (R16). -/
def fuseWant (r : Nat) (params : List Byte) : BitVec 128 := BitVec.ofNat 128 (leAt params 4 16) &&& rowBits r

/-- FUSE_PROGRAM (R323, R340, R341). -/
def fuseProgram (params : List Byte) (s : State) : Byte × List Byte × State :=
  let r := (byteAt params 0).toNat
  let want := fuseWant r params
  match fuseRefusal r s with
  | some st => (st, [], s)
  | none => match fuseVerdict r want s.fu with
    | .nothing => (stOk, [BitVec.ofNat 8 r, sameResult s.fu r, 0, 0], s)
    | .badParam => (stBadParam, [], s)
    | .blow => blowRow false r want s
    | .redirect => blowRow true r want s

/-! ### Programming cut short by a loss of power or clock (R334, R340, R341) -/

/-- Bit i of a row in the order in which bits are blown: data ascending, the CRC, the parity bit (R340). -/
def FuseRow.bit (w : FuseRow) (i : Nat) : Bool := if i < 128 then w.data.getLsbD i else w.check.getLsbD (i - 128)

/-- The bits still to be blown, in that order. -/
def toBlow (old new : FuseRow) : List Nat := (List.range 137).filter (fun i => new.bit i && !old.bit i)

/-- Bits blown into a row. -/
def FuseRow.blow (w : FuseRow) (l : List Nat) : FuseRow :=
  l.foldl (fun w i => if i < 128 then { w with data := w.data ||| (1 <<< i) } else { w with check := w.check ||| (1 <<< (i - 128)) }) w

/-- The triples of a step row still to be blown, lowest first. -/
def toStep (old new : FuseRow) : List Nat :=
  (List.range 34).filter (fun t => (new.data >>> (3 * t)).toNat % 8 == 7 && (old.data >>> (3 * t)).toNat % 8 != 7)

/-- The pieces of work that programming a row takes: one for each bit, three for each triple of a step row. -/
def rowWork (r : Nat) (old new : FuseRow) : Nat := if rowStep r then 3 * (toStep old new).length else (toBlow old new).length

/-- What n pieces of work leave in a row. A triple is blown as one, and cut short it is weak and votes 0: the model blows its lowest
bit, where none of it stood at 1 (DESIGN CHOICE, log entry 128). -/
def cutRow (r n : Nat) (old new : FuseRow) : FuseRow :=
  if rowStep r then
    let l := toStep old new
    let whole := (l.take (n / 3)).flatMap (fun t => [3 * t, 3 * t + 1, 3 * t + 2])
    let weak := if n % 3 = 0 then [] else ((l.drop (n / 3)).take 1).filter (fun t => (old.data >>> (3 * t)).toNat % 8 == 0)
    old.blow (whole ++ weak.map (3 * ·))
  else old.blow ((toBlow old new).take n)

/-- What n pieces of work leave of a redirection into spare k: the row, then the copies A, B and C, each as one, so that the old table
or the new one stays in the majority (R334). -/
def cutRedirect (k r n : Nat) (new : FuseRow) (f : Fuses) : Fuses :=
  let old := f.spares[k]?.getD FuseRow.blank
  if spareFails f k new then f
  else if n < rowWork r old new then f.putSpare k (cutRow r n old new)
  else ([0, 1, 2] : List (Fin 3)).take (n - rowWork r old new) |>.foldl (fun f i => f.blowCopy k r i) (f.putSpare k new)

/-- The fuses after n pieces of the work of a FUSE_PROGRAM. -/
def cutProgram (n : Nat) (params : List Byte) (s : State) : State :=
  let r := (byteAt params 0).toNat
  let new := programmed r (fuseWant r params)
  match fuseRefusal r s, fuseVerdict r (fuseWant r params) s.fu, freeSpare s.fu with
  | none, .blow, some k =>
    if rowFails s.fu r then { s with fu := cutRedirect k r n new s.fu }
    else { s with fu := s.fu.putRow r (cutRow r n (s.fu.rowNow r) new) }
  | none, .redirect, some k => { s with fu := cutRedirect k r n new s.fu }
  | _, _, _ => s

/-! ## Patch sets (R342 to R344) -/

/-- The patch entry of a slot as fused (Table 16-4); a failing half counts as blank. -/
def slotEntry (f : Fuses) (slot : Nat) : DWord :=
  let h := rowHalfOf (f.row (6 + slot / 2)).data (slot % 2)
  if halfOk h then h else 0

/-- Fields of a patch set (Table 16-5). -/
def patchVersion (b : List Byte) : Word := wordAt b 4
def patchMask (b : List Byte) : Nat := leAt b 12 3
def patchTable (b : List Byte) : Nat := leAt b 15 1

/-- The digest of the vendor key, and the debug unlock key (rows 21 to 22, 19 to 20). -/
def keyDigest (f : Fuses) : List Byte := rowBytes (f.row 21).data ++ rowBytes (f.row 22).data
def unlockKey (f : Fuses) : List Byte := rowBytes (f.row 19).data ++ rowBytes (f.row 20).data

/-- Every slot of the mask is fused as the payload says (R343). -/
def slotsMatch (f : Fuses) (b : List Byte) : Bool :=
  (List.range 24).all (fun n =>
    patchMask b / 2 ^ n % 2 == 0 ||
      (slotEntry f n != 0 && (slotEntry f n).toNat % 2 ^ 56 == leAt b (112 + 7 * n) 7))

/-- The checks of R343 in order: the reason of the first that fails, 0 where all pass. -/
def patchVerdict (f : Fuses) (counter : Nat) (b : List Byte) : Nat :=
  let l := leAt b 8 4
  if leAt b 0 4 ≠ 0x44505331 ∨ l ≠ b.length ∨ l < 344 ∨ 16384 < l ∨ 32 < patchTable b ∨ l < 280 + 32 * patchTable b + 64
  then 4
  else if sha256 ((b.drop 48).take 64) ≠ keyDigest f ∨
      !ecdsaVerify ((b.drop 48).take 64) (b.drop (l - 64)) (sha256 (b.take (l - 64))) then 2
  else if leAt b 16 32 ≠ f.rom.hash.toNat then 1
  else if (patchVersion b).toNat / 2 ^ 24 < counter then 3
  else if slotsMatch f b then 0 else 4

/-- The bytes of a transfer received so far: the mask's bits at 1. -/
def xferReceived (x : Nat × List Host.Cell × Nat) : Nat := (List.range x.1).countP (fun i => x.2.2.testBit i)

/-- Reply data of PATCH_INSTALL (R324). -/
def patchReply (phase reason : Nat) (w : Nat) : List Byte :=
  [BitVec.ofNat 8 phase, BitVec.ofNat 8 reason, 0, 0] ++ leBytes 4 w

/-- PATCH_INSTALL may run: STOP, not DEGRADED (Table 15-1, R258). -/
def patchRefusal (s : State) : Option Byte :=
  if s.dev.dvState != .stop then some stWrongState else if degraded s then some stDegraded else none

/-- PATCH_INSTALL BEGIN (R324). -/
def patchBegin (total : Nat) (s : State) : Byte × List Byte × State :=
  match patchRefusal s with
  | some st => (st, [], s)
  | none =>
    if total < 344 ∨ 16384 < total then (stBadParam, patchReply 0 4 0, s)
    else (stOk, patchReply 0 0 0, { s with fu := { s.fu with xfer := some (total, [], 0) } })

/-- PATCH_INSTALL DATA (R324). -/
def patchData (offset : Nat) (bytes : List Byte) (s : State) : Byte × List Byte × State :=
  match patchRefusal s, s.fu.xfer with
  | some st, _ => (st, [], s)
  | none, none => (stWrongState, [], s)
  | none, some x =>
    if x.1 < offset + bytes.length then (stBadParam, patchReply 1 4 (xferReceived x), s)
    else
      let x := (x.1, Memory.writeBytes x.2.1 offset bytes, x.2.2 ||| ((2 ^ bytes.length - 1) <<< offset))
      (stOk, patchReply 1 0 (xferReceived x), { s with fu := { s.fu with xfer := some x } })

/-- A patch set written to NVA, read back, written to NVB and read back (R343): a macro that a failed word takes out of service
holds no whole copy of it. -/
def putPatch (b : List Byte) (s : State) : State :=
  let was := s
  let s := mirror 0x4C000 b.length s
  let kept (out : Bool) (now : Bool) (old : List Byte) : List Byte := if out then old else if now then [] else b
  { s with nv := { s.nv with
      patchA := kept was.nv.live.nvaOut s.nv.live.nvaOut was.nv.patchA,
      patchB := kept was.nv.live.nvbOut s.nv.live.nvbOut was.nv.patchB } }

/-- PATCH_INSTALL FINISH (R324, R343): verified, written to both macros, in effect at the next reset. -/
def patchFinish (total : Nat) (s : State) : Byte × List Byte × State :=
  match patchRefusal s, s.fu.xfer with
  | some st, _ => (st, [], s)
  | none, none => (stWrongState, [], s)
  | none, some x =>
    let b := Memory.readBytes x.2.1 0 x.1
    let why := if x.1 = total then patchVerdict s.fu (antiRollback s) b else 4
    if why ≠ 0 then (stBadParam, patchReply 2 why (patchVersion b).toNat, s)
    else
      let s := putPatch b { s with fu := { s.fu with xfer := none } }
      (stOk, patchReply 2 0 (patchVersion b).toNat, raise 237 0x0E05 .notice (argOf [(0, (patchVersion b).toNat)]) s)

/-- The copy of the patch segment that verifies, NVA first (R344). -/
def goodPatch (s : State) : Option (List Byte) :=
  if !s.nv.patchA.isEmpty && patchVerdict s.fu (antiRollback s) s.nv.patchA == 0 then some s.nv.patchA
  else if !s.nv.patchB.isEmpty && patchVerdict s.fu (antiRollback s) s.nv.patchB == 0 then some s.nv.patchB
  else none

/-- PATCH_STATUS (R324). -/
def patchStatusData (s : State) : List Byte :=
  let held := if s.nv.patchA.isEmpty then s.nv.patchB else s.nv.patchA
  let b := (goodPatch s).getD held
  let flags := (goodPatch s).isSome.toNat + s.dev.patchActive.toNat * 2
    + (!b.isEmpty && leAt b 16 32 == s.fu.rom.hash.toNat).toNat * 4
  let used := (List.range 24).countP (fun n => slotEntry s.fu n != 0)
  let x := s.fu.xfer
  bytes4 (patchVersion b) ++ [BitVec.ofNat 8 flags, BitVec.ofNat 8 (antiRollback s), BitVec.ofNat 8 used, 0]
    ++ leBytes 4 ((x.map xferReceived).getD 0) ++ leBytes 4 ((x.map Prod.fst).getD 0) ++ [0, 0, 0, 0]

/-- Boot step 5 (R344): the patch set in use, or the refusal. -/
def patchBoot (s : State) : State :=
  match goodPatch s with
  | some b =>
    let s := if s.nv.patchA = b ∧ s.nv.patchB = b then s else putPatch b s
    let s := { s with
      fu := { s.fu with patchSet := b, armed := BitVec.ofNat 24 (patchMask b), patchVer := patchVersion b },
      dev := { s.dev with patchActive := true } }
    raise 237 0x0E06 .notice
      (argOf [(0, (patchVersion b).toNat), (4, (bitsOf s.fu.armed).countP id)]) s
  | none =>
    if s.nv.patchA.isEmpty && s.nv.patchB.isEmpty then s
    else raise 237 0x0E07 .warning
      (argOf [(0, patchVerdict s.fu (antiRollback s) s.nv.patchA), (4, (patchVersion s.nv.patchA).toNat)]) s

/-! ## Version agreement (R345 to R347) -/

/-- A tested-combination entry of a patch set (Table 16-6). -/
def entryOf (b : List Byte) : TestedEntry :=
  { level := byteAt b 0, plainRom := (byteAt b 1).getLsbD 0, abi := halfAt b 2, fmtMin := halfAt b 4, fmtMax := halfAt b 6,
    compMin := wordAt b 8, compMax := wordAt b 12, portRevs := wordAt b 16, patchMin := wordAt b 20, patchMax := wordAt b 24 }

/-- The ROM's entries and those of the patch set in use (R345). -/
def allEntries (s : State) : List TestedEntry :=
  s.fu.rom.tested ++ (List.range (patchTable s.fu.patchSet)).map (fun i => entryOf (s.fu.patchSet.drop (280 + 32 * i)))

/-- The entry's plain-ROM bit or patch range fits the patch-set version in use. -/
def TestedEntry.fitsPatch (e : TestedEntry) (ver : Word) : Bool :=
  if ver = 0 then e.plainRom else decide (e.patchMin ≤ ver) && decide (ver ≤ e.patchMax)

def TestedEntry.fitsFormat (e : TestedEntry) (f : Half) : Bool := decide (e.fmtMin ≤ f) && decide (f ≤ e.fmtMax)
def TestedEntry.fitsCompiler (e : TestedEntry) (c : Word) : Bool := decide (e.compMin ≤ c) && decide (c ≤ e.compMax)

/-- The entries that match an image, whatever their level (R345). -/
def matching (abi fmt : Half) (comp : Word) (s : State) : List TestedEntry :=
  (allEntries s).filter (fun e => e.fitsPatch s.fu.patchVer && e.abi == abi && e.fitsFormat fmt && e.fitsCompiler comp)

/-- The level is not below the compatibility floor. -/
def aboveFloor (s : State) (e : TestedEntry) : Bool := decide (compatFloor s ≤ e.level.toNat)

/-- The mismatch code of an image apart from its ports, in the order of Table 16-7; 0 tested (R346, R347). -/
def imageMismatch (abi fmt : Half) (comp : Word) (s : State) : Nat :=
  let l := (allEntries s).filter (fun e => e.fitsPatch s.fu.patchVer)
  let la := l.filter (fun e => e.abi == abi)
  let lf := la.filter (fun e => e.fitsFormat fmt)
  let lc := lf.filter (fun e => e.fitsCompiler comp)
  if l.isEmpty then 1
  else if s.fu.patchVer == 0 && decide (0 < antiRollback s) then 2
  else if la.isEmpty then 3
  else if lf.isEmpty then 4
  else if lc.isEmpty then 5
  else if lc.any (aboveFloor s) then 0
  else 7

/-- A port revision is tested with an image: it stands in the port mask of a matching entry (R345). -/
def revTested (abi fmt : Half) (comp : Word) (rev : Byte) (s : State) : Bool :=
  decide (0x41 ≤ rev.toNat) && decide (rev.toNat < 0x41 + 32) &&
    (matching abi fmt comp s).any (fun e => aboveFloor s e && e.portRevs.getLsbD (rev.toNat - 0x41))

/-- The active image references port p with a signal or a binding (R347). -/
def Image.references (i : Image) (p : Nat) : Bool :=
  i.inputs.any (fun b => b.port.val == p) || i.outs.any (fun b => b.port.val == p) || i.auxs.any (fun b => b.port.val == p)

/-- FU_MISMATCH and VERSION_MISMATCH for a code (R347). -/
def noteMismatch (code port : Nat) (s : State) : State :=
  raise 237 0x0E08 .warning (argOf [(0, code), (1, port)])
    { s with fu := { s.fu with mismatch := BitVec.ofNat 16 (code + port * 256) } }

/-- The version registers read at boot step 8 (R330). -/
def versionRegs (s : State) : State :=
  let i := s.en.image
  { s with fu := { s.fu with
      abiReg := pack [(0, s.fu.rom.abi.toNat), (16, ((i.map Image.format).getD 0).toNat)],
      compiler := (i.map Image.compiler).getD 0 } }

end Sys2Proof.Machine
end

