-- ==== Sys2Proof/Machine/Link.lean ====
section
/-! DEFINITION. The controller's side of the Rosox links (chapter 4): link cycles, uplink frames, link starts and losses, and
what the controller does with port diagnostics (R115, R118, R120, R128, R143, R144). -/

namespace Sys2Proof.Machine

/-! ## RESTART blocks behind a port input (R202, R203, R205) -/

/-- The block states of RESTART blocks whose IN is a port input that satisfies a test, changed. -/
def updRestarts (which : Nat → Nat → Bool) (f : BlockSt → BlockSt) (s : State) : State :=
  match s.en.image with
  | none => s
  | some im =>
    let hit (i : Nat) : Bool := match im.blocks[i]? with
      | some b => b.type == .restart && im.inputs.any (fun x => b.ins.contains (some x.sig) && which x.port.val x.ix.val)
      | none => false
    { s with en := { s.en with blocks := s.en.blocks.mapIdx (fun i b => if hit i then f b else b) } }

/-- An edge record for an input: one to level 0 confirms a release (R202); one to level 1 that follows it before the release is
taken over begins the press anew. -/
def noteRelease (p i : Nat) (level : Bool) (s : State) : State :=
  updRestarts (fun q j => q == p && j == i) (fun b => { b with edgeHeld := !level || (b.edgeHeld && b.waitEdge) }) s

/-- A pulse fault on an input (R203). -/
def noteUncleanInput (p i : Nat) (s : State) : State :=
  updRestarts (fun q j => q == p && j == i) (fun b => { b with unclean := true }) s

/-- A pulse fault naming a source, 1 to 8 (R203). -/
def noteUncleanSource (p k : Nat) (s : State) : State :=
  updRestarts (fun q j => q == p && inputSrc p j s == k) (fun b => { b with unclean := true }) s

/-- A link start of a port unarms the RESTART blocks on it (R205), as their next scan takes it over. -/
def disarmRestarts (p : Nat) (s : State) : State :=
  updRestarts (fun q _ => q == p) (fun b => { b with disarmed := true }) s

/-! ## Outputs that never switch (R128) -/

/-- The event source of channel c of port p (R144). -/
def chanSource (p c : Nat) : Nat := if c < 4 then 128 + 4 * p + c else 160 + 2 * p + (c - 4)

/-- The bit of channel c. -/
def chBit (c : Nat) : BitVec 6 := (1 : BitVec 6) <<< c

/-- A passed opening test of a channel: the counter restarts, OUTPUT_RETESTED after OUTPUT_UNTESTED. -/
def channelTested (p c : Nat) (s : State) : State :=
  let hours := channelHours (6 * p + c) s
  let was := (getLink p s).untested.getLsbD c
  let clear (q : Params) : Params := { q with chMinutes := updVec q.chMinutes (6 * p + c) (fun _ => 0) }
  let s := if was then storeItem clear s else setItem clear s
  let s := updLink p (fun l => { l with untested := l.untested &&& ~~~chBit c, refused := l.refused &&& ~~~chBit c,
                                        seenClosed := l.seenClosed &&& ~~~chBit c }) s
  let s := { s with en := { s.en with demanded := s.en.demanded &&& ~~~((1 : BitVec 48) <<< (6 * p + c)) } }
  if was then raise (chanSource p c) 0x0207 .notice (argOf [(0, hours)]) s else s

/-- 720 h: OUTPUT_UNTESTED and the UNTESTED bit, once the counter is stored (R247). -/
def channelUntested (p c : Nat) (s : State) : State :=
  if (getLink p s).untested.getLsbD c then s
  else
    raise (chanSource p c) 0x0205 .warning (argOf [(0, channelHours (6 * p + c) s)])
      (updLink p (fun l => { l with untested := l.untested ||| chBit c }) (storedFirst s))

/-- 1,440 h on an open channel: REFUSED. -/
def channelRefused (p c : Nat) (s : State) : State := updLink p (fun l => { l with refused := l.refused ||| chBit c }) s

/-- The standing of a channel judged by its counter: open tells whether it has opened. -/
def judgeChannel (p c : Nat) (isOpen : Bool) (s : State) : State :=
  if !chanEnabled p c s then s
  else
    let m := s.nv.live.chMinutes[6 * p + c]?.getD 0
    let s := if 43200 ≤ m then channelUntested p c s else s
    if 86400 ≤ m ∧ isOpen then channelRefused p c s else s

/-! ## Leaving a link start or a link -/

/-- The tests of OUTPUT_TEST_NOW end (R319): what was neither passed nor failed was abandoned. -/
def finishOutputTest (s : State) : State :=
  match s.cm.running with
  | some (.outputTest p mask passed failed _) =>
    let s := updLink p.val (fun l => { l with testing := 0 }) s
    let b (x : BitVec 6) : Byte := x.setWidth 8
    finishRunning stOk [b passed, b failed, b (mask &&& ~~~(passed ||| failed))] s
  | _ => s

/-- The inputs that LEARN_PULSES measures on port p (R118). -/
def learnInputs (p : Nat) (sources : Byte) (s : State) : List Nat :=
  (List.range 16).filter (fun i =>
    let k := inputSrc p i s
    inputUsed p i s && k != 0 && sources.getLsbD (k - 1))

/-- A link let go and held low until its next start at phase 1 (R94): PHASE shows 1 meanwhile (log entry 12), and the seed of
that start is a later one (R151). A link that has never been started stays so. -/
def Link.down (l : Link) : Link :=
  { l with phase := if l.phase = 0 then 0 else 1, held := true, badRun := 0, echoRun := 0, identRun := 0, paramNext := 0, okRun := 0,
           later := l.later || l.phase != 0, seedReady := false, seedSent := 0, runSent := 0, scanned := false, fold := none,
           entropyWait := false, writes := [], levels := 0, outNow := 0, testing := 0 }

/-- A draw of link l. -/
def Draw.ofLink (l : Nat) : Draw → Bool
  | .link k => k.val == l
  | .engineFold k => k.val == l
  | _ => false

/-- A link goes down: its draws are withdrawn, its channels are seen open, tests on it are abandoned. -/
def dropLink (l : Nat) (s : State) : State :=
  let s := { s with ent := { s.ent with waiting := s.ent.waiting.filter (fun d => !d.ofLink l) } }
  let s := updLink l (fun k => { k.down with seenClosed := k.seenClosed ||| k.outNow }) s
  match s.cm.running with
  | some (.outputTest p ..) => if p.val = l then finishOutputTest s else s
  | _ => s

/-- The reply data of LEARN_PULSES (R320): the inputs of each port that failed to learn. -/
def learnReply (done : List (Nat × Bool)) : List Byte :=
  (List.range 8).flatMap (fun p =>
    leBytes 2 (((List.range 16).map (fun i => if done.contains (16 * p + i, false) then 2 ^ i else 0)).sum))

/-- LEARN_PULSES ends once every selected input is reported (R118, R320): values stored, outcome, links start again. -/
def checkLearn (s : State) : State :=
  match s.cm.running with
  | some (.learn ports sources done) =>
    let wanted := (List.range 8).flatMap (fun p =>
      if ports.getLsbD p then (learnInputs p sources s).map (fun i => 16 * p + i) else [])
    if wanted.all (fun x => done.any (fun d => d.1 == x)) then
      let s := finishRunning stOk (learnReply done) (writeParams s)
      (List.range 8).foldl (fun s p => if ports.getLsbD p then dropLink p s else s) s
    else s
  | _ => s

/-- An input's learning result taken (R118). -/
def noteLearn (p i : Nat) (ok : Bool) (s : State) : State :=
  match s.cm.running with
  | some (.learn ports sources done) =>
    if ports.getLsbD p then
      checkLearn { s with cm := { s.cm with running := some (.learn ports sources (done ++ [(16 * p + i, ok)])) } }
    else s
  | _ => s

/-- A link that is lost while it learns: what it has not reported fails (R118). -/
def abandonLearn (p : Nat) (s : State) : State :=
  match s.cm.running with
  | some (.learn _ sources done) =>
    (learnInputs p sources s).foldl (fun s i =>
      if done.any (fun d => d.1 == 16 * p + i) then s else noteLearn p i false s) s
  | _ => s

/-- A start of link l has failed in its present phase (R94, Table 4-10): counted, and journalled once, at the first failure of a
run. -/
def noteStartFail (l : Nat) (s : State) : State :=
  let k := getLink l s
  let s := if k.failShown then s else raise (184 + l) 0x0003 .warning (argOf [(0, k.phase)]) s
  updLink l (fun k => { k with failed := inc8 k.failed, failShown := true }) s

/-- LINK_LOST with its phase (R94, Table 4-10), of a link that the port has answered on: up, held in phase 3, or in phases 2 to 5,
where the loss is a failed start too (log entry 13). -/
def linkLost (l cause : Nat) (s : State) : State :=
  let k := getLink l s
  if !k.held ∧ 2 ≤ k.phase then
    let s := raiseCause 7 (raise (184 + l) 0x0002 .warning (argOf [(0, cause), (1, k.phase)]) s)
    abandonLearn l (dropLink l (if k.phase ≤ 5 then noteStartFail l s else s))
  else s

/-- A phase exceeds its timeout (R86): phase 5 has none until its first SEED frame is sent (Table 4-7). -/
def mayTimeOut (k : Link) : Bool :=
  !k.held && decide (1 ≤ k.phase) && decide (k.phase ≤ 5) && (k.phase != 5 || decide (0 < k.seedSent))

/-- A failed start (R86, R94). -/
def linkStartFail (l : Nat) (s : State) : State :=
  if mayTimeOut (getLink l s) then dropLink l (noteStartFail l s) else s

/-- Link l starts at phase 1 (R86): its port's logic has been reset, so every latch is clear and its count is 0. What
PT_PORTp and PT_SUPp show stays as of the last REFRESH (R143). -/
def startLink (l : Nat) (s : State) : State :=
  disarmRestarts l (updLink l (fun k =>
    { k with phase := 1, held := false, quarantine := false, strapErr := false, startUs := s.clock, delays := [],
             inLatched := 0, chLatches := Vector.replicate 6 0, dlLast := 0 }) s)

/-- LINK_START (R86, R94): after the hold, for a link below the fused port count that has been started before or that
ACTIVATE_CONFIG starts. -/
def linkStart (l : Nat) (s : State) : State :=
  let k := getLink l s
  if live s && k.held && k.phase == 1 && decide (l < portsFused s) && s.dev.dvState != .dormantEntry then
    startLink l s
  else s

/-! ## Downlink frames (R76, R80, R86, R157) -/

/-- A header (Table 4-1). -/
def header (type l : Nat) (cycle : Byte) : List (Nat × Nat) := [(0, type), (2, l), (8, cycle.toNat)]

/-- The position within the pulse frame n µs from now (R110). -/
def framePos (n : Nat) (s : State) : Nat :=
  let p := framePeriod s
  if p = 0 then 0 else (s.clock + n - s.short.frameClock) % p

/-- The run-time write a RUN frame carries: the frame phase in the first two (R110), then what waits. -/
def runWrite (k : Link) (s : State) : (Byte × Half) × List (Byte × Half) :=
  if k.runSent = 0 then
    let pos := framePos 10 s
    ((0x81, BitVec.ofNat 16 pos), (0x82, BitVec.ofNat 16 (pos / 65536 % 16)) :: k.writes)
  else match k.writes with
    | w :: r => (w, r)
    | [] => ((0xFF, 0), [])

/-- The scan number of a frame: the first RUN frame carries SCAN_BASE (Tables 4-3, 4-7), later ones the last published
number (R146, R157). -/
def frameScan (k : Link) (s : State) : Word := if k.runSent = 0 then k.scanBase else s.en.scanNo

/-- The codes of a frame (R156, R157). -/
def frameCode (k : Link) (c : Nat) (s : State) : Half :=
  if s.en.scanning && k.scanned then k.codes[c]?.getD 0 else onCode k.seed (frameScan k s) c ^^^ 1

/-- The RUN frame of a link (Table 4-2). -/
def runFrame (l : Nat) (k : Link) (cycle : Byte) (w : Byte × Half) (s : State) : Frame :=
  let on := s.en.scanning && k.scanned
  let br (b : Nat) : Nat := if on then (k.brState[b]?.getD 0).toNat else 0
  mkFrame (header 3 l cycle ++ [(16, ((frameScan k s).setWidth 24).toNat)]
    ++ (List.range 6).map (fun c => (40 + 16 * c, (frameCode k c s).toNat))
    ++ [(136, br 0), (138, br 1), (140, if s.en.scanning then k.aux.toNat else 0), (144, w.1.toNat), (152, w.2.toNat)])

/-- The frame of one link in this cycle and the link after it (Table 4-7). After word 0x7F, and after the third SEED frame, START
frames with no write go out until the confirmation (DESIGN CHOICE, log entry 116). -/
def linkFrame (l : Nat) (k : Link) (s : State) : Link :=
  let cyc := k.cycle + 1
  let k := { k with cycle := cyc, cycles := k.cycles + 1, cycleClock := s.clock }
  let start (w : Byte × Half) : Frame := mkFrame (header 1 l cyc ++ [(144, w.1.toNat), (152, w.2.toNat)])
  match k.phase with
  | 4 =>
    if k.paramNext < 128 then
      { k with tx := start (BitVec.ofNat 8 k.paramNext, pword (portImage l s) k.paramNext), paramNext := k.paramNext + 1 }
    else { k with tx := start (0xFF, 0) }
  | 5 =>
    if k.seedReady && decide (k.seedSent < 3) then
      let base := if k.seedSent = 0 then s.en.scanNo else k.scanBase
      let per := (s.en.image.map (fun i => i.scanPer.val)).getD 0
      { k with tx := mkFrame (header 2 l cyc ++ [(16, k.seed.toNat), (80, base.toNat), (112, per)]),
               scanBase := base, seedSent := k.seedSent + 1 }
    else { k with tx := start (0xFF, 0) }
  | 6 =>
    let w := runWrite k s
    { k with tx := runFrame l k cyc w.1 s, writes := w.2, runSent := k.runSent + 1 }
  | _ => { k with tx := mkFrame (header 0 l cyc) }

/-! ## Error rates (R96) -/

/-- The invalid frames within the latest 65,536 cycles. -/
def recentBad (now : Nat) (bad : List Nat) : List Nat := bad.filter (fun c => decide (now < c + 65536))

/-- LINK_ERROR_RATE when a direction's count rises to 64 (R96). -/
def checkRate (l : Nat) (s : State) : State :=
  let k := getLink l s
  let ul := recentBad k.cycles k.ulBad
  let dl := recentBad k.cycles k.dlBad
  let ulOver := decide (64 ≤ ul.length)
  let dlOver := decide (64 ≤ dl.length)
  let s := updLink l (fun k => { k with ulBad := ul, dlBad := dl, ulOver := ulOver, dlOver := dlOver }) s
  let s := if ulOver && !k.ulOver then raise (184 + l) 0x0008 .warning (argOf [(0, 0)]) s else s
  if dlOver && !k.dlOver then raise (184 + l) 0x0008 .warning (argOf [(0, 1)]) s else s

/-- One link cycle: every started link sends one frame (R76). -/
def linkCycle (s : State) : State :=
  if !live s then s
  else (List.range 8).foldl (fun s l =>
    let k := getLink l s
    if k.held || k.phase == 0 then s
    else checkRate l (updLink l (fun k => linkFrame l k s) s)) s

/-! ## Uplink frames (R77, R83 to R88) -/

/-- An invalid uplink frame (R94, R96). -/
def badUplink (l : Nat) (s : State) : State :=
  let s := checkRate l (updLink l (fun k =>
    { k with ulErr := inc16 k.ulErr, badRun := k.badRun + 1, okRun := 0, identRun := 0, ulBad := k.ulBad ++ [k.cycles] }) s)
  let k := getLink l s
  if 4 ≤ k.badRun then linkLost l 1 s else s

/-- SAMPLE_PHASE waits to be sent, in the place of one still waiting (R48); its value depends on front-end delays that the
spec does not give: a free value (log entry 26). -/
def queuePhase (l : Nat) (s : State) : State :=
  let w : Byte × Half := (0x80, (Config.freeWord s.fresh).setWidth 16)
  updLink l (fun k => { k with writes := k.writes.filter (fun x => x.1 != 0x80) ++ [w] }) { s with fresh := s.fresh + 1 }

/-- The one-way delay in ns that round trips counted at 192 MHz give (R47): half of the mean of what they exceed the
turnaround of 1 µs by. Fewer than 16 are averaged as they stand, and a fraction of a ns is dropped (DESIGN CHOICE, log entry
82). -/
def oneWay (counts : List Nat) : Half :=
  BitVec.ofNat 16 (satNat 65535 ((125 * counts.sum - 24000 * counts.length) / (48 * counts.length)))

/-- A round trip measured (R47): DELAY is the average over 16 cycles, and a new average of a link that is up sets the port's
sample phase (R48). -/
def noteDelay (l rt : Nat) (s : State) : State :=
  let k := getLink l s
  let ds := (rt :: k.delays).take 16
  let s' := updLink l (fun k => { k with delays := ds, delay := oneWay ds }) s
  if 16 ≤ ds.length ∧ k.phase = 6 ∧ oneWay ds ≠ k.delay then queuePhase l s' else s'

/-- ECHO has not advanced for 4 cycles (R94). The run counts valid frames: an invalid one shows no ECHO, and neither adds to the run
nor ends it (DESIGN CHOICE, log entry 117). -/
def judgeEcho (l : Nat) (s : State) : State := if (getLink l s).echoRun < 4 then s else linkLost l 3 s

/-- Channel c shows open in a frame (R128): a brake that the last downlink frame put in CLAMP is neither closed nor open (R127). -/
def showsOpen (k : Link) (c : Nat) (f : Frame) : Bool :=
  !(ulOutState f).getLsbD c && !(decide (4 ≤ c) && dlType k.tx == 3 && dlBrake k.tx (c - 4) == 3)

/-- What every valid frame gives (Table 4-4): levels, the channels seen closed and open, the echo. Once a channel's standing
has been re-established (R128), its opening is judged. -/
def takeCommon (l : Nat) (f : Frame) (s : State) : State :=
  let s := updLink l (fun k =>
    { k with badRun := 0, levels := ulLevels f, seenClosed := k.seenClosed ||| (k.outNow &&& ~~~ulOutState f),
             outNow := ulOutState f, echoRun := if ulEcho f = k.echoLast then k.echoRun + 1 else 0, echoLast := ulEcho f }) s
  let s := (List.range 6).foldl (fun s c =>
    if showsOpen (getLink l s) c f && (getLink l s).judged then judgeChannel l c true s else s) s
  judgeEcho l s

/-- Link l comes up (R48, R86, R128, Table 4-10). -/
def linkUp (l : Nat) (s : State) : State :=
  let k := getLink l s
  let arg := argOf [(0, k.rev.toNat), (1, k.straps.toNat), (2, k.delay.toNat),
    (4, satNat 65535 (s.clock - k.startUs)), (6, k.failed.toNat)]
  let s := raise (184 + l) 0x0001 .notice arg s
  let judged := k.judged
  let s := updLink l (fun k => { k with phase := 6, okRun := 0, failed := 0, failShown := false, judged := true, echoRun := 0,
                                        runSent := 0, scanned := false }) (queuePhase l s)
  if judged then s else (List.range 6).foldl (fun s c => judgeChannel l c true s) s

/-- MISMATCH, also while the core is halted in it (R69, R347). -/
def inMismatch (s : State) : Bool :=
  s.dev.dvState == .mismatch || (s.dev.dvState == .debugHalt && s.dev.heldState == .mismatch)

/-- The revision in the port's IDENT frames is tested with the active versions (R345); without an active image no entry
matches (log entry 83). -/
def linkTested (l : Nat) (s : State) : Bool :=
  match s.en.image with
  | some im => revTested im.abi im.format im.compiler (getLink l s).rev s
  | none => false

/-- The straps differ from the link number (R87). -/
def strapFault (l : Nat) (s : State) : State :=
  let k := getLink l s
  if k.straps.toNat = l then s
  else raise (184 + l) 0x0005 .warning (argOf [(0, k.straps.toNat), (1, l)])
    (updLink l (fun k => { k with phase := 7, strapErr := true }) s)

/-- An untested revision: the port is quarantined (R87); where the active image references it the verdict is code 0x06,
unless an earlier one stands (R347). -/
def revFault (l : Nat) (s : State) : State :=
  if linkTested l s then s
  else
    let s := raiseCause 7 (raise (184 + l) 0x0004 .warning (argOf [(0, (getLink l s).rev.toNat)])
      (updLink l (fun k => { k with phase := 7, quarantine := true }) s))
    if (s.en.image.map (fun im => im.references l)).getD false && s.fu.mismatch.toNat % 256 == 0 then noteMismatch 6 l s else s

/-- Phase 3 (R87, R347): each fault holds the link in phase 3, and so does MISMATCH. -/
def linkCheck (l : Nat) (s : State) : State :=
  let rev := (getLink l s).rev
  let pass := (getLink l s).straps.toNat = l && linkTested l s
  let s := revFault l (strapFault l { s with fu := { s.fu with revs := updVec s.fu.revs l (fun _ => rev) } })
  if !pass then s
  else if inMismatch s then updLink l (fun k => { k with phase := 7 }) s
  else updLink l (fun k => { k with phase := 4, paramNext := 0, okRun := 0 }) s

/-- A confirmation in phases 4 and 5: two in a row (Table 4-7). -/
def confirm (l : Nat) (ok : Bool) (done : State → State) (s : State) : State :=
  let n := if ok then (getLink l s).okRun + 1 else 0
  let s := updLink l (fun k => { k with okRun := n }) s
  if 2 ≤ n then done s else s

/-- Phase 5 begins: the seed is drawn (R88). -/
def beginSeed (l : Fin 8) (s : State) : State :=
  request (.link l) (updLink l (fun k => { k with phase := 5, okRun := 0, seedReady := false, seedSent := 0 }) s)

/-- Two IDENT frames are identical (phase 2) but for the running ECHO, bits 15:8, and the CRC that goes with it, bits 191:168
(log entry 12). -/
def sameIdent (f g : Frame) : Bool := fieldAt f 0 8 == fieldAt g 0 8 && fieldAt f 16 152 == fieldAt g 16 152

/-- An IDENT frame (Table 4-7). -/
def uplinkIdent (l : Fin 8) (framing : Bool) (f : Frame) (rt : Nat) (s : State) : State :=
  let k := getLink l s
  if k.held || k.phase == 0 then s
  else if !ulValid framing [0] f then badUplink l s
  else if k.phase = 6 then linkLost l 2 s
  else
    let s := takeCommon l f (noteDelay l rt s)
    if (getLink l s).held then s else
    let s := updLink l (fun k => { k with rev := ulRev f, straps := ulStraps f, lastIdent := f,
                                          identRun := if sameIdent f k.lastIdent && decide (0 < k.identRun) then k.identRun + 1 else 1 }) s
    match k.phase with
    | 1 => updLink l (fun k => { k with phase := 2, identRun := 1 }) s
    | 2 => if 3 ≤ (getLink l s).identRun then updLink l (fun k => { k with phase := 3 }) s else s
    | 3 => linkCheck l s
    | 4 =>
      confirm l (ulParamOk f && ulParamCrc f == pword (portImage l s) 127 && k.paramNext == 128) (beginSeed l) s
    | 5 => confirm l (ulSeeded f && k.seedReady && decide (3 ≤ k.seedSent) && ulSeedEcho f == seedEcho k.seed) (linkUp l) s
    | _ => s

/-- A port reports a scan-sequence fault or a stale code: a coding failure (R92, R158). -/
def portReport (l : Nat) (s : State) : State :=
  let w := checkWord 0 7 0 l
  codingFailure 0x01 w 0 0x0011 (argOf [(0, w.toNat), (4, s.en.scanNo.toNat)]) s

/-- SEQ_FAULT of the common part (Table 4-4). -/
def takeSeqFault (l : Nat) (f : Frame) (s : State) : State := if ulSeqFault f then portReport l s else s

/-- The controller time of an edge record's accepted time (R85): the counter now, less the time since the last link cycle
began, less the cycles back to the one that CYC names, and the sample. A step of the counter moves it too (R48). -/
def edgeTime (k : Link) (f : Frame) (r : Word) (s : State) : DWord :=
  let cyc := (r >>> 6).toNat % 16
  let back := (k.cycle - ulEcho f).toNat + ((ulEcho f).toNat + 16 - cyc) % 16
  s.tb.counter - BitVec.ofNat 64 (s.clock - k.cycleClock + 10 * back) + BitVec.ofNat 64 ((r >>> 10).toNat % 16)

/-- One edge record journalled (R104, R105). Its time is the accepted time, while the quality byte is that of the moment at
which the uplink frame is received (R53; DESIGN CHOICE, log entry 84). -/
def takeEdge (l : Nat) (f : Frame) (r : Word) (s : State) : State :=
  let ch := r.toNat % 16
  let level := r.getLsbD 4
  let settle := r.getLsbD 5
  let ofs := (r >>> 14).toNat % 131072
  let s := raiseAt (edgeTime (getLink l s) f r s) (16 * l + ch) (if settle then 2 else 1) .info
    (argOf [(0, if settle then 0 else ofs), (4, level.toNat), (5, settle.toNat)]) s
  if settle then s else noteRelease l ch level s

/-- A DELTA frame (R83, R85). -/
def uplinkDelta (l : Fin 8) (framing : Bool) (f : Frame) (rt : Nat) (s : State) : State :=
  let k := getLink l s
  if k.held || k.phase == 0 then s
  else if !ulValid framing (if k.phase = 6 then [1] else []) f then badUplink l s
  else
    let s := takeCommon l f (noteDelay l rt s)
    if (getLink l s).held then s
    else (ulRecords f).foldl (fun s r => takeEdge l f r s) (takeSeqFault l f s)

/-! ## Diagnostics (R115, R118, R120, R144) -/

/-- Class, source and argument of a diagnostic (Tables 4-10, 5-6, 6-10); the arguments that need more than DIAG_ARG are
left to the handlers. -/
def diagOf (p : Nat) (code arg : Half) (s : State) : Option (Nat × Cls × List (Nat × Nat)) :=
  let a := arg.toNat
  let inSrc := 16 * p + a % 16
  let ch := chanSource p (a % 8)
  let own := [(0, a)]
  match code.toNat with
  | 0x0101 => some (inSrc, .warning, own)
  | 0x0102 => some (inSrc, .warning, [(0, (s.nv.live.decay[16 * p + a % 16]?.getD 0).toNat), (2, a / 16)])
  | 0x0103 => some (inSrc, .notice, own)
  | 0x0104 => some (inSrc, .warning, own)
  | 0x0105 => some (inSrc, .notice, own)
  | 0x0106 | 0x0110 | 0x0111 | 0x0112 | 0x0115 | 0x0117 => some (176 + p, .warning, own)
  | 0x0116 => some (176 + p, .notice, own)
  | 0x0201 => if (getLink p s).testing.getLsbD (a % 8) && a / 8 % 4 != 3 then some (ch, .info, own) else none
  | 0x0202 | 0x0203 | 0x0204 | 0x0301 | 0x0302 => some (ch, .warning, own)
  | 0x0303 => some (ch, .notice, own)
  | 0x0401 => some (176 + p, if a % 64 = 0 then .notice else .warning, own)
  | 0x0402 | 0x0403 | 0x0404 | 0x0405 => some (176 + p, .warning, own)
  | _ => none

/-- A latch of a channel as reported (Table 15-7): bit 0 port-open, 1 test-fail, 2 overcurrent, 3 overload, 4 thermal,
5 supply. -/
def setChLatch (p c bit : Nat) (s : State) : State :=
  updLink p (fun l => { l with chLatches := updVec l.chLatches c (fun b => b ||| ((1 : Byte) <<< bit)) }) s

/-- A latch of every channel of a mask. -/
def setChLatches (p : Nat) (mask bit : Nat) (s : State) : State :=
  (List.range 6).foldl (fun s c => if mask.testBit c then setChLatch p c bit s else s) s

/-- An input latch as reported. -/
def setInLatch (p i : Nat) (on : Bool) (s : State) : State :=
  let m : BitVec 16 := (1 : BitVec 16) <<< i
  updLink p (fun l => { l with inLatched := if on then l.inLatched ||| m else l.inLatched &&& ~~~m }) s

/-- The inputs of a source latch (R113, R116). -/
def latchSource (p k : Nat) (s : State) : State :=
  (List.range 16).foldl (fun s i => if inputUsed p i s && inputSrc p i s == k then setInLatch p i true s else s) s

/-- One report of a test of channel c: kind 1 OFF-test, 2 ON-test, 3 switch-off test (R127, R128). OUTPUT_TEST_NOW starts no
switch-off test; the first report of another kind while the channel's test is out is taken for that test's, since DIAG_ARG does not
tell it from a periodic one's (DESIGN CHOICE, log entry 122). -/
def noteTest (p c : Nat) (kind : Nat) (passed : Bool) (s : State) : State :=
  let counts := passed && (kind == 1 || kind == 3 || (kind == 2 && (getLink p s).seenClosed.getLsbD c))
  let s := if counts then channelTested p c s else s
  match s.cm.running with
  | some (.outputTest q mask ok bad st) =>
    if q.val = p ∧ mask.getLsbD c ∧ (getLink p s).testing.getLsbD c ∧ kind ≠ 3 then
      let ok := if passed then ok ||| chBit c else ok
      let bad := if passed then bad else bad ||| chBit c
      let s := updLink p (fun l => { l with testing := l.testing &&& ~~~chBit c }) s
      let s := { s with cm := { s.cm with running := some (.outputTest q mask ok bad st) } }
      if mask &&& ~~~(ok ||| bad) = 0 then finishOutputTest s else s
    else s
  | _ => s

/-- A source named by a report: what waits to be judged as SHORT_TO_SUPPLY falls away (R115). -/
def nameSource (p k : Nat) (s : State) : State :=
  noteUncleanSource p k { s with short := { s.short with
    foreign := s.short.foreign.filter (fun x => !(x.1 == p && x.2.1 == k)) } }

/-- An episode's pair is the sources (p, k) and (q, j), in either order (R115). -/
def isPair (p k q j : Nat) (x : Nat × Nat × Nat × Nat × Nat) : Bool :=
  (x.1 == p && x.2.1 == k && x.2.2.1 == q && x.2.2.2.1 == j) || (x.1 == q && x.2.1 == j && x.2.2.1 == p && x.2.2.2.1 == k)

/-- An episode whose last report lies within two frame periods (R115). -/
def pairFresh (s : State) (x : Nat × Nat × Nat × Nat × Nat) : Bool := decide (s.clock ≤ x.2.2.2.2 + 2 * framePeriod s)

/-- A report of a cross-short between an own source and the dark partner (R114, R115): it goes on with the episode whose last
report lies within two frame periods, or begins one. -/
def noteCrossShort (p own q partner : Nat) (s : State) : State :=
  let s := nameSource q partner (nameSource p own s)
  let goesOn := s.short.pairs.any (fun x => isPair q partner p own x && pairFresh s x)
  let s := { s with short := { s.short with
    pairs := s.short.pairs.filter (fun x => !isPair q partner p own x) ++ [(q, partner, p, own, s.clock)] } }
  if goesOn then s else raise (176 + q) 0x0113 .warning (argOf [(0, q), (1, partner), (2, p), (3, own)]) s

/-- A FOREIGN_VOLTAGE for source k waits for its judgement, unless a report within two periods names it (R115). -/
def noteForeign (p k : Nat) (s : State) : State :=
  let s := noteUncleanSource p k (latchSource p k s)
  let named := s.short.pairs.any (fun x =>
    pairFresh s x && ((x.1 == p && x.2.1 == k) || (x.2.2.1 == p && x.2.2.2.1 == k)))
  if named then s
  else { s with short := { s.short with foreign := s.short.foreign ++ [(p, k, s.clock)] } }

/-- What a diagnostic changes beside its record. -/
def diagEffect (p : Nat) (code arg : Half) (s : State) : State :=
  let a := arg.toNat
  let c := a % 8
  match code.toNat with
  | 0x0006 => portReport p (setChLatches p 63 0 s)
  | 0x0007 => portReport p (setChLatch p c 0 s)
  | 0x0101 => noteUncleanInput p (a % 16) (setInLatch p (a % 16) true s)
  | 0x0103 =>
    let s := setItem (fun q => { q with decay := updVec q.decay (16 * p + a % 16) (fun _ => BitVec.ofNat 16 (a / 16)) }) s
    noteLearn p (a % 16) true s
  | 0x0104 => noteLearn p (a % 16) false s
  | 0x0105 => setInLatch p (a % 16) false s
  | 0x0111 => noteForeign p (a % 8 + 1) s
  | 0x0112 => noteCrossShort p (a % 8 + 1) (a / 8 % 8) (a / 64 % 8 + 1) s
  | 0x0115 => noteUncleanSource p (a % 8 + 1) (latchSource p (a % 8 + 1) s)
  | 0x0201 => noteTest p c (a / 8 % 4) true s
  | 0x0202 | 0x0203 => noteTest p c 0 false (setChLatch p c 1 s)
  | 0x0204 => setChLatch p c 2 s
  | 0x0301 | 0x0302 => setChLatch p c 1 s
  | 0x0402 => if a / 256 % 2 = 1 then setChLatches p 63 3 s else s
  | 0x0404 => setChLatches p 63 4 s
  | _ => s

/-- The event of a diagnostic raised. SCAN_SEQ_FAULT's two scan numbers, which do not fit DIAG_ARG, are those that the port held at
its last scan-sequence fault; where it has had none they are free values (log entry 27). Of CODE_STALE, the controller gives its last published scan number and takes
DIAG_ARG as the channel (DESIGN CHOICE, log entry 85). -/
def raiseDiag (p : Nat) (code arg : Half) (s : State) : State :=
  match code.toNat with
  | 0x0006 =>
    let x := (getPort p s).seqScans.getD (Config.freeWord s.fresh, Config.freeWord (s.fresh + 1))
    raiseCause 7 (raise (184 + p) 0x0006 .fault (argOf [(0, x.1.toNat), (4, x.2.toNat)]) { s with fresh := s.fresh + 2 })
  | 0x0007 =>
    raiseCause 7 (raise (184 + p) 0x0007 .fault (argOf [(0, s.en.scanNo.toNat), (4, arg.toNat % 8)]) s)
  | _ =>
    match diagOf p code arg s with
    | some (src, cls, fields) =>
      let s := raise src code cls (argOf fields) s
      if 2 ≤ cls.code then raiseCause 7 s else s
    | none => s

/-- One port diagnostic received (R120, R318): kept among the last 32, journalled, and acted on. -/
def takeDiag (p : Nat) (code arg : Half) (s : State) : State :=
  if code = 0 then s
  else
    let t : Word := s.tb.counter.setWidth 32
    let s := updLink p (fun l => { l with diags := ((code, arg, t) :: l.diags).take 32 }) s
    diagEffect p code arg (raiseDiag p code arg s)

/-! ## REFRESH (R120, R143) -/

/-- The number of the scan that the last downlink frame named by its low 24 bits (Table 4-2): that or an earlier one. -/
def sentScan (k : Link) (s : State) : Word := s.en.scanNo - (s.en.scanNo.setWidth 24 - dlScan k.tx).setWidth 32

/-- The last downlink frame carried a non-ON value for channel c (Table 6-1). -/
def sentNonOn (k : Link) (c : Nat) (s : State) : Bool :=
  if c < 4 then dlType k.tx == 3 && dlCode k.tx c != onCode k.seed (sentScan k s) c
  else dlType k.tx == 3 && (dlBrake k.tx (c - 4) == 0 || dlBrake k.tx (c - 4) == 3)

/-- The channel latches as reported, after a REFRESH (Table 6-1): a closed channel has none, a non-ON value clears those
whose further condition holds, and a UF2 flag sets the supply latch. A disabled channel's clear in the same way (R92, R123). -/
def refreshLatch (k : Link) (ilim : Nat) (nonOn : Bool) (f : Frame) (c : Nat) (b : Byte) : Byte :=
  let uf2Bad := (ulSupply f).getLsbD 3 || (ulSupply f).getLsbD 5
  if (ulOutState f).getLsbD c then 0
  else
    let b := if nonOn then b &&& ~~~(0x05 : Byte) else b
    let b := if nonOn && decide ((ulLoad f).toNat < ilim) then b &&& ~~~(0x08 : Byte) else b
    let b := if nonOn && decide ((ulTemp f).toNat < 194) then b &&& ~~~(0x10 : Byte) else b
    if uf2Bad && k.phase == 6 then b ||| 0x20 else if nonOn then b &&& ~~~(0x20 : Byte) else b

/-- What a REFRESH shows (R143). -/
def takeRefresh (l : Nat) (f : Frame) (s : State) : State :=
  let ilim := (pword (portImage l s) 0x52).toNat
  let nonOn := (List.range 6).map (fun c => sentNonOn (getLink l s) c s)
  updLink l (fun k =>
    let bad := (ulDlErr f - k.dlLast).toNat
    { k with
      settling := ulSettling f, refLevels := ulLevels f, supply := ulSupply f, outState := ulOutState f, uf1V := ulUf1 f, uf2V := ulUf2 f,
      temp := ulTemp f, loadI := ulLoad f, dlLast := ulDlErr f,
      dlErr := BitVec.ofNat 16 (satNat 65535 (k.dlErr.toNat + bad)), dlBad := k.dlBad ++ List.replicate bad k.cycles,
      chLatches := k.chLatches.mapIdx (fun c b => refreshLatch k ilim (nonOn[c]?.getD false) f c b) }) s

/-- LATCHED follows the latches at the end of each REFRESH (R143). -/
def showLatched (l : Nat) (s : State) : State := updLink l (fun k => { k with latched := latchedMask k.chLatches }) s

/-- The tests of OUTPUT_TEST_NOW have had their 10 ms, and no diagnostic is left to report (R127, R319). -/
def endOutputTest (l : Nat) (f : Frame) (s : State) : State :=
  match s.cm.running with
  | some (.outputTest p _ _ _ start) =>
    if p.val = l ∧ ulDiagCode f = 0 ∧ start + 10000 ≤ s.clock then finishOutputTest s else s
  | _ => s

/-- A REFRESH frame (R84, R120, R143). -/
def uplinkRefresh (l : Fin 8) (framing : Bool) (f : Frame) (rt : Nat) (s : State) : State :=
  let k := getLink l s
  if k.held || k.phase == 0 then s
  else if !ulValid framing (if k.phase = 6 then [2] else []) f then badUplink l s
  else
    let s := takeCommon l f (noteDelay l rt s)
    if (getLink l s).held then s
    else
      let s := checkRate l (takeRefresh l f (takeSeqFault l f s))
      endOutputTest l f (showLatched l (takeDiag l (ulDiagCode f) (ulDiagArg f) s))

/-! ## Episodes (R115) -/

/-- More than two frame periods without a report for a pair: its episode ends. Sources are 1 to 8. -/
def crossShortEnd (p k q j : Nat) (s : State) : State :=
  { s with short := { s.short with pairs := s.short.pairs.filter (fun x => !isPair p k q j x || pairFresh s x) } }

/-- Two frame periods after an unmatched FOREIGN_VOLTAGE: SHORT_TO_SUPPLY, once for each episode. -/
def shortToSupply (p k : Nat) (s : State) : State :=
  match s.short.foreign.find? (fun x =>
      x.1 == p && x.2.1 == k && decide (x.2.2 + 2 * framePeriod s ≤ s.clock)) with
  | none => s
  | some x =>
    let last := (s.short.supplied.find? (fun y => y.1 == p && y.2.1 == k)).map (fun y => y.2.2)
    let again := match last with
      | some t => decide (x.2.2 ≤ t + 2 * framePeriod s)
      | none => false
    let s := { s with short := { s.short with
      foreign := s.short.foreign.erase x,
      supplied := s.short.supplied.filter (fun y => !(y.1 == p && y.2.1 == k)) ++ [x] } }
    let s := noteUncleanSource p k s
    if again then s else raise (176 + p) 0x0114 .warning (argOf [(0, k)]) s

end Sys2Proof.Machine
end

