-- ==== Sys2Proof/Machine/Staging.lean ====
section
/-! DEFINITION. Configuration banks (R244, R245) and the commands that stage, commit, discard, activate and describe an
image (R304 to R307). -/

namespace Sys2Proof.Machine

/-! ## Banks -/

/-- The first LENGTH bytes of a bank's body. -/
def Bank.bodyBytes (b : Bank) : List Byte := Memory.readBytes b.body 0 b.length

/-- STATE of a bank header (Table 12-2). -/
def BankState.word : BankState → Word
  | .empty => 0 | .staging => 0x53544147 | .committed => 0x434F4D54

/-- The number of the bank that is not active: 0 A, 1 B. -/
def inactiveIx (s : State) : Nat := if s.nv.live.activeB then 0 else 1

/-- The macro of the inactive bank is out of service (R257). -/
def inactiveOut (s : State) : Bool := if s.nv.live.activeB then s.nv.live.nvaOut else s.nv.live.nvbOut

/-- The inactive bank written at an offset and read back (R243); nothing is written to a macro out of service, which a failed
write takes out (R250, R257). STAGED_VALID shows the bank again. -/
def putInactive (off len : Nat) (f : Bank → Bank) (s : State) : State :=
  let s := writeOne (!s.nv.live.activeB) off len s
  if inactiveOut s then s
  else
    let s := { s with dev := { s.dev with discarded := false } }
    if s.nv.live.activeB then { s with nv := { s.nv with bankA := f s.nv.bankA } }
    else { s with nv := { s.nv with bankB := f s.nv.bankB } }

/-! ## Staging (R304) -/

/-- STAGE_CONFIG_BEGIN. -/
def stageBegin (length : Nat) (s : State) : Byte × List Byte × State :=
  if length = 0 ∨ 262080 < length then (stBadParam, [], s)
  else if degraded s then (stDegraded, [], s)
  else
    let s := putInactive 0 64 (fun b => { b with state := .staging, length := length }) s
    if inactiveOut s then (stDegraded, [], s) else (stOk, [BitVec.ofNat 8 (inactiveIx s)], s)

/-- STAGE_CONFIG_DATA. A bank whose macro is out of service is no longer STAGING (DESIGN CHOICE, log entry 96). -/
def stageData (offset : Nat) (bytes : List Byte) (s : State) : Byte × List Byte × State :=
  let b := inactiveBank s
  if b.state != .staging || inactiveOut s then (stWrongState, [], s)
  else if b.length < offset + bytes.length then (stBadParam, [], s)
  else
    let s := putInactive (64 + offset) bytes.length (fun b => { b with body := Memory.writeBytes b.body offset bytes }) s
    if inactiveOut s then (stWrongState, [], s) else (stOk, leBytes 4 (offset + bytes.length), s)

/-- DISCARD_STAGED (R307): STAGED_VALID clears even where the bank's macro can no longer be written (R257). -/
def discardStaged (s : State) : State :=
  let s := putInactive 0 64 (fun b => { b with state := .empty }) s
  if inactiveOut s then { s with dev := { s.dev with discarded := true } } else s

/-! ## Commit (R305) -/

/-- The reply data of a refusal: reason, block, body offset. -/
def commitRefusal (reason block : Nat) (offset : Word) : List Byte :=
  [BitVec.ofNat 8 reason, 0] ++ leBytes 2 block ++ bytes4 offset

/-- The reply data of a success. -/
def commitReply (ix : Nat) (b : Bank) : List Byte := [BitVec.ofNat 8 ix, 0, 0, 0] ++ bytes4 b.imgSeq ++ bytes4 b.bodyCrc

/-- The entries of the patch set in use. -/
def patchEntries (s : State) : List TestedEntry := (allEntries s).drop s.fu.rom.tested.length

/-- Image format and ABI level supported by the ROM and patch set (R305). -/
def formatKnown (f : Half) (s : State) : Bool := s.fu.rom.formats.contains f || (patchEntries s).any (fun e => e.fitsFormat f)
def abiKnown (a : Half) (s : State) : Bool := s.fu.rom.abis.contains a || (patchEntries s).any (fun e => e.abi == a)

/-- The checks of a body in order (R305): the refusal's data, or none. -/
def bodyRefusal (crc : Word) (body : List Byte) (s : State) : Option (List Byte) :=
  let pre := Config.preamble body
  if crc32 body ≠ crc then some (commitRefusal 1 0xFFFF 0)
  else if !formatKnown pre.1 s then some (commitRefusal 2 0xFFFF (Config.preambleOffset body 0))
  else if !abiKnown pre.2.1 s then some (commitRefusal 2 0xFFFF (Config.preambleOffset body 1))
  else
    let n := Config.brokenBlock body
    match Config.imageOfBody body with
    | none => some (commitRefusal 3 n (Config.blockOffset body n))
    | some im =>
      match brokenBlock im with
      | some i => some (commitRefusal 3 i (Config.blockOffset body i))
      | none => if wholeOk im then none else some (commitRefusal 3 n (Config.blockOffset body n))

/-- The header completed (R245): IMG_SEQ is the active image's plus 1. -/
def Bank.complete (seq crc : Word) (b : Bank) : Bank :=
  let pre := Config.preamble b.bodyBytes
  { b with state := .committed, imgSeq := seq, bodyCrc := crc, format := pre.1, abi := pre.2.1, compiler := pre.2.2 }

/-- STAGE_CONFIG_COMMIT. A discarded bank, and a STAGING one whose macro is out of service, is neither STAGING nor COMMITTED
(DESIGN CHOICE, log entry 96). -/
def stageCommit (crc : Word) (s : State) : Byte × List Byte × State :=
  let b := inactiveBank s
  match b.state with
  | .empty => (stWrongState, [], s)
  | .committed =>
    if s.dev.discarded then (stWrongState, [], s)
    else if b.bodyCrc = crc then (stOk, commitReply (inactiveIx s) b, s)
    else (stBadParam, commitRefusal 1 0xFFFF 0, s)
  | .staging =>
    if inactiveOut s then (stWrongState, [], s)
    else match bodyRefusal crc b.bodyBytes s with
    | some data => (stBadParam, data, s)
    | none =>
      let done := b.complete (s.nv.live.activeSeq + 1) crc
      let t := putInactive 0 64 (fun _ => done) s
      if inactiveOut t then (stWrongState, [], t) else (stOk, commitReply (inactiveIx t) done, t)

/-! ## Activation (R306) -/

/-- A port that the image references and that has identified itself has a revision tested with the image (R345, R347). -/
def portsTested (im : Image) (b : Bank) (s : State) : Bool :=
  (List.range 8).all (fun p =>
    let rev := s.fu.revs[p]?.getD 0
    !im.references p || rev == 0 || revTested b.abi b.format b.compiler rev s)

/-- The checks of ACTIVATE_CONFIG in order: the status, and the image where all pass. -/
def activateCheck (seq : Word) (s : State) : Byte × Option Image :=
  let b := inactiveBank s
  match Config.imageOfBody b.bodyBytes with
  | none => (stWrongState, none)
  | some im =>
    if s.dev.dvState != .stop || !stagedValid s then (stWrongState, none)
    else if b.imgSeq ≠ seq then (stBadParam, none)
    else if imageMismatch b.abi b.format b.compiler s ≠ 0 || !portsTested im b s then (stMismatch, none)
    else if degraded s then (stDegraded, none)
    else (stOk, some im)

/-- The parameter record that names the staged bank, CONFIG_ACTIVATED, NO_CONFIG cleared. -/
def activateBank (s : State) : State :=
  let b := inactiveBank s
  let ix := inactiveIx s
  let s := storeItem (fun p => { p with activeB := !p.activeB, activeSeq := b.imgSeq, hasActive := true }) s
  let s := raise 227 0x0A03 .notice (argOf [(0, ix), (4, b.imgSeq.toNat)]) s
  { s with dev := { s.dev with noConfig := false } }

/-- The reply data of an activation: the bank now active and its IMG_SEQ. -/
def activateReply (s : State) : List Byte := BitVec.ofNat 8 s.nv.live.activeB.toNat :: bytes4 s.nv.live.activeSeq

/-- The mode after an image is loaded: without a MODESEL the device stays in AUTO (R192). -/
def modeOfImage (im : Option Image) (m : Mode) : Mode :=
  match im with
  | some i => if i.blocks.any (fun b => b.type == .modesel) then m else .auto
  | none => .auto

/-- A link let go for the start that ACTIVATE_CONFIG gives it (R86), one of those that R151 does not fold. -/
def Link.restarted (l : Link) : Link := { l with phase := 1, later := false, quarantine := false, strapErr := false }

/-- Every link let go, and every one below the fused port count started again after its hold. -/
def restartLinks (s : State) : State :=
  let s := (List.range 8).foldl (fun s l => dropLink l s) s
  { s with links := s.links.mapIdx (fun i l => if i < portsFused s then l.restarted else l) }

/-- What follows the outcome of ACTIVATE_CONFIG: the image is read, links start again, the engine's state is loaded afresh,
consumers are EMPTY. The AORF's settings-differ flag stays as the last write left it, though the defaults have changed (DESIGN CHOICE,
log entry 115). -/
def afterActivate (im : Image) (s : State) : State :=
  let s := loadImage (some im) (restartLinks s)
  let s := { s with
    en := { s.en with dryStep := 0 }, sf := { s.sf with conss := Vector.replicate 32 ConsSt.new },
    dev := { s.dev with mode := modeOfImage (some im) s.dev.mode } }
  requestLoad (versionRegs s)

/-! ## CONFIG_INFO (R307) -/

/-- The reply data of CONFIG_INFO for a bank. -/
def configInfoData (isActive : Bool) (b : Bank) : List Byte :=
  let im := if isActive || b.state == .committed then Config.imageOfBody b.bodyBytes else none
  let n (f : Image → Nat) : Nat := (im.map f).getD 0
  bytes4 b.state.word ++ bytes4 b.imgSeq ++ leBytes 4 b.length ++ bytes4 b.bodyCrc ++ bytes2 b.format ++ bytes2 b.abi
    ++ bytes4 b.compiler ++ leBytes 2 (n (fun i => i.blocks.length)) ++ leBytes 2 (n (fun i => i.signals.length))
    ++ [BitVec.ofNat 8 (n (fun i => i.scanPer.val)), BitVec.ofNat 8 (n (fun i => i.autoRun.toNat + 2 * i.pwrUp.code))]
    ++ leBytes 2 (n (fun i => i.wcetUs.toNat))

/-- CONFIG_INFO: 0 the active bank, 1 the inactive one. -/
def configInfo (which : Nat) (s : State) : Byte × List Byte :=
  if which = 0 then (stOk, configInfoData true (activeBank s))
  else if which = 1 then (stOk, configInfoData false (inactiveBank s))
  else (stBadParam, [])

end Sys2Proof.Machine
end

