-- ==== Sys2Proof/Machine/Unsequenced.lean ====
section
/-! DEFINITION. The unsequenced opcodes (Table 15-1, class U): what each answers, and what it changes. -/

namespace Sys2Proof.Machine

/-- A status, reply data, and the state after. -/
abbrev Answer := Byte × List Byte × State

/-- An answer that changes nothing. -/
def tell (s : State) (data : List Byte) : Answer := (stOk, data, s)

/-- A refusal with no data. -/
def refuse (s : State) (status : Byte) : Answer := (status, [], s)

/-- Registers from index i, as reply data. -/
def regBytes (i n : Nat) (s : State) : List Byte := (List.range n).flatMap (fun k => bytes4 (hrf (i + k) s))

/-! ## Identity, state, versions (Tables 15-2, 15-3) -/

def identityData (s : State) : List Byte :=
  let r := (s.fu.row 0).data.toNat
  leBytes 4 r ++ [BitVec.ofNat 8 (r / 2 ^ 32), 0] ++ leBytes 2 (r / 2 ^ 48) ++ leBytes 8 (r / 2 ^ 64) ++ bytes4 s.fu.site
    ++ bytes2 (nodeId s) ++ [s.hb.base.setWidth 8, BitVec.ofNat 8 (portsFused s)]

def stateData (s : State) : List Byte :=
  [s.dev.dvState.code, (dvMode s).setWidth 8, s.aorf.lastState, s.tb.statusByte] ++ bytes4 (dvFault s)
    ++ bytes4 (dvFlags s) ++ bytes4 (dvResetCause s) ++ bytes4 s.en.scanNo ++ bytes4 s.nv.lastE ++ bytes4 s.nv.head

def versionsData (s : State) : List Byte :=
  bytes4 s.fu.rom.version ++ bytes4 s.fu.patchVer ++ bytes4 s.fu.abiReg ++ bytes4 s.fu.compiler ++ s.fu.revs.toList
    ++ [BitVec.ofNat 8 (antiRollback s), BitVec.ofNat 8 (compatFloor s)] ++ bytes2 s.fu.mismatch
    ++ bytes4 s.nv.live.activeSeq

/-! ## READ_HRF (R302) -/

def readHrf (p : List Byte) (s : State) : Answer :=
  let start := (byteAt p 0).toNat
  let count := (byteAt p 1).toNat
  let rep := (byteAt p 2).getLsbD 0
  if count = 0 ∨ 64 < count ∨ (!rep ∧ 256 < start + count) then refuse s stBadParam
  else
    let r := readRegs (if rep then 0 else 1) count start s
    (stOk, r.1.flatMap bytes4, r.2)

/-! ## Host signals (R310) -/

/-- Entry i of HOST_SIGNALS_WRITE. -/
def signalEntry (p : List Byte) (i : Nat) : Nat × Half := ((byteAt p (8 + 4 * i)).toNat, halfAt p (10 + 4 * i))

def hostSignals (p : List Byte) (s : State) : Answer :=
  let m := wordAt p 0
  let entries := (List.range ((p.length - 8) / 4)).map (signalEntry p)
  if entries.any (fun e => decide (31 < e.1)) then refuse s stBadParam
  else
    let words := entries.foldl (fun (v : Vector (Option Half) 32) e => v.setIfInBounds e.1 (some e.2)) s.cm.hostWord
    let next : Word := if s.dev.dvState = .run then s.en.scanNo + 1 else 0
    (stOk, bytes4 next, { s with cm := { s.cm with
      hostBool := (s.cm.hostBool &&& ~~~m) ||| (wordAt p 4 &&& m), hostBoolSet := s.cm.hostBoolSet ||| m,
      hostWord := words } })

/-! ## Journal and outcomes (R311, R312) -/

def journalRead (p : List Byte) (s : State) : Answer :=
  let start := wordAt p 0
  let count := (byteAt p 4).toNat
  if count = 0 ∨ 15 < count ∨ startRefused start s then refuse s stBadParam
  else
    let l := if startBeyond start s then [] else (recordsFrom start s).take count
    tell s ([BitVec.ofNat 8 l.length, 0, 0, 0] ++ l.flatMap Record.bytes)

/-- The outcome table entry of a CSN (R290). -/
def outcomeOf (c : Word) (s : State) : Option OutcomeEntry :=
  match (s.nv.outcomes[c.toNat % 64]?).join with
  | some o => if o.csn = c then some o else none
  | none => none

/-- n bytes of data, filled with 0. -/
def padTo (n : Nat) (data : List Byte) : List Byte := (data ++ List.replicate n 0).take n

/-- Table 15-4. -/
def outcomeData (c : Word) (s : State) : List Byte :=
  match chainOf c s, outcomeOf c s with
  | some k, _ => [1, k.opcode, 0x01, 0] ++ padTo 16 []
  | none, some o =>
    if o.skip then [2, 0, 0x24, 0] ++ padTo 16 []
    else [0, o.opcode, o.status, BitVec.ofNat 8 o.data.length] ++ padTo 16 o.data
  | none, none => [3, 0, 0, 0] ++ padTo 16 []

def commandOutcome (p : List Byte) (s : State) : Answer :=
  if wordAt p 0 = 0 then refuse s stBadParam else tell s (outcomeData (wordAt p 0) s)

/-! ## Time (R314) -/

def timeStatusData (s : State) : List Byte :=
  bytes4 (tbStatus s) ++ bytes8 s.tb.counter ++ bytes4 s.nv.live.utcOffset ++ bytes4 s.tb.phaseErr ++ bytes4 s.tb.rate
    ++ bytes4 (tbErrBound s) ++ bytes4 s.tb.lockSecs ++ bytes4 s.tb.irigStat ++ bytes4 (dvClock s)

/-! ## SFL (R315, R316) -/

def sflStatus (p : List Byte) (s : State) : Answer :=
  let kind := (byteAt p 0).toNat
  let n := (byteAt p 1).toNat
  if 1 < kind ∨ 31 < n then refuse s stBadParam else tell s (sflStatusData (kind == 1) n s)

/-- Frames queued in order until the queue is full, with their number. -/
def queueFrames : List (List Byte) → State → Nat × State
  | [], s => (0, s)
  | b :: r, s =>
    if inFull s then (0, (b :: r).foldl (fun s _ => loseIn s) s)
    else
      let x := queueFrames r (queueIn b s)
      (x.1 + 1, x.2)

def sflFrameIn (p : List Byte) (s : State) : Answer :=
  match s.dev.dvState with
  | .stop | .run | .fault =>
    let frames := (List.range (p.length / 32)).map (fun i => (p.drop (32 * i)).take 32)
    let x := queueFrames frames s
    (if x.1 = frames.length then stOk else stWindowFull, [BitVec.ofNat 8 x.1], x.2)
  | _ => refuse s stWrongState

def sflFrameOut (p : List Byte) (s : State) : Answer :=
  let m := (byteAt p 0).toNat
  if m = 0 ∨ 15 < m then refuse s stBadParam
  else
    let x := takeOut m s
    (stOk, [BitVec.ofNat 8 x.1.length, BitVec.ofNat 8 x.2.sf.outq.length, 0, 0] ++ x.1.flatten, x.2)

/-! ## Ports (R318) -/

/-- Table 15-7. -/
def portStatusData (p : Nat) (s : State) : List Byte :=
  let l := getLink p s
  bytes4 (ptLink l) ++ bytes4 (ptLinkErr l) ++ bytes4 (ptPort l) ++ bytes4 (ptSup l) ++ leBytes 2 l.refLevels.toNat
    ++ leBytes 2 l.settling.toNat ++ leBytes 2 l.inLatched.toNat ++ l.chLatches.toList ++ [0, 0, 0, 0]
    ++ (List.range 6).flatMap (fun c => leBytes 4 (channelHours (6 * p + c) s))

def portStatus (p : List Byte) (s : State) : Answer :=
  let n := (byteAt p 0).toNat
  if portsFused s ≤ n then refuse s stBadParam else tell s (portStatusData n s)

def portDiag (p : List Byte) (s : State) : Answer :=
  let n := (byteAt p 0).toNat
  let count := (byteAt p 1).toNat
  if portsFused s ≤ n ∨ count = 0 ∨ 32 < count then refuse s stBadParam
  else
    let l := (getLink n s).diags.take count
    tell s ([BitVec.ofNat 8 l.length, 0, 0, 0] ++ l.flatMap (fun d => bytes2 d.1 ++ bytes2 d.2.1 ++ bytes4 d.2.2))

/-! ## The opcodes -/

/-- An unsequenced opcode other than DEBUG_CHALLENGE executed. -/
def execPlain (op : Byte) (p : List Byte) (s : State) : Answer :=
  match op.toNat with
  | 0x01 => tell s p
  | 0x02 => tell s (identityData s)
  | 0x03 => tell s (stateData s)
  | 0x04 => tell s (versionsData s)
  | 0x05 => readHrf p s
  | 0x15 => let r := configInfo (byteAt p 0).toNat s; (r.1, r.2, s)
  | 0x23 => hostSignals p s
  | 0x30 => journalRead p s
  | 0x32 => tell s (regBytes 0x30 7 s)
  | 0x38 => commandOutcome p s
  | 0x41 => tell s (timeStatusData s)
  | 0x50 => sflStatus p s
  | 0x51 => sflFrameIn p s
  | 0x52 => sflFrameOut p s
  | 0x60 => portStatus p s
  | 0x61 => portDiag p s
  | 0x72 => tell s (regBytes 0x80 8 s)
  | 0x80 => let r := fuseRead (byteAt p 0).toNat s; (r.1, r.2, s)
  | 0x83 => tell s (patchStatusData s)
  | 0x93 => tell s (regBytes 0x98 8 s)
  | _ => refuse s stUnknown

end Sys2Proof.Machine
end

