-- ==== Sys2Proof/Machine/Sequenced.lean ====
section
/-! DEFINITION. The sequenced opcodes as they execute (Table 15-1, classes S and D). -/

namespace Sys2Proof.Machine

/-- What a command does once its outcome is committed. -/
inductive After where
  | nothing
  | reset (k : Kind)
  | activate (im : Image)
deriving DecidableEq, Repr

/-- One execution: its result, or none while it still runs; the state; what follows the outcome. -/
structure ExecRes where
  result : Option (Byte × List Byte)
  st     : State
  after  : After := .nothing

/-- An execution that ends at once. -/
def ends (a : Byte × List Byte × State) : ExecRes := { result := some (a.1, a.2.1), st := a.2.2 }

/-- An execution that goes on. -/
def goesOn (r : Running) (s : State) : ExecRes := { result := none, st := { s with cm := { s.cm with running := some r } } }

/-- A refusal. -/
def refuses (status : Byte) (s : State) : ExecRes := ends (status, [], s)

/-- A success. -/
def succeeds (data : List Byte) (s : State) : ExecRes := ends (stOk, data, s)

/-! ## Configuration, run control and mode (R306, R308, R309) -/

def execActivateSeq (p : List Byte) (s : State) : ExecRes :=
  match activateCheck (wordAt p 0) s with
  | (_, some im) =>
    let s := activateBank s
    { result := some (stOk, activateReply s), st := s, after := .activate im }
  | (st, none) => refuses st s

/-- RUN: refused with NO_CONFIG, and while the engine is in debug mode (R374). -/
def execRunSeq (s : State) : ExecRes :=
  match s.dev.dvState with
  | .run => succeeds [] s
  | .stop => if s.dev.noConfig || s.en.debug || s.en.image.isNone then refuses stWrongState s else succeeds [] (enterRun 0x20 s)
  | _ => refuses stWrongState s

def execStopSeq (s : State) : ExecRes :=
  match s.dev.dvState with
  | .stop => succeeds [] s
  | .run => succeeds [] (setState .stop 0x21 (stopEngine s))
  | _ => refuses stWrongState s

/-- The active image holds a MODESEL. -/
def hasModesel (s : State) : Bool := (blocksOf s).any (fun b => b.type == .modesel)

def execModeSeq (p : List Byte) (s : State) : ExecRes :=
  let m := (byteAt p 0).toNat
  if s.dev.dvState ≠ .run then refuses stWrongState s
  else if 2 < m ∨ !hasModesel s then refuses stBadParam s
  else goesOn (.modeRequest m) s

/-- Fault codes that only a reset leaves, and OVERTEMP while it persists (R308). -/
def faultStays (s : State) : Bool :=
  let c := s.dev.faultCode
  c == 0x02 || c == 0x03 || c == 0x04 || c == 0x08 || (c == 0x09 && s.dev.overTemp)

def execFaultAckSeq (s : State) : ExecRes :=
  if s.dev.dvState = .fault ∧ s.en.reverifyOk ∧ ¬ s.en.reverify ∧ ¬ faultStays s then succeeds [] (setState .stop 0x24 s)
  else refuses stWrongState s

/-! ## Time (R39, R313, R314) -/

def execTimeSetSeq (p : List Byte) (s : State) : ExecRes :=
  let tai := dwordAt p 0
  let off := halfAt p 8
  let f := byteAt p 10
  let atPps := f.getLsbD 0
  if (f.getLsbD 1 && f.getLsbD 3) || decide (255 < off.toNat) || (atPps && tai.toNat % 1000000 != 0) then refuses stBadParam s
  else if s.tb.quality = .lockedIrig ∨ (s.tb.quality = .lockedPps ∧ ¬ atPps) then refuses stWrongState s
  else if atPps then
    if s.tb.ppsValid then goesOn (.timeAtPps tai off f) s else refuses stBadParam s
  else succeeds (bytes8 (tai - s.tb.counter)) (writeParams (applyTimeSet tai off f s))

def execSourceSeq (p : List Byte) (s : State) : ExecRes :=
  let n := (byteAt p 0).toNat
  if 3 < n then refuses stBadParam s else succeeds [BitVec.ofNat 8 n] (noteSettings (selectSource (BitVec.ofNat 2 n) s))

/-! ## Journal (R253, R311) -/

def execJournalAckSeq (p : List Byte) (s : State) : ExecRes :=
  let r := journalAck (wordAt p 0) s
  if r.1 = stOk then succeeds (bytes4 r.2.nv.live.ack ++ leBytes 4 (jrUnack r.2)) r.2 else refuses r.1 s

/-! ## Ports (R319, R320) -/

/-- Every channel of a mask is enabled. -/
def channelsEnabled (p : Nat) (mask : BitVec 6) (s : State) : Bool :=
  (List.range 6).all (fun c => !mask.getLsbD c || chanEnabled p c s)

/-- A run-time word put in a link's queue. -/
def queueWrite (p : Nat) (a : Byte) (w : Half) (s : State) : State :=
  updLink p (fun l => { l with writes := l.writes ++ [(a, w)] }) s

def execOutputTestSeq (p : List Byte) (s : State) : ExecRes :=
  let n := (byteAt p 0).toNat
  let mask : BitVec 6 := (byteAt p 1).setWidth 6
  if ¬ stateRunStop s then refuses stWrongState s
  else if h : n < 8 then
    if (getLink n s).phase ≠ 6 then refuses stWrongState s
    else if mask = 0 ∨ !channelsEnabled n mask s then refuses stBadParam s
    else
      let s := queueWrite n 0x84 (mask.setWidth 16) (updLink n (fun l => { l with testing := mask }) s)
      goesOn (.outputTest ⟨n, h⟩ mask 0 0 s.clock) s
  else refuses stWrongState s

/-- Every port of a mask has its link up. -/
def linksUp (ports : Byte) (s : State) : Bool := (List.range 8).all (fun p => !ports.getLsbD p || (getLink p s).phase == 6)

def execLearnSeq (p : List Byte) (s : State) : ExecRes :=
  let ports := byteAt p 0
  let sources := byteAt p 1
  if s.dev.dvState ≠ .stop then refuses stWrongState s
  else if ports = 0 ∨ sources = 0 then refuses stBadParam s
  else if !linksUp ports s then refuses stWrongState s
  else
    goesOn (.learn ports sources [])
      ((List.range 8).foldl (fun s q => if ports.getLsbD q then queueWrite q 0x83 (sources.setWidth 16) s else s) s)

/-! ## Printer (R321, R359, R364) -/

/-- TEST_LINE: a test request with its CSN; each prints once. -/
def printTest (csn : Word) (s : State) : State :=
  if s.nv.live.testDone = csn ∨ csn ∈ s.nv.live.testReq then s
  else storeItem (fun p => { p with testReq := p.testReq ++ [csn] }) s

/-- The reply data of PRINT_CONTROL: the printer status word. -/
def wpStatusData (s : State) : List Byte := bytes4 (wpReg 0 s)

def execPrintControlSeq (csn : Word) (p : List Byte) (s : State) : ExecRes :=
  let n := (byteAt p 1).toNat
  match (byteAt p 0).toNat with
  | 1 =>
    let s := noteSettings { s with set := { s.set with paused := true } }
    succeeds (wpStatusData s) s
  | 2 =>
    let s := noteSettings (printResume s)
    succeeds (wpStatusData s) s
  | 3 =>
    if n = 0 then refuses stBadParam s
    else
      let s := printFeed csn n s
      succeeds (wpStatusData s) s
  | 4 =>
    let s := printTest csn s
    succeeds (wpStatusData s) s
  | _ => refuses stBadParam s

/-- The reply data of PRINT_TEXT: the lines waiting. -/
def textWaiting (s : State) : List Byte := [BitVec.ofNat 8 s.nv.live.text.length, 0, 0, 0]

def execPrintTextSeq (csn : Word) (p : List Byte) (s : State) : ExecRes :=
  if p.any (fun b => decide (b.toNat < 0x20) || decide (0x7E < b.toNat)) then refuses stBadParam s
  else if s.nv.live.text.any (fun t => t.csn == csn) then succeeds (textWaiting s) s
  else if 8 ≤ s.nv.live.text.length then refuses stWindowFull s
  else
    let s := storeItem (fun q => { q with text := q.text ++ [{ csn := csn, bytes := p, after := s.nv.head }] }) s
    succeeds (textWaiting s) s

/-! ## Fuses and patches (R323, R324) -/

def execPatchSeq (p : List Byte) (s : State) : ExecRes :=
  let n := leAt p 4 4
  match (byteAt p 0).toNat with
  | 0 => ends (patchBegin n s)
  | 1 =>
    if 1 ≤ p.length - 8 ∧ p.length - 8 ≤ 500 then ends (patchData n (p.drop 8) s) else refuses stBadParam s
  | 2 => ends (patchFinish n s)
  | _ => refuses stBadParam s

/-! ## Device control (R70, R325) -/

def execResetSeq (p : List Byte) (s : State) : ExecRes :=
  match (byteAt p 0).toNat with
  | 0 => { result := some (stOk, []), st := s, after := .reset .warm }
  | 1 => { result := some (stOk, []), st := s, after := .reset .cold }
  | _ => refuses stBadParam s

/-- ENTER_DORMANT: refused while WAKE is high; the engine stops and DORMANT_ENTRY is reached (Table 3-8). -/
def execDormantSeq (s : State) : ExecRes :=
  if s.dev.wakePin then refuses stWrongState s
  else goesOn .dormant (setState .dormantEntry 0x91 (stopEngine s))

/-! ## Entropy (R240, R317) -/

def execRetestSeq (s : State) : ExecRes :=
  match entropyRetest s with
  | (some st, s) => refuses st s
  | (none, s) => { result := none, st := s }

/-! ## The opcodes -/

/-- An accepted command executes (R288). -/
def execSeq (op : Byte) (csn : Word) (p : List Byte) (s : State) : ExecRes :=
  match op.toNat with
  | 0x06 => ends (writeRegs (writeEntries p) s)
  | 0x10 => ends (stageBegin (leAt p 0 4) s)
  | 0x11 => ends (stageData (leAt p 0 4) (p.drop 4) s)
  | 0x12 => ends (stageCommit (wordAt p 0) s)
  | 0x13 => execActivateSeq p s
  | 0x14 => succeeds [] (discardStaged s)
  | 0x20 => execRunSeq s
  | 0x21 => execStopSeq s
  | 0x22 => execModeSeq p s
  | 0x24 => execFaultAckSeq s
  | 0x31 => execJournalAckSeq p s
  | 0x40 => execTimeSetSeq p s
  | 0x42 => execSourceSeq p s
  | 0x58 => execRetestSeq s
  | 0x62 => execOutputTestSeq p s
  | 0x63 => execLearnSeq p s
  | 0x70 => execPrintControlSeq csn p s
  | 0x71 => execPrintTextSeq csn p s
  | 0x81 => ends (fuseProgram p s)
  | 0x82 => execPatchSeq p s
  | 0x90 => execResetSeq p s
  | 0x91 => execDormantSeq s
  | 0x92 => ends ((writeRegs (enableEntries p) s).1, [], (writeRegs (enableEntries p) s).2.2)
  | _ => refuses stUnknown s

end Sys2Proof.Machine
end

