-- ==== Sys2Proof/Machine/Command.lean ====
section
/-! DEFINITION. Command packets and the exactly-once rule (chapter 14): the packet checks, the CSN window, execution in CSN
order, gaps, and the commands resolved in boot. -/

namespace Sys2Proof.Machine

/-! ## Opcodes (Tables 14-3 and 15-1) -/

/-- A sequenced opcode, an unsequenced one, or none. -/
def opSequenced (op : Byte) : Option Bool :=
  match op.toNat with
  | 0x06 | 0x10 | 0x11 | 0x12 | 0x13 | 0x14 | 0x20 | 0x21 | 0x22 | 0x24 | 0x31 | 0x40 | 0x42 | 0x58 | 0x62 | 0x63 | 0x70
  | 0x71 | 0x81 | 0x82 | 0x90 | 0x91 | 0x92 => some true
  | 0x01 | 0x02 | 0x03 | 0x04 | 0x05 | 0x15 | 0x23 | 0x30 | 0x32 | 0x38 | 0x41 | 0x50 | 0x51 | 0x52 | 0x60 | 0x61 | 0x72
  | 0x80 | 0x83 | 0x93 | 0xA0 => some false
  | _ => none

/-- The opcodes of R60. -/
def opInBoot (op : Byte) : Bool := decide (1 ≤ op.toNat) && decide (op.toNat ≤ 5)

/-- The parameter lengths an opcode allows, the CSN excluded (Table 15-1). -/
def lengthOk (op : Byte) (n : Nat) : Bool :=
  match op.toNat with
  | 0x01 => decide (n ≤ 32)
  | 0x02 | 0x03 | 0x04 | 0x14 | 0x20 | 0x21 | 0x24 | 0x32 | 0x41 | 0x58 | 0x72 | 0x83 | 0x91 | 0x93 | 0xA0 => n == 0
  | 0x05 | 0x10 | 0x12 | 0x13 | 0x22 | 0x31 | 0x38 | 0x42 | 0x62 | 0x63 | 0x70 | 0x90 => n == 4
  | 0x06 => n % 12 == 0 && between 1 (n / 12) 16
  | 0x11 => between 5 n 508
  | 0x15 | 0x52 | 0x60 | 0x80 => n == 1
  | 0x23 => decide (8 ≤ n) && (n - 8) % 4 == 0 && decide ((n - 8) / 4 ≤ 32)
  | 0x30 => n == 5
  | 0x40 => n == 12
  | 0x50 | 0x61 => n == 2
  | 0x51 => n % 32 == 0 && between 1 (n / 32) 16
  | 0x71 => between 1 n 30
  | 0x81 => n == 20
  | 0x82 => between 8 n 508
  | 0x92 => n == 64
  | _ => false

/-! ## Execution in CSN order (R288) -/

/-- What follows an outcome. -/
def doAfter (a : After) (s : State) : State :=
  match a with
  | .nothing => s
  | .reset k => assertReset k false .none s
  | .activate im => afterActivate im s

/-- A command whose parameter length the opcode does not allow ends with BAD_PARAM (R297). -/
def execCommand (op : Byte) (csn : Word) (p : List Byte) (s : State) : ExecRes :=
  if lengthOk op p.length then execSeq op csn p s else refuses stBadParam s

/-- What an execution leaves to be done: its outcome, or the end of a learning run with nothing to learn. -/
def concludeExec (c : Chain) (r : ExecRes) : State :=
  match r.result with
  | some x =>
    let s := commitOutcome c x.1 x.2 r.st
    if nvBothOut s then s else doAfter r.after s
  | none => checkLearn r.st

/-- One accepted command executes. -/
def runChain (c : Chain) (s : State) : State := concludeExec c (execCommand c.opcode c.csn c.params s)

/-- The core executes commands now: firmware runs in a state of ALL, no command is in execution, and an outcome can be
committed. -/
def coreFree (s : State) : Bool := live s && stateAll s && !s.db.coreHalted && s.cm.running.isNone && !nvBothOut s

/-- Up to n accepted commands executed, each once the one before it has its outcome. -/
def drain : Nat → State → State
  | 0, s => s
  | n + 1, s =>
    if coreFree s then
      match headChain s with
      | some c => drain n (runChain c s)
      | none => s
    else s

/-- Every command whose turn has come executes; at most eight are unresolved (R285). -/
def settle (s : State) : State := if s.nv.chains.isEmpty then s else drain 9 s

/-! ## The CSN window (R285 to R287) -/

/-- A refusal counted as CSN_OUT_OF_WINDOW. -/
def outOfWindow (p : Packet) (s : State) : State :=
  pushReply (finalReply p stOutOfWindow 0 []) { s with cm := { s.cm with errWindow := inc8 s.cm.errWindow } }

/-- The answer to a CSN that has been accepted or lies in E − 63 to E (R286). -/
def answerRepeat (p : Packet) (s : State) : State :=
  match chainOf p.csn s, outcomeOf p.csn s with
  | some c, _ => if c.crc = p.crc then pushReply (finalReply p stDuplicate stAccepted []) s else outOfWindow p s
  | none, some o =>
    if o.skip then pushReply (finalReply p stGapTimeout 0 []) s
    else if o.crc = p.crc then pushReply (finalReply p stDuplicate o.status o.data) s
    else outOfWindow p s
  | none, none => outOfWindow p s

/-- The reply ACCEPTED. -/
def acceptedReply (p : Packet) : Reply := { finalReply p stAccepted 0 [] with ctrl := p.ctrl &&& 0x0F }

/-- The chain of a packet. -/
def Packet.chain (p : Packet) : Chain :=
  { csn := p.csn, opcode := p.opcode, ctrl := p.ctrl, params := p.params, crc := p.crc }

/-- The number of PARAM entries of a chain: 16 parameter bytes stand in its ACCEPT entry, 20 in each PARAM entry (Table 14-5). -/
def Chain.parts (c : Chain) : Nat := (c.params.length - 16 + 19) / 20

/-- The next entry of the ring written and read back in the macros in service (R249, R290); nothing once none is left. -/
def writeEntry (c : Chain) (part : Nat) (s : State) : State :=
  let s := mirror (entryOffset s.nv.ringPos) 32 s
  if nvBothOut s then s else putRing c part s

/-- The parts of a chain in the order they are written: every PARAM entry, then the ACCEPT entry (R287). -/
def Chain.order (c : Chain) : List Nat := (List.range c.parts).map (· + 1) ++ [0]

/-- An ACCEPT chain written (R287). -/
def writeChain (c : Chain) (s : State) : State := c.order.foldl (fun s k => writeEntry c k s) s

/-- The ACCEPT chain written and ACCEPTED queued (R287); a write that fails in every macro in service gives NVM_FAIL, and the
packet is not accepted (R285). -/
def accept (p : Packet) (s : State) : State :=
  let s := writeChain p.chain s
  if nvBothOut s then pushReply (finalReply p stNvmFail 0 []) s
  else
    pushReply (acceptedReply p)
      { s with
        nv := { s.nv with chains := s.nv.chains ++ [p.chain] },
        cm := { s.cm with accepted := inc16 s.cm.accepted, waits := s.cm.waits ++ [(p.csn, 0)] } }

/-- A sequenced packet judged (check 8, R285). -/
def judgeSequenced (p : Packet) (s : State) : State :=
  let d := seqDist s.nv.lastE p.csn
  if nvBothOut s then pushReply (finalReply p stNvmFail 0 []) s
  else if (chainOf p.csn s).isSome || decide (seqDist p.csn s.nv.lastE ≤ 63) then answerRepeat p s
  else if 1 ≤ d ∧ d ≤ 8 then settle (accept p s)
  else outOfWindow p s

/-! ## Unsequenced packets (check 7) -/

/-- DEBUG_CHALLENGE (R327). -/
def debugChallenge (p : Packet) (s : State) : State :=
  if challengeRefused s then pushReply (finalReply p stLocked 0 []) s else request (.challenge p) s

/-- An unsequenced packet executed: a wrong parameter length is answered BAD_PARAM (R297). -/
def runUnsequenced (p : Packet) (s : State) : State :=
  if !lengthOk p.opcode p.params.length then pushReply (finalReply p stBadParam 0 []) s
  else if p.opcode = 0xA0 then debugChallenge p s
  else
    let a := execPlain p.opcode p.params s
    pushReply (finalReply p a.1 0 a.2.1) a.2.2

/-! ## Receiving a packet (R284) -/

/-- A tag is in flight. -/
def tagBusy (p : Packet) (s : State) : Bool := s.cm.inFlight.getLsbD (tagOf p.ctrl)

/-- The length field of a packet. -/
def Packet.len (p : Packet) : Nat := p.params.length + (if p.ctrl.getLsbD 3 then 4 else 0)

/-- The packet's class agrees with its SEQ bit, its reserved CTRL bits are 0, and with SEQ the length field n is at least 4 and
the CSN not 0 (check 5). -/
def fieldsOk (p : Packet) (n : Nat) (seq : Bool) : Bool :=
  p.ctrl &&& 0xF0 == 0 && p.ctrl.getLsbD 3 == seq && (!seq || (decide (4 ≤ n) && p.csn != 0))

/-- Checks 4 to 8 of a packet of length field n that is whole; its tag is in flight from now on. -/
def judgeWhole (p : Packet) (n : Nat) (s : State) : State :=
  match opSequenced p.opcode with
  | none => pushReply (finalReply p stUnknown 0 []) s
  | some seq =>
    if !fieldsOk p n seq then pushReply (finalReply p stBadParam 0 []) s
    else if s.dev.dvState = .dormantEntry ∨ (inBoot s ∧ !opInBoot p.opcode) then
      pushReply (finalReply p stWrongState 0 []) s
    else if seq then judgeSequenced p s
    else runUnsequenced p s

/-- A tag taken. -/
def takeTag (p : Packet) (s : State) : State :=
  { s with cm := { s.cm with inFlight := s.cm.inFlight ||| tagBit (tagOf p.ctrl) } }

/-- BAD_LENGTH. -/
def badLength (p : Packet) (s : State) : State :=
  pushReply (finalReply p stBadLength 0 []) { s with cm := { s.cm with errLength := inc8 s.cm.errLength } }

/-- A packet of a tag in flight is discarded (check 1). -/
def discardBusy (s : State) : State := { s with cm := { s.cm with errBusy := inc8 s.cm.errBusy } }

/-- A packet that arrived with its bytes, length field and CRC in agreement. -/
def judge (p : Packet) (s : State) : State :=
  if tagBusy p s then discardBusy s
  else if 512 < p.len then badLength p (takeTag p s)
  else judgeWhole p p.len (takeTag p s)

/-- The packet's bytes with its CRC (Table 14-1). -/
def Packet.raw (p : Packet) : List Byte := p.bytes ++ bytes2 p.crc

/-- The fields of raw bytes, as far as they are there. -/
def packetOf (b : List Byte) : Packet :=
  let ctrl := byteAt b 1
  let seq := ctrl.getLsbD 3
  let par := (b.drop 4).take (b.length - 6)
  { opcode := byteAt b 0, ctrl := ctrl, csn := if seq then wordAt (b.take 8) 4 else 0,
    params := if seq then par.drop 4 else par }

/-- BAD_CRC. -/
def badCrc (p : Packet) (s : State) : State :=
  pushReply (finalReply p stBadCrc 0 []) { s with cm := { s.cm with errCrc := inc8 s.cm.errCrc } }

/-- A packet as its raw bytes (Table 14-4, checks 1 to 8); an empty write carries none. -/
def judgeRaw (b : List Byte) (s : State) : State :=
  let p := packetOf b
  let n := leAt b 2 2
  if b.isEmpty then s
  else if tagBusy p s then discardBusy s
  else if b.length < 6 ∨ 512 < n ∨ b.length ≠ n + 6 then badLength p (takeTag p s)
  else if crc16 (b.take (n + 4)) ≠ halfAt b (n + 4) then badCrc p (takeTag p s)
  else judgeWhole p n (takeTag p s)

/-- The packet of raw bytes that pass every check and that check 8 accepts (Table 14-4, R285). -/
def wouldAccept (b : List Byte) (s : State) : Option Packet :=
  let p := packetOf b
  let n := leAt b 2 2
  let whole := decide (6 ≤ b.length) && decide (n ≤ 512) && b.length == n + 6 && crc16 (b.take (n + 4)) == halfAt b (n + 4)
  let d := seqDist s.nv.lastE p.csn
  let fresh := (chainOf p.csn s).isNone && decide (63 < seqDist p.csn s.nv.lastE) && decide (1 ≤ d) && decide (d ≤ 8)
  if whole && !tagBusy p s && opSequenced p.opcode == some true && fieldsOk p n true && stateAll s && !nvBothOut s && fresh then
    some p
  else none

/-- A packet whose ACCEPT chain a loss of power or clock cut off (R250, R287): some of its entries are whole. The next one whole in
NVA is completed by recovery (R251); where NVA is the only macro, it stands. The ACCEPT entry, the last one, makes the command
accepted. -/
def tearAccept (raw : List Byte) (whole : Nat) (nva : Bool) (s : State) : State :=
  match wouldAccept raw s with
  | none => s
  | some p =>
    let c := p.chain
    let s := (c.order.take whole).foldl (fun s k => writeEntry c k s) s
    if nvBothOut s then s
    else if c.order.length ≤ whole then { s with nv := { s.nv with chains := s.nv.chains ++ [c] } }
    else match c.order[whole]? with
      | some k =>
        if !nva || s.nv.live.nvaOut then s
        else if !degraded s then { s with nv := { s.nv with torn := some (.entry c k) } }
        else
          let s := putRing c k s
          if k = 0 then { s with nv := { s.nv with chains := s.nv.chains ++ [c] } } else s
      | none => s

/-- The command in turn cut off in its work: its effect stands and its outcome is in neither macro, a single macro's old outcome in
that place being lost (R250); or its fuse programming ends halfway (R340, R341). -/
def cutCommand (cut : Cut) (c : Chain) (s : State) : State :=
  match cut with
  | .outcome =>
    let r := execCommand c.opcode c.csn c.params s
    if degraded r.st && r.result.isSome then
      { r.st with nv := { r.st.nv with outcomes := r.st.nv.outcomes.setIfInBounds (c.csn.toNat % 64) none } }
    else r.st
  | .fuse n => if c.opcode = 0x92 && lengthOk 0x92 c.params.length then cutProgram n c.params s else s

/-- The command cut off that is in turn once n others have ended. -/
def cutAfter (cut : Cut) : Nat → State → State
  | 0, s => match coreFree s, headChain s with
    | true, some c => cutCommand cut c s
    | _, _ => s
  | n + 1, s => match coreFree s, headChain s with
    | true, some c => cutAfter cut n (runChain c s)
    | _, _ => s

/-- A packet accepted, and a command that it lets execute cut off. -/
def tearCommand (raw : List Byte) (ended : Nat) (cut : Cut) (s : State) : State :=
  match wouldAccept raw s with
  | none => s
  | some p => cutAfter cut (satNat 8 ended) (accept p s)

/-- What an arriving packet had begun at a reset that cuts off the work in hand. -/
def tearPacket (t : Tear) (s : State) : State :=
  if live s && !s.db.coreHalted then
    match t with
    | .accept raw whole nva => tearAccept raw whole nva s
    | .command raw ended cut => tearCommand raw ended cut s
    | _ => s
  else s

/-- A write to the CMD window: while the core is halted one packet is buffered and the next refused (R264, R298). -/
def receive (raw : List Byte) (f : State → State) (s : State) : State :=
  if !busServes s then refuseAccess s
  else if s.db.coreHalted then
    if s.cm.buffer.isSome then refuseAccess s
    else
      let s := touchBus s
      { s with cm := { s.cm with buffer := some raw } }
  else f (touchBus s)

/-- A whole packet received. -/
def receivePacket (p : Packet) (s : State) : State := receive p.raw (judge p) s

/-- Raw bytes received: at most 518 are passed on, and the next byte is answered NACK (R264). -/
def receiveRaw (b : List Byte) (s : State) : State :=
  let s := receive (b.take 518) (judgeRaw (b.take 518)) s
  if 518 < b.length then { s with hb := { s.hb with nacked := true } } else s

/-- An unsequenced packet of an opcode. -/
def plainPacket (op : Byte) (tag : BitVec 3) (params : List Byte) : Packet :=
  { opcode := op, ctrl := tag.setWidth 8, csn := 0, params := params }

/-- A sequenced packet of an opcode. -/
def seqPacket (op : Byte) (tag : BitVec 3) (csn : Word) (params : List Byte) : Packet :=
  { opcode := op, ctrl := tag.setWidth 8 ||| 0x08, csn := csn, params := params }

/-! ## Gaps (R289) -/

/-- The distance of the highest unresolved command from E. -/
def highestChain (s : State) : Nat := (s.nv.chains.map (fun c => seqDist s.nv.lastE c.csn)).foldl max 0

/-- A skip marker (Table 14-5). -/
def skipCsn (c : Word) (s : State) : State :=
  putOutcome { csn := c, skip := true, status := stGapTimeout, ctrl := 0xFF, data := [], crc := 0, opcode := 0 } s

/-- The outcome entry of a chain that carries no data. -/
def closedEntry (c : Chain) (status : Byte) : OutcomeEntry :=
  { csn := c.csn, skip := false, status := status, ctrl := c.ctrl, data := [], crc := c.crc, opcode := c.opcode }

/-- A waiting command completed CSN_GAP_TIMEOUT: its record names the CSNs skipped below it. -/
def timeOutChain (c : Chain) (skipped : Nat) (s : State) : State :=
  let s := putOutcome (closedEntry c stGapTimeout) s
  if nvBothOut s then s
  else
  let s := { s with cm := { s.cm with gapTimeouts := inc8 s.cm.gapTimeouts } }
  let s := raise 229 0x0D03 .warning (argOf [(0, c.csn.toNat), (4, c.opcode.toNat), (5, skipped)]) s
  pushReply (finalReply ⟨c.opcode, c.ctrl, c.csn, []⟩ stGapTimeout 0 []) s

/-- n CSNs after E closed in order, skipped of them so far by markers. -/
def closeGap : Nat → Nat → State → State
  | 0, _, s => s
  | n + 1, skipped, s =>
    if nvBothOut s then s
    else match headChain s with
    | some c => closeGap n skipped (timeOutChain c skipped s)
    | none => closeGap n (skipped + 1) (skipCsn (seqNext s.nv.lastE) s)

/-- The 500 ms of a gap have passed. -/
def gapTimeout (s : State) : State :=
  if coreFree s && gapWaits s then closeGap (highestChain s) 0 s else s

/-! ## Commands resolved in boot (R293, Table 14-7) -/

/-- A safety-affecting command is voided. -/
def voidChain (c : Chain) (s : State) : State :=
  let s := putOutcome (closedEntry c stVoided) s
  if nvBothOut s then s
  else
  let s := { s with cm := { s.cm with voided := inc8 s.cm.voided } }
  raise 229 0x0D02 .warning (argOf [(0, c.csn.toNat), (4, c.opcode.toNat)]) s

/-- What a data-class command of an allowed length does when it is resumed in BOOT: its status, data and effect. -/
def resumeExec (c : Chain) (s : State) : Byte × List Byte × State :=
  match c.opcode.toNat with
  | 0x21 => (stOk, [], { s with dev := { s.dev with stopResumed := true } })
  | 0x90 => (if 1 < (byteAt c.params 0).toNat then stBadParam else stOk, [], s)
  | 0x91 => (stWrongState, [], s)
  | 0x63 => (stWrongState, [], s)
  | _ =>
    let r := execSeq c.opcode c.csn c.params s
    match r.result with
    | some x => (x.1, x.2, r.st)
    | none => (stWrongState, [], s)

/-- A retest resumed in BOOT on an unhealthy source runs the start-up test again, on the raw bits the boot gives. -/
def resumeRetest (raw : List Bool) (s : State) : Byte × List Byte × State :=
  match s.ent.state with
  | .unhealthy =>
    if startupPasses raw then
      let s := raise 231 0x0902 .notice (argOf [(1, s.ent.failures.toNat)])
        { s with ent := { (s.ent.afresh.testAll raw).1 with state := .healthy } }
      (stOk, [BitVec.ofNat 8 s.ent.failures.toNat], drawAgain s)
    else (stEntropyFail, [], healthFail 3 s)
  | .locked => (stLocked, [], s)
  | _ => (stWrongState, [], s)

/-- A data-class command is resumed: a wrong parameter length is answered BAD_PARAM (R297). -/
def resumed (raw : List Bool) (c : Chain) (s : State) : Byte × List Byte × State :=
  if !lengthOk c.opcode c.params.length then (stBadParam, [], s)
  else if c.opcode = 0x58 then resumeRetest raw s
  else resumeExec c s

/-- A data-class command's outcome in boot, journalled as COMMAND_RESUMED. -/
def resumeChain (raw : List Bool) (c : Chain) (s : State) : State :=
  let r := resumed raw c s
  let s := putOutcome { closedEntry c r.1 with data := r.2.1.take 16 } r.2.2
  if nvBothOut s then s
  else raise 229 0x0D04 .notice (argOf [(0, c.csn.toNat), (4, c.opcode.toNat), (5, r.1.toNat)]) s

/-- n CSNs after E resolved in order. -/
def resolveBoot (raw : List Bool) : Nat → State → State
  | 0, s => s
  | n + 1, s =>
    if nvBothOut s then s
    else match headChain s with
    | some c => resolveBoot raw n (if safetyOp c.opcode then voidChain c s else resumeChain raw c s)
    | none => resolveBoot raw n (skipCsn (seqNext s.nv.lastE) s)

/-- Every accepted command without an outcome receives one (R63). -/
def resolveAll (raw : List Bool) (s : State) : State := resolveBoot raw (highestChain s) s

end Sys2Proof.Machine
end

