-- ==== Sys2Proof/Machine/PortOutputs.lean ====
section
/-! DEFINITION. The safe outputs, brake channels, auxiliary outputs and supplies of a field port (chapter 6). Channels 0 to 3
are Q1 to Q4, 4 and 5 are BR1 and BR2. -/

namespace Sys2Proof.Machine

/-- Channel c. -/
def PortSt.chan (p : PortSt) (c : Nat) : ChanSt := p.chans[c]?.getD ChanSt.new

/-- Channel c changed. -/
def PortSt.updChan (c : Nat) (f : ChanSt → ChanSt) (p : PortSt) : PortSt := { p with chans := updVec p.chans c f }

/-- Every channel changed. -/
def PortSt.eachChan (f : Nat → PortSt → PortSt) (p : PortSt) : PortSt := (List.range 6).foldl (fun p c => f c p) p

/-- EN and OFFT_EN of channel c (Table 6-7). -/
def PortSt.chanCfg (p : PortSt) (c : Nat) : Nat := p.par (if c < 4 then 0x40 + c else 0x46 + c)
def PortSt.chanEn (p : PortSt) (c : Nat) : Bool := decide (p.chanCfg c % 2 = 1)
def PortSt.offtEn (p : PortSt) (c : Nat) : Bool := decide (p.chanCfg c / 2 % 2 = 1)

/-- At least one latch of Table 6-1 is set. -/
def ChanSt.latched (x : ChanSt) : Bool :=
  x.portOpen || x.testFail || x.overcurr || x.overload || x.thermal || x.supply

/-- A test of the channel runs: its link-start ON-test, or one that TEST_NOW asked for (R125, R127). -/
def ChanSt.testing (x : ChanSt) : Bool := x.onDue || x.asked

/-- A channel that R122 lets close on a matching code: enabled, no latch, an ON-test passed, no test running, UF2 within its
limits. -/
def PortSt.mayClose (p : PortSt) (c : Nat) : Bool :=
  p.phase == .seeded && p.chanEn c && !(p.chan c).latched && (p.chan c).onPassed && !(p.chan c).testing && !p.uf2Out

/-- The switches of a channel open (R122, R129); a closed channel, and a brake at the end of CLAMP, has its switch-off test
pending, and a test asked for lapses (R126, R130). -/
def ChanSt.opened (x : ChanSt) : ChanSt :=
  { x with closed := false, brake := .off, pullIn := false, asked := false,
           offPending := x.offPending || x.closed || x.brake == .clamp }

/-- Channel c opened by the port. -/
def PortSt.openChan (c : Nat) (p : PortSt) : PortSt := p.updChan c ChanSt.opened

/-- Channel c opened with its port-open latch set (R92). -/
def PortSt.openLatched (c : Nat) (p : PortSt) : PortSt :=
  p.updChan c (fun x => { x.opened with portOpen := true, wantClose := false })

/-! ## Brake states (Table 6-3, R130) -/

/-- The state of a frame's two bits. -/
def BrState.ofBits (b : BitVec 2) : BrState :=
  match b.toNat with
  | 1 => .release | 2 => .holdPwm | 3 => .clamp | _ => .off

/-- RELEASE and HOLD_PWM need an ON code. -/
def BrState.energised : BrState → Bool
  | .release | .holdPwm => true
  | _ => false

/-- A brake channel that may run: the move towards RELEASE or HOLD_PWM. -/
def ChanSt.energise (want : BrState) (x : ChanSt) : ChanSt :=
  match x.brake, want with
  | .off, _ | .clamp, _ => { x with brake := .release, pullIn := true, closed := true, offPending := false }
  | .release, .holdPwm => if x.pullIn then x else { x with brake := .holdPwm }
  | .holdPwm, .release => { x with brake := .release }
  | _, _ => x

/-- CLAMP received: from OFF it leaves the channel OFF. -/
def ChanSt.clampOn (x : ChanSt) : ChanSt :=
  if x.brake.energised then { x with brake := .clamp, closed := false, pullIn := false, asked := false } else x

/-- Channel c closes at time t: a pending switch-off test lapses (R126), and the period of its OFF-test starts where the
channel was open (R124). -/
def ChanSt.close (t c : Nat) (x : ChanSt) : ChanSt :=
  let y := if c < 4 then { x with closed := true, offPending := false } else x.energise x.wanted
  if x.closed then y else { y with offAt := t }

/-- A close request carried out at time t where nothing bars it (R122). -/
def PortSt.tryClose (t c : Nat) (p : PortSt) : PortSt :=
  if (p.chan c).wantClose && p.mayClose c then p.updChan c (fun x => x.close t c) else p

/-! ## The decision on a RUN frame (R90, R92, R123, R131) -/

/-- The latches a non-ON value clears (Table 6-1). -/
def PortSt.clearLatches (c : Nat) (p : PortSt) : PortSt :=
  let loadOk := decide (p.loadI.toNat < p.par 0x52)
  let cool := decide (p.temp.toNat < 194)
  let supplyOk := !p.uf2Out
  p.updChan c (fun x => { x with
    portOpen := false, overcurr := false, overload := x.overload && !loadOk, thermal := x.thermal && !cool,
    supply := x.supply && !supplyOk })

/-- L link cycles (R91). -/
def PortSt.staleAfter (p : PortSt) : Nat := periodUs p.scanPer.toNat / 10 + 4

/-- A stale code opens its channel, is latched, and is reported once (R91, R92). -/
def PortSt.staleChan (c : Nat) (p : PortSt) : PortSt :=
  if (p.chan c).portOpen then p.openLatched c
  else { (p.openLatched c).diag 0x0007 c with seqFault := true }

/-- The code of channel c in a frame is its ON code. -/
def PortSt.codeMatches (c : Nat) (f : Frame) (p : PortSt) : Bool := dlCode f c == onCode p.seed p.scanX c

/-- The holds pumped by a match: that of a safe output, or all three of a brake channel (R93, R131). -/
def ChanSt.pump (c : Nat) (x : ChanSt) : ChanSt :=
  { x with charged := true, chargedFw := x.chargedFw || decide (4 ≤ c), chargedDs := x.chargedDs || decide (4 ≤ c) }

/-- A matching, fresh code: the holds are pumped, and the channel stays closed or closes (R90, R93, R122). -/
def PortSt.takeOn (t c : Nat) (want : BrState) (p : PortSt) : PortSt :=
  (p.updChan c (fun x => { x.pump c with wantClose := true, wanted := want })).tryClose t c

/-- No ON value: the channel opens. -/
def PortSt.takeOff (c : Nat) (p : PortSt) : PortSt :=
  let keep := (p.chan c).closed
  let p := p.updChan c (fun x => { x with wantClose := false, wanted := .off })
  if keep || (p.chan c).brake == .clamp then p.openChan c else p

/-- A safe output (R90). -/
def PortSt.decideQ (t c : Nat) (f : Frame) (p : PortSt) : PortSt :=
  if p.codeMatches c f then
    if p.staleAfter < p.scanAge then p.staleChan c else p.takeOn t c .off
  else (p.clearLatches c).takeOff c

/-- A brake channel (R90, R123, R130, R131): a frame that carries CLAMP pumps FW and DS; a failed match goes to OFF, never to
CLAMP. -/
def PortSt.decideBr (t c : Nat) (f : Frame) (p : PortSt) : PortSt :=
  match BrState.ofBits (dlBrake f (c - 4)) with
  | .off => (p.clearLatches c).takeOff c
  | .clamp =>
    let p := p.clearLatches c
    p.updChan c (fun x => { x.clampOn with wantClose := false, wanted := .clamp, chargedFw := true, chargedDs := true })
  | want =>
    if p.codeMatches c f then
      if p.staleAfter < p.scanAge then p.staleChan c else p.takeOn t c want
    else p.takeOff c

/-- The frame carries a non-ON value for channel c (R123). -/
def PortSt.nonOn (c : Nat) (f : Frame) (p : PortSt) : Bool :=
  if c < 4 then !p.codeMatches c f else !(BrState.ofBits (dlBrake f (c - 4))).energised

/-- The decision for channel c; a disabled channel never closes (Table 6-7), but its latches clear as any other's (R123). -/
def PortSt.judgeChan (t c : Nat) (f : Frame) (p : PortSt) : PortSt :=
  if !p.chanEn c then (if p.nonOn c f then p.clearLatches c else p)
  else if c < 4 then p.decideQ t c f else p.decideBr t c f

/-! ## Auxiliary outputs (R134, R135, R137) -/

/-- The straps as they read: one tied to UF1 reads on only while UF1 is above 10.0 V (R134, R383). -/
def PortSt.strapped (p : PortSt) : BitVec 4 := if 40 < p.uf1V.toNat then p.ssa else 0

/-- The AUX outputs after what governs them: their straps once the CT timer has expired, else their bits, and a tripped one
off in both (R134, R135, R137). -/
def PortSt.setAux (p : PortSt) : PortSt :=
  { p with aux := if p.uf2Out || p.auxShed || p.shutdown then 0
                  else (if p.ctExpired then p.strapped else p.auxCmd) &&& ~~~p.auxTrip }

/-- The AUX bits of a valid RUN frame; the CT timer is discharged, and an output commanded off needs no retry. -/
def PortSt.takeAux (bits : BitVec 4) (p : PortSt) : PortSt :=
  { p with auxCmd := bits, ctExpired := false, auxTrip := p.auxTrip &&& bits }.setAux

/-- The CT timer expires (R135). -/
def PortSt.ctTimeout (p : PortSt) : PortSt := { p with ctExpired := true }.setAux

/-- AUX outputs trip (R137): they turn off whether the port has a clock or not, their drivers needing none (R383); without a clock
nothing is reported. -/
def PortSt.auxFault (mask : BitVec 4) (p : PortSt) : PortSt :=
  let m := mask &&& p.aux
  if m == 0 then p
  else
    let p := { p with auxTrip := p.auxTrip ||| m }
    (if p.phase == .silent then p else p.diag 0x0405 m.toNat).setAux

/-- Tripped outputs that are commanded on, by their bits or their straps, are retried (R137). -/
def PortSt.auxRetry (p : PortSt) : PortSt := { p with auxTrip := 0 }.setAux

/-! ## Tests (R124 to R128, R133) -/

/-- Tests run while the port has a clock and UF2 is within its limits (Table 6-6). -/
def PortSt.testsRun (p : PortSt) (c : Nat) : Bool := p.phase != .silent && p.chanEn c && !p.uf2Out

/-- A test passed: TEST_PASSED with its kind. -/
def PortSt.testPassed (c kind : Nat) (p : PortSt) : PortSt := p.diag 0x0201 (c + 8 * kind)

/-- A test failed: the channel opens, its test-fail latch set. -/
def PortSt.testFailed (c : Nat) (code : Half) (arg : Nat) (p : PortSt) : PortSt :=
  ((p.openChan c).updChan c (fun x => { x with testFail := true })).diag code arg

/-- A test that OUTPUT_TEST_NOW asked for still runs on some channel of the port (R127). -/
def PortSt.anyAsked (p : PortSt) : Bool := p.chans.toList.any (fun x => x.asked)

/-- The periodic OFF-test of channel c is due at time now (R124): closed for a whole period since it closed or since its last
OFF-test. -/
def PortSt.offDue (now c : Nat) (p : PortSt) : Bool :=
  let x := p.chan c
  p.testsRun c && x.closed && p.offtEn c && decide (x.offAt + 1000000 * p.par 0x48 ≤ now)

/-- The periodic OFF-test of channel c starts at time now (R124, R127): due, no channel before it in the order Q1 to Q4, BR1,
BR2 due, 10 ms after the last one of the port, and every selected test ended. -/
def PortSt.offTurn (now c : Nat) (p : PortSt) : Bool :=
  p.offDue now c && (List.range c).all (fun d => !p.offDue now d) && !p.anyAsked
    && (match p.offEnd with
        | some e => decide (e + 10000 ≤ now)
        | none => true)

/-- The end of an OFF-test of channel c at time now (R124, R133): in HOLD_PWM the HS step is the switch-node check. -/
def PortSt.offTestEnd (now c : Nat) (t : OffSeen) (p : PortSt) : PortSt :=
  let high := t.highOpened || (p.chan c).brake == .holdPwm
  let p := p.updChan c (fun x => { x with asked := false, offAt := now })
  if high && t.lowOpened then p.testPassed c 1 else p.testFailed c 0x0202 (c + 8 * high.toNat)

/-- An OFF-test of a closed channel, asked for (R127) or in its turn (R124). -/
def PortSt.offTest (now c : Nat) (t : OffSeen) (p : PortSt) : PortSt :=
  if p.testsRun c && (p.chan c).closed && (p.chan c).asked then p.offTestEnd now c t
  else if p.offTurn now c then { p.offTestEnd now c t with offEnd := some now }
  else p

/-- The reason of a failed ON-test, 0 for a pass (R125, Table 6-2). -/
def onReason (t : OnSeen) : Nat :=
  if !t.lowVolt then 1 else if !t.lowCurr then 3 else if !t.highVolt then 2 else if !t.highCurr then 4 else 0

/-- The end of an ON-test of a given kind at time now (R125): a waiting close request is carried out if it passed. -/
def PortSt.onTestEnd (now c kind : Nat) (t : OnSeen) (p : PortSt) : PortSt :=
  let p := p.updChan c (fun x => { x with onDue := false, asked := false, offPending := false, onAt := now })
  if onReason t = 0 then
    ((p.updChan c (fun x => { x with onPassed := true })).testPassed c kind).tryClose now c
  else p.testFailed c 0x0203 (c + 16 * onReason t)

/-- The periodic ON-test of an open channel is due at time now (R125, R127): Q_ONT_PER × 100 ms after its last ON-test, unless
that is 0, and once every selected test has ended. -/
def PortSt.onTurn (now c : Nat) (p : PortSt) : Bool :=
  p.par 0x49 != 0 && decide ((p.chan c).onAt + 100000 * p.par 0x49 ≤ now) && !p.anyAsked

/-- An ON-test of an open channel (R125): at the first RUN frame, asked for (R127), or periodic. -/
def PortSt.onTest (now c : Nat) (t : OnSeen) (p : PortSt) : PortSt :=
  let x := p.chan c
  if p.testsRun c && p.gotRun && !x.closed && x.brake == .off && !x.offPending && (x.testing || p.onTurn now c) then
    p.onTestEnd now c 2 t
  else p

/-- The switch-off test runs (R126). -/
def PortSt.switchOffTest (now c : Nat) (t : OnSeen) (p : PortSt) : PortSt :=
  if p.testsRun c && (p.chan c).offPending then p.onTestEnd now c 3 t else p

/-- The load current has not fallen 100 ms after opening (R126): reason 5. -/
def PortSt.switchOffTimeout (c : Nat) (p : PortSt) : PortSt :=
  if p.testsRun c && (p.chan c).offPending then
    (p.updChan c (fun x => { x with offPending := false })).testFailed c 0x0203 (c + 16 * 5)
  else p

/-- TEST_NOW (R127): a brake in CLAMP is neither closed nor open, so its test is abandoned. -/
def PortSt.testNow (mask : BitVec 6) (p : PortSt) : PortSt :=
  p.eachChan (fun c p =>
    if mask.getLsbD c && p.chanEn c && (p.chan c).brake != .clamp then p.updChan c (fun x => { x with asked := true })
    else p)

/-! ## Brake events (R130, R132, R133) -/

/-- A current in steps of 0.05 A. -/
def amps20 (milliamps : Nat) : Nat := satNat 255 (milliamps / 50)

/-- Pull-in ends (R130). -/
def PortSt.pullInEnd (c mA : Nat) (p : PortSt) : PortSt :=
  let x := p.chan c
  if p.phase != .silent && x.brake == .release && x.pullIn then
    if mA < 20 then p.testFailed c 0x0302 (c + 256 * amps20 mA)
    else p.updChan c (fun x => { x with pullIn := false, brake := if x.wanted == .holdPwm then .holdPwm else .release })
  else p

/-- CLAMP ends in OFF (R130): with 20 mA or more it is the timeout. -/
def PortSt.clampEnd (c mA : Nat) (p : PortSt) : PortSt :=
  if p.phase != .silent && (p.chan c).brake == .clamp then
    let p := p.openChan c
    if mA < 20 then p else p.diag 0x0303 (c + 256 * amps20 mA)
  else p

/-- Two consecutive switch-node misses in HOLD_PWM (R133). The check runs whatever OFFT_EN holds (DESIGN CHOICE, log entry
89). -/
def PortSt.switchNode (c : Nat) (p : PortSt) : PortSt :=
  if p.testsRun c && (p.chan c).brake == .holdPwm then p.testFailed c 0x0202 c else p

/-- Both gates requested on (R132). -/
def PortSt.bridgeConflict (c : Nat) (p : PortSt) : PortSt :=
  if p.phase == .silent || !p.chanEn c then p else p.testFailed c 0x0301 c

/-! ## Current and temperature limits (R137 to R139) -/

/-- A channel trips on current (R137). -/
def PortSt.overcurrent (c : Nat) (sustained : Bool) (peak : Byte) (p : PortSt) : PortSt :=
  if p.phase != .silent && (p.chan c).closed then
    ((p.openChan c).updChan c (fun x => { x with overcurr := true })).diag 0x0204
      (c + 8 * sustained.toNat + 256 * peak.toNat)
  else p

/-- LOAD_I has stood above PORT_ILIM for 1 s (R138); a load back within it ends the overload. -/
def PortSt.portOverload (load : Byte) (p : PortSt) : PortSt :=
  let p := { p with loadI := load }
  if p.phase == .silent then p
  else if p.par 0x52 < load.toNat then
    ({ p with overloaded := true, auxShed := true }.diag 0x0402 load.toNat).setAux
  else { p with overloaded := false, auxShed := false }.setAux

/-- 100 ms later (R138). -/
def PortSt.overloadOpen (load : Byte) (p : PortSt) : PortSt :=
  let p := { p with loadI := load }
  if p.phase == .silent || !p.overloaded then p
  else if p.par 0x52 < load.toNat then
    (p.eachChan (fun c p => (p.openChan c).updChan c (fun x => { x with overload := true }))).diag 0x0402 (load.toNat + 256)
  else { p with overloaded := false, auxShed := false }.setAux

/-- A switch junction at 175 °C (R139). -/
def PortSt.switchHot (c : Nat) (p : PortSt) : PortSt :=
  if p.phase == .silent then p else (p.openChan c).updChan c (fun x => { x with thermal := true })

/-- The die crosses 140 °C or falls below 130 °C (R139). -/
def PortSt.portHot (temp : Byte) (p : PortSt) : PortSt :=
  let p := { p with temp := temp }
  if p.phase == .silent then p
  else if temp.toNat < 194 then { p with hot := false, shutdown := false }.setAux
  else if 204 ≤ temp.toNat ∧ ¬ p.hot then { p with hot := true }.diag 0x0403 temp.toNat
  else p

/-- The channels closed now, as OUT_STATE shows them (Table 4-4). -/
def PortSt.outState (p : PortSt) : Nat := ((List.range 6).map (fun c => (p.chan c).closed.toNat * 2 ^ c)).sum

/-- The die at 155 °C (R139). -/
def PortSt.thermalShutdown (temp : Byte) (p : PortSt) : PortSt :=
  let p := { p with temp := temp }
  if p.phase == .silent || decide (temp.toNat < 219) then p
  else
    let mask := p.outState
    let p := p.eachChan (fun c p => (p.openChan c).updChan c (fun x => { x with thermal := true }))
    ({ p with shutdown := true }.diag 0x0404 (temp.toNat + 256 * mask)).setAux

/-! ## Field supplies (R140, R141) -/

/-- The three flags of a supply after a voltage in 0.25 V (Table 6-5): missing, low, high. -/
def supplyFlags (old : BitVec 3) (v : Nat) : BitVec 3 :=
  let missing := decide (v < 40) || (old.getLsbD 0 && decide (v < 42))
  let low := missing || decide (v < 72) || (old.getLsbD 1 && decide (v < 74))
  let high := decide (128 < v) || (old.getLsbD 2 && decide (126 < v))
  BitVec.ofNat 3 (missing.toNat + 2 * low.toNat + 4 * high.toNat)

/-- The supply latches stand while UF2 is missing or high (R123, Table 6-6), also where the logic comes out of its reset so. -/
def PortSt.supplyStands (p : PortSt) : PortSt :=
  { p with chans := p.chans.map (fun x => { x with supply := x.supply || p.uf2Out }) }

/-- UF2 missing or high: every channel opens with its supply latch set (Table 6-6). -/
def PortSt.supplyOpen (p : PortSt) : PortSt :=
  if p.uf2Out then p.eachChan (fun c p => (p.openChan c).updChan c (fun x => { x with supply := true })) else p

/-- What a change of the flags does (Table 6-6). -/
def PortSt.supplyEffects (p : PortSt) (was : PortSt) : PortSt :=
  let p := if p.uf1High then p.sourcesOff else if was.uf1High then p.sourcesBack else p
  p.supplyOpen.setAux

/-- A supply measured (R140): a change of its flags is reported and acts. -/
def PortSt.supplyState (uf2 : Bool) (v : Byte) (p : PortSt) : PortSt :=
  let was := p
  let old : BitVec 3 := if uf2 then (p.supply >>> 3).setWidth 3 else p.supply.setWidth 3
  let new := supplyFlags old v.toNat
  let flags : BitVec 6 := if uf2 then (p.supply &&& 7) ||| (new.setWidth 6 <<< 3) else (p.supply &&& 0x38) ||| new.setWidth 6
  let p := if uf2 then { p with uf2V := v, supply := flags } else { p with uf1V := v, supply := flags }
  if new = old ∨ p.phase = .silent then p.setAux
  else (p.diag 0x0401 (flags.toNat + 64 * uf2.toNat + 256 * v.toNat)).supplyEffects was

end Sys2Proof.Machine
end

