-- ==== Sys2Proof/Machine/PortLink.lean ====
section
/-! DEFINITION. The port's side of its link (chapter 4): downlink frames, parameter words, the seed, the uplink frames it
sends, link loss and the resets of its logic. -/

namespace Sys2Proof.Machine

/-! ## Uplink frames the port sends (R79, R83, R84) -/

/-- The inputs that are SETTLING (R99, R105, Table 4-5): used ones, from the first RUN frame. -/
def PortSt.settlingMask (p : PortSt) : Nat :=
  ((List.range 16).map (fun i =>
    (p.gotRun && p.used i && ((p.inputs[i]?).map InputSt.settling).getD false).toNat * 2 ^ i)).sum

/-- The common part (Table 4-4). -/
def PortSt.common (type : Nat) (p : PortSt) : List (Nat × Nat) :=
  [(0, type), (2, (p.phase == .seeded).toNat), (3, (p.settlingMask != 0).toNat), (4, p.paramOk.toNat), (5, p.seqFault.toNat),
    (8, p.echo.toNat), (16, ((List.range 16).map (fun i => (p.level i).toNat * 2 ^ i)).sum), (32, p.outState),
    (38, p.supply.toNat)]

/-- The IDENT frame (Table 4-5). Before a seed has come SEED_ECHO is that of a seed of 64 zero bits (DESIGN CHOICE, log entry
118). -/
def PortSt.identFrame (p : PortSt) : Frame :=
  mkFrame (p.common 0 ++ [(48, p.revision.toNat), (56, p.straps.toNat), (59, (wordsCrc (p.words.take 127)).toNat),
    (75, (seedEcho p.seed).toNat)])

/-- The DELTA frame (Table 4-5): up to three records, oldest first. -/
def PortSt.deltaFrame (p : PortSt) : Frame :=
  let recs := p.edges.take 3
  mkFrame (p.common 1 ++ [(48, recs.length)] ++ (recs.mapIdx (fun i r => (64 + 32 * i, r.toNat))))

/-- The REFRESH frame (Table 4-5). -/
def PortSt.refreshFrame (p : PortSt) : Frame :=
  let d := (p.diagq.head?).getD (0, 0)
  mkFrame (p.common 2 ++ [(48, p.settlingMask), (64, d.1.toNat), (80, d.2.toNat), (96, p.uf1V.toNat), (104, p.uf2V.toNat),
    (112, p.temp.toNat), (120, p.loadI.toNat), (128, p.dlErr.toNat)])

/-- LU is held low (R95, R380, Table 4-7): without power, without transitions on LD, and until the port has locked. -/
def PortSt.luLow (p : PortSt) : Bool := !p.fitted || !p.powered || p.phase == .silent || p.phase == .locking

/-- The uplink frame that starts 1 µs into a downlink frame (R79): nothing before the port has locked; IDENT until the
first RUN frame, and again once it is no longer seeded; then REFRESH in the cycles 0 modulo 16 and DELTA in the others. -/
def PortSt.sendUplink (f : Frame) (p : PortSt) : PortSt :=
  if p.luLow then p
  else if p.phase != .seeded || (!p.gotRun && dlType f != 3) then { p with tx := p.identFrame }
  else if (dlCycle f).toNat % 16 = 0 then
    { p with tx := p.refreshFrame, diagq := p.diagq.drop 1, seqFault := false }
  else { p with tx := p.deltaFrame, edges := p.edges.drop 3 }

/-! ## Link loss (R94, R95) -/

/-- Link loss at the port (R94): every channel opens with its port-open latch set and the seed is discarded; without a link the
inputs read 0 and the sources are off, until the next first RUN frame (R380). -/
def PortSt.linkLoss (p : PortSt) : PortSt :=
  if p.phase == .seeded then
    { p.eachChan (fun c p => p.openLatched c) with
      phase := .ident, seed := 0, seedRun := 0, seedLast := 0, gotRun := false,
      inputs := Vector.replicate 16 InputSt.new, sources := Vector.replicate 8 SourceSt.new }
  else p

/-- An invalid downlink frame (R94, R96): the link cycle counts towards the age of the scan number (R91). -/
def PortSt.badDownlink (p : PortSt) : PortSt :=
  let p := { p with badRun := p.badRun + 1, dlErr := p.dlErr + 1, syncRun := 0, seedRun := 0,
                    scanAge := if p.gotRun then p.scanAge + 1 else p.scanAge }
  if 4 ≤ p.badRun then p.linkLoss else p

/-- A valid frame: ECHO and the run of invalid frames (Table 4-4). -/
def PortSt.goodDownlink (f : Frame) (p : PortSt) : PortSt := { p with badRun := 0, echo := dlCycle f }

/-- The logic of a port comes up with no transitions seen yet (R95): the holds keep their switches until they decay (R93),
the AUX outputs their state until the CT timer expires. -/
def PortSt.logicReset (p : PortSt) : PortSt :=
  { PortSt.new p.pa with
    fitted := p.fitted, powered := p.powered, revision := p.revision, supply := p.supply, uf1V := p.uf1V, uf2V := p.uf2V, temp := p.temp,
    loadI := p.loadI, aux := p.aux, auxCmd := p.auxCmd, auxTrip := p.auxTrip, ssa := p.ssa, ctExpired := p.ctExpired,
    chans := p.chans.map (fun x =>
      { ChanSt.new with closed := x.closed, brake := x.brake, charged := x.charged, chargedFw := x.chargedFw,
                        chargedDs := x.chargedDs }) }

/-- A power-on reset of a port (R56, R134, R380): its outputs open and the AUX outputs take their strapped states. -/
def PortSt.powerReset (p : PortSt) : PortSt :=
  { PortSt.new p.pa with
    fitted := p.fitted, revision := p.revision, supply := p.supply, uf1V := p.uf1V, uf2V := p.uf2V, temp := p.temp,
    ssa := p.ssa }.setAux

/-- PORT_RESET (R56, R380): VL has come up, or it has fallen below its threshold, where the logic is held in reset, the switches open
as their holds decay and the AUX outputs follow the CT timer (R93, R383). -/
def PortSt.vlChange (up : Bool) (p : PortSt) : PortSt := if up then p.powerReset else { p.logicReset with powered := false }

/-- A channel whose switches have opened without its logic. -/
def ChanSt.dropped (x : ChanSt) : ChanSt := { x with closed := false, brake := .off, pullIn := false }

/-- A hold of channel c falls below its threshold and its switch opens (R93, R131): 0 is the hold of a safe output or of HS, 1
that of FW, 2 that of DS. In CLAMP, HS is open as it is; outside CLAMP, FW carries the coil current only while HS is off. -/
def ChanSt.holdDecay (c sw : Nat) (x : ChanSt) : ChanSt :=
  match sw with
  | 0 => let y := { x with charged := false }
         if x.brake = .clamp then y else y.dropped
  | 1 => let y := { x with chargedFw := false }
         if x.brake = .clamp then y.dropped else y
  | _ => let y := { x with chargedDs := false }
         if 4 ≤ c then y.dropped else y

/-- YOYO_HOLD_DECAY at the port. -/
def PortSt.holdDecay (c sw : Nat) (p : PortSt) : PortSt := p.updChan c (fun x => x.holdDecay c sw)

/-! ## Parameter words (R81, R102) -/

/-- What the port finds in an image word it has received: a value outside its limits (R102), or the second member of a pair
whose members share a source (R100). -/
def PortSt.judgeWord (a : Nat) (data : Half) (p : PortSt) : PortSt :=
  let p := if clampBad a data.toNat && decide (a < 127) && p.wordUsed a then p.diag 0x0117 a else p
  if decide (a < 16) && p.pairShares (a / 2) then p.diag 0x0106 (a / 2) else p

/-- An image word received: PARAM_OK once word 0x7F matches; a seeded port takes it as a link failure. -/
def PortSt.imageWrite (a : Nat) (data : Half) (p : PortSt) : PortSt :=
  match p.phase with
  | .seeded => p.linkLoss
  | .ident =>
    let ws := p.words.set a data
    { p with words := ws, paramOk := a == 127 && wordsCrc (ws.take 127) == data }.judgeWord a data
  | _ => p

/-- Run-time words act only in a valid RUN frame of a seeded port (R81). -/
def PortSt.runTime (p : PortSt) : Bool := p.phase == .seeded && p.gotRun

/-- SAMPLE_PHASE (R48). -/
def PortSt.setSamplePhase (data : Half) (p : PortSt) : PortSt := if p.runTime then { p with samplePh := data } else p

/-- FRAME_PHASE_LO (R110). -/
def PortSt.setPhaseLo (data : Half) (p : PortSt) : PortSt := if p.runTime then { p with phaseLo := some data } else p

/-- FRAME_PHASE_HI (R81, R110): applied only after a FRAME_PHASE_LO since the last link start; time t, at which it comes, is
that of sample 0 of the link cycle that carries it (log entry 90). -/
def PortSt.setPhaseHi (t : Nat) (data : Half) (p : PortSt) : PortSt :=
  match p.phaseLo with
  | some lo => if p.runTime then { p with framePhase := some ((data.setWidth 4 : BitVec 4) ++ lo), phaseAt := t } else p
  | none => p

/-- LEARN_REQ (R118). -/
def PortSt.setLearn (data : Half) (p : PortSt) : PortSt := if p.runTime then p.startLearn (data.setWidth 8) else p

/-- TEST_NOW (R127). -/
def PortSt.setTestNow (data : Half) (p : PortSt) : PortSt := if p.runTime then p.testNow (data.setWidth 6) else p

/-- The PARAM write of a RUN frame (R81): reserved words are ignored. -/
def PortSt.runWrite (t a : Nat) (data : Half) (p : PortSt) : PortSt :=
  if a < 128 then p.linkLoss
  else match a with
    | 128 => p.setSamplePhase data
    | 129 => p.setPhaseLo data
    | 130 => p.setPhaseHi t data
    | 131 => p.setLearn data
    | 132 => p.setTestNow data
    | _ => p

/-- The PARAM write of a START frame: run-time and reserved words are ignored. -/
def PortSt.startWrite (a : Nat) (data : Half) (p : PortSt) : PortSt := if a < 128 then p.imageWrite a data else p

/-! ## Downlink frames (R86 to R91) -/

/-- The types a port expects in its phase (R77, Table 4-7). -/
def PortSt.expects (p : PortSt) : List Nat :=
  match p.phase with
  | .silent | .locking => [0]
  | .ident => [0, 1, 2]
  | .seeded => if p.gotRun then [3] else [1, 2, 3]

/-- A frame of a given type is valid for the port (R77). -/
def PortSt.frameOk (type : Nat) (framing : Bool) (f : Frame) (p : PortSt) : Bool :=
  dlValid framing p.straps (if p.expects.contains type then [type] else []) f

/-- A port in reset reads its straps when transitions come (R95, Table 4-5); a standing UF2 flag sets the supply latches. -/
def PortSt.awake (p : PortSt) : PortSt :=
  if p.phase == .silent then { p with phase := .locking, straps := p.pa, syncRun := 0 }.supplyStands else p

/-- A frame received: the uplink frame goes out, then the frame is judged; a port that is not fitted or has no supply does nothing. -/
def PortSt.receive (type : Nat) (framing : Bool) (f : Frame) (take : PortSt → PortSt) (p : PortSt) : PortSt :=
  if !p.fitted || !p.powered then p
  else
    let p := p.awake.sendUplink f
    if p.frameOk type framing f then take (p.goodDownlink f) else p.badDownlink

/-- SYNC (Table 4-7): three in a row lock the port. -/
def PortSt.takeSync (p : PortSt) : PortSt :=
  let p := { p with syncRun := p.syncRun + 1, seedRun := 0 }
  if p.phase == .locking && decide (3 ≤ p.syncRun) then { p with phase := .ident } else p

/-- START (R81). -/
def PortSt.takeStart (f : Frame) (p : PortSt) : PortSt :=
  { p with seedRun := 0 }.startWrite (dlParamAddr f).toNat (dlParamData f)

/-- Two SEED frames of the same content. -/
def sameSeed (f g : Frame) : Bool := dlSeed f == dlSeed g && dlScanBase f == dlScanBase g && dlScanPer f == dlScanPer g

/-- SEED (R88): three identical ones in a row are adopted. -/
def PortSt.takeSeed (f : Frame) (p : PortSt) : PortSt :=
  let n := if 0 < p.seedRun && sameSeed f p.seedLast then p.seedRun + 1 else 1
  let p := { p with seedRun := n, seedLast := f }
  if 3 ≤ n ∧ p.phase = .ident then
    { p with phase := .seeded, seed := dlSeed f, scanX := dlScanBase f, scanPer := dlScanPer f, scanAge := 0 }
  else p

/-- The step of SCAN from the last extended number (R91). -/
def PortSt.scanStep (f : Frame) (p : PortSt) : BitVec 24 := dlScan f - p.scanX.setWidth 24

/-- A RUN frame whose scan number goes backward or skips (R91). -/
def PortSt.scanBad (f : Frame) (p : PortSt) : Bool := decide (1 < (p.scanStep f).toNat)

/-- The first RUN frame of a link start (R89, R106, R125). -/
def PortSt.firstRun (p : PortSt) : PortSt :=
  if p.gotRun then p
  else
    ({ p with gotRun := true }.startInputs).eachChan (fun c p => p.updChan c (fun x => { x with onDue := p.chanEn c }))

/-- The extended scan number and its age after a frame (R91). -/
def PortSt.takeScan (f : Frame) (p : PortSt) : PortSt :=
  let d := p.scanStep f
  { p with scanX := p.scanX + d.setWidth 32, scanAge := if d = 0 ∧ p.gotRun then p.scanAge + 1 else 0 }

/-- Channel c in a frame of a scan-sequence fault (R91, R123): a non-ON value clears what was latched before, and the channel opens
with its port-open latch set. -/
def PortSt.faultChan (c : Nat) (f : Frame) (p : PortSt) : PortSt :=
  (if p.nonOn c f then p.clearLatches c else p).openLatched c

/-- A RUN frame at time t (R90, R91, R134): v is the DIAG_ARG of a scan-sequence diagnostic, which the spec leaves open (log
entry 27). -/
def PortSt.takeRun (t : Nat) (v : Half) (f : Frame) (p : PortSt) : PortSt :=
  let bad := p.scanBad f
  let next := p.scanX + 1
  let p := (p.takeScan f).firstRun
  let p := if bad then
      { p.eachChan (fun c p => p.faultChan c f) with
        seqFault := true, seqScans := some (next, p.scanX), diagq := p.diagq ++ [(0x0006, v)] }
    else p.eachChan (fun c p => p.judgeChan t c f)
  (p.takeAux (dlAux f)).runWrite t (dlParamAddr f).toNat (dlParamData f)

end Sys2Proof.Machine
end

