-- ==== Sys2Proof/Machine/PortRows.lean ====
section
/-! DEFINITION. The meanings of the port's commands: its side of the link, its inputs and pulses, its outputs and supplies
(chapters 4 to 6). -/

namespace Sys2Proof.Machine

/-- The answer of every command of this block. -/
abbrev Out := Host.Outcome State Fault Refusal

/-! ## Links, port side -/

/-- PORT_RESET (R56, R380). -/
def execPortReset (p : Fin 8) (up : Bool) (s : State) : Out := .next (updPort p.val (fun q => q.vlChange up) s)

/-- DOWNLINK_SYNC (R86). -/
def execDownlinkSync (p : Fin 8) (framing : Bool) (frame : Frame) (s : State) : Out :=
  .next (updPort p.val (fun q => q.receive 0 framing frame PortSt.takeSync) s)

/-- DOWNLINK_START (R81). -/
def execDownlinkStart (p : Fin 8) (framing : Bool) (frame : Frame) (s : State) : Out :=
  .next (updPort p.val (fun q => q.receive 1 framing frame (fun r => r.takeStart frame)) s)

/-- DOWNLINK_SEED (R88). -/
def execDownlinkSeed (p : Fin 8) (framing : Bool) (frame : Frame) (s : State) : Out :=
  .next (updPort p.val (fun q => q.receive 2 framing frame (fun r => r.takeSeed frame)) s)

/-- DOWNLINK_RUN (R90, R91). -/
def execDownlinkRun (p : Fin 8) (framing : Bool) (frame : Frame) (s : State) : Out :=
  let v : Half := (Config.freeWord s.fresh).setWidth 16
  .next (updPort p.val (fun q => q.receive 3 framing frame (fun r => r.takeRun s.clock v frame)) { s with fresh := s.fresh + 1 })

/-- CODE_STALE (R91): an ON code has outlived L cycles on a channel that it keeps closed. -/
def execCodeStale (p : Fin 8) (c : Fin 6) (s : State) : Out :=
  .next (updPort p.val (fun q =>
    if q.phase == .seeded && (q.chan c.val).closed && decide (q.staleAfter < q.scanAge) then q.staleChan c.val else q) s)

/-- PARAMETER_IMAGE_WRITE (R81). -/
def execParameterImageWrite (p : Fin 8) (addr : BitVec 7) (data : Half) (s : State) : Out :=
  .next (updPort p.val (fun q => q.imageWrite addr.toNat data) s)

/-- SAMPLE_PHASE (R48, R81). -/
def execSamplePhase (p : Fin 8) (data : Half) (s : State) : Out := .next (updPort p.val (fun q => q.setSamplePhase data) s)

/-- FRAME_PHASE_LO (R110). -/
def execFramePhaseLo (p : Fin 8) (data : Half) (s : State) : Out := .next (updPort p.val (fun q => q.setPhaseLo data) s)

/-- FRAME_PHASE_HI (R110). -/
def execFramePhaseHi (p : Fin 8) (data : Half) (s : State) : Out := .next (updPort p.val (fun q => q.setPhaseHi s.clock data) s)

/-- LEARN_REQ (R118). -/
def execLearnReq (p : Fin 8) (data : Half) (s : State) : Out := .next (updPort p.val (fun q => q.setLearn data) s)

/-- TEST_NOW (R127). -/
def execTestNow (p : Fin 8) (data : Half) (s : State) : Out := .next (updPort p.val (fun q => q.setTestNow data) s)

/-- PORT_LINK_LOSS (R94). -/
def execPortLinkLoss (p : Fin 8) (s : State) : Out := .next (updPort p.val PortSt.linkLoss s)

/-- PORT_LOGIC_RESET (R95). -/
def execPortLogicReset (p : Fin 8) (s : State) : Out := .next (updPort p.val PortSt.logicReset s)

/-- YOYO_HOLD_DECAY (R93). -/
def execYoyoHoldDecay (p : Fin 8) (c : Fin 6) (sw : Fin 3) (s : State) : Out :=
  .next (updPort p.val (fun q => q.holdDecay c.val sw.val) s)

/-- CT_TIMEOUT (R135). -/
def execCtTimeout (p : Fin 8) (s : State) : Out := .next (updPort p.val PortSt.ctTimeout s)

/-! ## Inputs and test pulses; sources are 1 to 8 -/

/-- INPUT_EDGE (R103). -/
def execInputEdge (p : Fin 8) (i : Fin 16) (samples : List InputRead) (cyc : BitVec 4) (sample : Fin 10) (s : State) : Out :=
  .next (updPort p.val (fun q => q.feed i.val samples cyc.toNat sample.val) s)

/-- INPUT_SETTLED (R105). -/
def execInputSettled (p : Fin 8) (i : Fin 16) (samples : List InputRead) (cyc : BitVec 4) (sample : Fin 10) (s : State) : Out :=
  .next (updPort p.val (fun q => q.feed i.val samples cyc.toNat sample.val) s)

/-- PULSE_FRAME_START (R116, R117). -/
def execPulseFrameStart (p : Fin 8) (fullVoltage : BitVec 8) (s : State) : Out :=
  .next (updPort p.val (fun q => q.frameStart fullVoltage) s)

/-- DARK_PULSE_START (R107, R108, R111). -/
def execDarkPulseStart (p : Fin 8) (k : Fin 8) (inputs : List InputRead) (s : State) : Out :=
  .next (updPort p.val (fun q => q.darkStart s.clock (k.val + 1) inputs) s)

/-- DARK_PULSE_END (R113). -/
def execDarkPulseEnd (p : Fin 8) (k : Fin 8) (ticks : List DarkTick) (s : State) : Out :=
  .next (updPort p.val (fun q => q.darkEnd (k.val + 1) ticks) s)

/-- BLANKING_WINDOW_END (R112). -/
def execBlankingWindowEnd (p : Fin 8) (i : Fin 16) (s : State) : Out :=
  .next (updPort p.val (fun q => q.blankEnd s.clock i.val) s)

/-- CROSS_SHORT_SEEN (R114). -/
def execCrossShortSeen (p : Fin 8) (k : Fin 8) (s : State) : Out :=
  .next (updPort p.val (fun q => q.crossShort s.clock p.val (k.val + 1)) s)

/-- SOURCE_SHORT (R116). -/
def execSourceShort (p : Fin 8) (k : Fin 8) (s : State) : Out :=
  .next (updPort p.val (fun q => q.sourceShort (k.val + 1)) s)

/-- DECAY_LEARNED (R118). -/
def execDecayLearned (p : Fin 8) (i : Fin 16) (s : State) : Out := .next (updPort p.val (fun q => q.learned i.val) s)

/-! ## Outputs and supplies -/

/-- OFF_TEST (R124). -/
def execOffTest (p : Fin 8) (c : Fin 6) (t : OffSeen) (s : State) : Out := .next (updPort p.val (fun q => q.offTest s.clock c.val t) s)

/-- ON_TEST (R125). -/
def execOnTest (p : Fin 8) (c : Fin 6) (t : OnSeen) (s : State) : Out := .next (updPort p.val (fun q => q.onTest s.clock c.val t) s)

/-- SWITCH_OFF_TEST (R126). -/
def execSwitchOffTest (p : Fin 8) (c : Fin 6) (t : OnSeen) (s : State) : Out :=
  .next (updPort p.val (fun q => q.switchOffTest s.clock c.val t) s)

/-- SWITCH_OFF_TEST_TIMEOUT (R126). -/
def execSwitchOffTestTimeout (p : Fin 8) (c : Fin 6) (s : State) : Out :=
  .next (updPort p.val (fun q => q.switchOffTimeout c.val) s)

/-- BRAKE_PULLIN_END (R130). -/
def execBrakePullinEnd (p : Fin 8) (b : Fin 2) (milliamps : Nat) (s : State) : Out :=
  .next (updPort p.val (fun q => q.pullInEnd (4 + b.val) milliamps) s)

/-- CLAMP_END (R130). -/
def execClampEnd (p : Fin 8) (b : Fin 2) (milliamps : Nat) (s : State) : Out :=
  .next (updPort p.val (fun q => q.clampEnd (4 + b.val) milliamps) s)

/-- SWITCH_NODE_MISS (R133). -/
def execSwitchNodeMiss (p : Fin 8) (b : Fin 2) (s : State) : Out :=
  .next (updPort p.val (fun q => q.switchNode (4 + b.val)) s)

/-- BRIDGE_CONFLICT (R132). -/
def execBridgeConflict (p : Fin 8) (b : Fin 2) (s : State) : Out :=
  .next (updPort p.val (fun q => q.bridgeConflict (4 + b.val)) s)

/-- OUTPUT_OVERCURRENT (R137). -/
def execOutputOvercurrent (p : Fin 8) (c : Fin 6) (sustained : Bool) (peak : Byte) (s : State) : Out :=
  .next (updPort p.val (fun q => q.overcurrent c.val sustained peak) s)

/-- AUX_FAULT (R137). -/
def execAuxFault (p : Fin 8) (mask : BitVec 4) (s : State) : Out := .next (updPort p.val (fun q => q.auxFault mask) s)

/-- AUX_RETRY (R137). -/
def execAuxRetry (p : Fin 8) (s : State) : Out := .next (updPort p.val PortSt.auxRetry s)

/-- PORT_OVERLOAD (R138). -/
def execPortOverload (p : Fin 8) (loadI : Byte) (s : State) : Out := .next (updPort p.val (fun q => q.portOverload loadI) s)

/-- PORT_OVERLOAD_OPEN (R138). -/
def execPortOverloadOpen (p : Fin 8) (loadI : Byte) (s : State) : Out :=
  .next (updPort p.val (fun q => q.overloadOpen loadI) s)

/-- SWITCH_THERMAL_LIMIT (R139). -/
def execSwitchThermalLimit (p : Fin 8) (c : Fin 6) (s : State) : Out := .next (updPort p.val (fun q => q.switchHot c.val) s)

/-- PORT_HOT (R139). -/
def execPortHot (p : Fin 8) (temp : Byte) (s : State) : Out := .next (updPort p.val (fun q => q.portHot temp) s)

/-- THERMAL_SHUTDOWN (R139). -/
def execThermalShutdown (p : Fin 8) (temp : Byte) (s : State) : Out :=
  .next (updPort p.val (fun q => q.thermalShutdown temp) s)

/-- SUPPLY_STATE (R140). -/
def execSupplyState (p : Fin 8) (uf2 : Bool) (quarterVolts : Byte) (s : State) : Out :=
  .next (updPort p.val (fun q => q.supplyState uf2 quarterVolts) s)

end Sys2Proof.Machine
end

