-- ==== Sys2Proof/Machine/BusRows.lean ====
section
/-! DEFINITION. The meanings of the host bus, store and journal commands (chapters 12 and 13). -/

namespace Sys2Proof.Machine

/-! ## Host bus -/

/-- CMD_REPLY_READ (R265). -/
def execCmdReplyRead (clocked : Nat) (s : State) : Out := .next (readCmd clocked s)

/-- STAT_READ (R266, R267). -/
def execStatRead (clocked : Nat) (s : State) : Out := .next (readStat clocked s)

/-- SFL_WINDOW_WRITE (R268). -/
def execSflWindowWrite (bytes : List Byte) (s : State) : Out := .next (writeSfl bytes s)

/-- SFL_WINDOW_READ (R268). -/
def execSflWindowRead (clocked : Nat) (s : State) : Out := .next (readSfl clocked s)

/-- JRNL_POINTER_WRITE (R269). -/
def execJrnlPointerWrite (bytes : List Byte) (s : State) : Out := .next (writeJrnl bytes s)

/-- JRNL_WINDOW_READ (R269). -/
def execJrnlWindowRead (clocked : Nat) (s : State) : Out := .next (readJrnl clocked s)

/-- ATTENTION_PERIOD (R271). -/
def execAttentionPeriod (s : State) : Out := .next (attentionPeriod s)

/-- ATTENTION_WRITE (R272, R274). -/
def execAttentionWrite (r : BusResult) (s : State) : Out := .next (attentionWrite r s)

/-- ATTENTION_BACKOFF_END (R274). -/
def execAttentionBackoffEnd (r : BusResult) (s : State) : Out := .next (attentionRetry r s)

/-- STRETCH_TIMEOUT (R275). -/
def execStretchTimeout (s : State) : Out := .next (stretchTimeout s)

/-- TARGET_TIMEOUT (R277). -/
def execTargetTimeout (s : State) : Out := .next (targetTimeout s)

/-- LINE_HELD_LOW (R277). -/
def execLineHeldLow (s : State) : Out := .next (lineHeldLow s)

/-- HOST_SILENCE (R276). -/
def execHostSilence (s : State) : Out := .next (hostSilence s)

/-! ## Store and journal -/

/-- The core writes the store: it runs and is not halted (R372). -/
def coreWrites (s : State) : Bool := live s && !s.db.coreHalted

/-- JOURNAL_COMMIT (R249, R250). -/
def execJournalCommit (nvaFails nvbFails : Nat) (s : State) : Out :=
  .next (if coreWrites s then settle (journalCommit nvaFails nvbFails s) else s)

/-- JOURNAL_GAP (R255). -/
def execJournalGap (nvaFails nvbFails : Nat) (s : State) : Out :=
  .next (if coreWrites s then settle (journalGap nvaFails nvbFails s) else s)

/-- PARAMETER_RECORD (R247). -/
def execParameterRecord (fails : Nat) (wear : List (Bool × Nat × Nat)) (s : State) : Out :=
  let s := noteWear wear s
  .next (if coreWrites s then parameterRecord fails s else s)

end Sys2Proof.Machine
end

