-- ==== Sys2Proof/Machine/CommandRows.lean ====
section
/-! DEFINITION. The meanings of the host's commands (chapter 15): each is a packet received at the CMD window, with its
opcode's parameters. A command that is a form of an opcode spells the parameters of that form. -/

namespace Sys2Proof.Machine

/-! ## Unsequenced opcodes -/

/-- PING (R300). -/
def execPing (tag : BitVec 3) (params : List Byte) (s : State) : Out :=
  .next (receivePacket (plainPacket 0x01 tag params) s)

/-- GET_IDENTITY (R300). -/
def execGetIdentity (tag : BitVec 3) (params : List Byte) (s : State) : Out :=
  .next (receivePacket (plainPacket 0x02 tag params) s)

/-- GET_STATE (R300). -/
def execGetState (tag : BitVec 3) (params : List Byte) (s : State) : Out :=
  .next (receivePacket (plainPacket 0x03 tag params) s)

/-- GET_VERSIONS (R301). -/
def execGetVersions (tag : BitVec 3) (params : List Byte) (s : State) : Out :=
  .next (receivePacket (plainPacket 0x04 tag params) s)

/-- READ_HRF (R302). -/
def execReadHrf (tag : BitVec 3) (params : List Byte) (s : State) : Out :=
  .next (receivePacket (plainPacket 0x05 tag params) s)

/-- CONFIG_INFO (R307). -/
def execConfigInfo (tag : BitVec 3) (params : List Byte) (s : State) : Out :=
  .next (receivePacket (plainPacket 0x15 tag params) s)

/-- HOST_SIGNALS_WRITE (R310). -/
def execHostSignalsWrite (tag : BitVec 3) (params : List Byte) (s : State) : Out :=
  .next (receivePacket (plainPacket 0x23 tag params) s)

/-- JOURNAL_READ (R311). -/
def execJournalRead (tag : BitVec 3) (params : List Byte) (s : State) : Out :=
  .next (receivePacket (plainPacket 0x30 tag params) s)

/-- JOURNAL_STATUS (R311). -/
def execJournalStatus (tag : BitVec 3) (params : List Byte) (s : State) : Out :=
  .next (receivePacket (plainPacket 0x32 tag params) s)

/-- COMMAND_OUTCOME (R312). -/
def execCommandOutcome (tag : BitVec 3) (params : List Byte) (s : State) : Out :=
  .next (receivePacket (plainPacket 0x38 tag params) s)

/-- TIME_STATUS (R314). -/
def execTimeStatus (tag : BitVec 3) (params : List Byte) (s : State) : Out :=
  .next (receivePacket (plainPacket 0x41 tag params) s)

/-- SFL_STATUS (R315). -/
def execSflStatus (tag : BitVec 3) (params : List Byte) (s : State) : Out :=
  .next (receivePacket (plainPacket 0x50 tag params) s)

/-- SFL_FRAME_IN (R316). -/
def execSflFrameIn (tag : BitVec 3) (params : List Byte) (s : State) : Out :=
  .next (receivePacket (plainPacket 0x51 tag params) s)

/-- SFL_FRAME_OUT (R316). -/
def execSflFrameOut (tag : BitVec 3) (params : List Byte) (s : State) : Out :=
  .next (receivePacket (plainPacket 0x52 tag params) s)

/-- PORT_STATUS (R318). -/
def execPortStatus (tag : BitVec 3) (params : List Byte) (s : State) : Out :=
  .next (receivePacket (plainPacket 0x60 tag params) s)

/-- PORT_DIAG_READ (R318). -/
def execPortDiagRead (tag : BitVec 3) (params : List Byte) (s : State) : Out :=
  .next (receivePacket (plainPacket 0x61 tag params) s)

/-- PRINT_STATUS (R321). -/
def execPrintStatus (tag : BitVec 3) (params : List Byte) (s : State) : Out :=
  .next (receivePacket (plainPacket 0x72 tag params) s)

/-- FUSE_READ (R322). -/
def execFuseRead (tag : BitVec 3) (params : List Byte) (s : State) : Out :=
  .next (receivePacket (plainPacket 0x80 tag params) s)

/-- PATCH_STATUS (R324). -/
def execPatchStatus (tag : BitVec 3) (params : List Byte) (s : State) : Out :=
  .next (receivePacket (plainPacket 0x83 tag params) s)

/-- GET_EVENT_PENDING (R326). -/
def execGetEventPending (tag : BitVec 3) (params : List Byte) (s : State) : Out :=
  .next (receivePacket (plainPacket 0x93 tag params) s)

/-- DEBUG_CHALLENGE (R327). -/
def execDebugChallenge (tag : BitVec 3) (params : List Byte) (s : State) : Out :=
  .next (receivePacket (plainPacket 0xA0 tag params) s)

/-- TB_TIME_LO_READ (R52): READ_HRF of register 0x12. -/
def execTbTimeLoRead (tag : BitVec 3) (s : State) : Out :=
  .next (receivePacket (plainPacket 0x05 tag [0x12, 1, 0, 0]) s)

/-- EN_SNAP_DATA_READ (R162): READ_HRF of register 0x69. -/
def execEnSnapDataRead (tag : BitVec 3) (s : State) : Out :=
  .next (receivePacket (plainPacket 0x05 tag [0x69, 1, 0, 0]) s)

/-! ## Sequenced opcodes -/

/-- WRITE_HRF (R303). -/
def execWriteHrf (tag : BitVec 3) (csn : Word) (params : List Byte) (s : State) : Out :=
  .next (receivePacket (seqPacket 0x06 tag csn params) s)

/-- STAGE_CONFIG_BEGIN (R304). -/
def execStageConfigBegin (tag : BitVec 3) (csn : Word) (params : List Byte) (s : State) : Out :=
  .next (receivePacket (seqPacket 0x10 tag csn params) s)

/-- STAGE_CONFIG_DATA (R304). -/
def execStageConfigData (tag : BitVec 3) (csn : Word) (params : List Byte) (s : State) : Out :=
  .next (receivePacket (seqPacket 0x11 tag csn params) s)

/-- STAGE_CONFIG_COMMIT (R305). -/
def execStageConfigCommit (tag : BitVec 3) (csn : Word) (params : List Byte) (s : State) : Out :=
  .next (receivePacket (seqPacket 0x12 tag csn params) s)

/-- ACTIVATE_CONFIG (R306). -/
def execActivateConfig (tag : BitVec 3) (csn : Word) (params : List Byte) (s : State) : Out :=
  .next (receivePacket (seqPacket 0x13 tag csn params) s)

/-- DISCARD_STAGED (R307). -/
def execDiscardStaged (tag : BitVec 3) (csn : Word) (params : List Byte) (s : State) : Out :=
  .next (receivePacket (seqPacket 0x14 tag csn params) s)

/-- RUN (R308). -/
def execRun (tag : BitVec 3) (csn : Word) (params : List Byte) (s : State) : Out :=
  .next (receivePacket (seqPacket 0x20 tag csn params) s)

/-- STOP (R308). -/
def execStop (tag : BitVec 3) (csn : Word) (params : List Byte) (s : State) : Out :=
  .next (receivePacket (seqPacket 0x21 tag csn params) s)

/-- SET_MODE_REQUEST (R309). -/
def execSetModeRequest (tag : BitVec 3) (csn : Word) (params : List Byte) (s : State) : Out :=
  .next (receivePacket (seqPacket 0x22 tag csn params) s)

/-- FAULT_ACK (R308). -/
def execFaultAck (tag : BitVec 3) (csn : Word) (params : List Byte) (s : State) : Out :=
  .next (receivePacket (seqPacket 0x24 tag csn params) s)

/-- JOURNAL_ACK (R253). -/
def execJournalAck (tag : BitVec 3) (csn : Word) (params : List Byte) (s : State) : Out :=
  .next (receivePacket (seqPacket 0x31 tag csn params) s)

/-- TIME_SET (R39). -/
def execTimeSet (tag : BitVec 3) (csn : Word) (params : List Byte) (s : State) : Out :=
  .next (receivePacket (seqPacket 0x40 tag csn params) s)

/-- TIME_SOURCE_SELECT (R314). -/
def execTimeSourceSelect (tag : BitVec 3) (csn : Word) (params : List Byte) (s : State) : Out :=
  .next (receivePacket (seqPacket 0x42 tag csn params) s)

/-- ENTROPY_RETEST (R240). -/
def execEntropyRetest (tag : BitVec 3) (csn : Word) (params : List Byte) (s : State) : Out :=
  .next (receivePacket (seqPacket 0x58 tag csn params) s)

/-- OUTPUT_TEST_NOW (R319). -/
def execOutputTestNow (tag : BitVec 3) (csn : Word) (params : List Byte) (s : State) : Out :=
  .next (receivePacket (seqPacket 0x62 tag csn params) s)

/-- LEARN_PULSES (R320). -/
def execLearnPulses (tag : BitVec 3) (csn : Word) (params : List Byte) (s : State) : Out :=
  .next (receivePacket (seqPacket 0x63 tag csn params) s)

/-- PRINT_TEXT (R359). -/
def execPrintText (tag : BitVec 3) (csn : Word) (params : List Byte) (s : State) : Out :=
  .next (receivePacket (seqPacket 0x71 tag csn params) s)

/-- FUSE_PROGRAM (R341). -/
def execFuseProgram (tag : BitVec 3) (csn : Word) (params : List Byte) (s : State) : Out :=
  .next (receivePacket (seqPacket 0x81 tag csn params) s)

/-- SET_EVENT_ENABLES (R326). -/
def execSetEventEnables (tag : BitVec 3) (csn : Word) (params : List Byte) (s : State) : Out :=
  .next (receivePacket (seqPacket 0x92 tag csn params) s)

/-- One entry of WRITE_HRF (Table 15-3). -/
def hrfEntry (index : Nat) (mask value : Word) : List Byte := leBytes 4 index ++ bytes4 mask ++ bytes4 value

/-- EN_SNAP_HOLD (R161): HOLD written as 1. -/
def execEnSnapHold (tag : BitVec 3) (csn : Word) (s : State) : Out :=
  .next (receivePacket (seqPacket 0x06 tag csn (hrfEntry 0x66 1 1)) s)

/-- EN_SNAP_RELEASE (R161): HOLD written as 0. -/
def execEnSnapRelease (tag : BitVec 3) (csn : Word) (s : State) : Out :=
  .next (receivePacket (seqPacket 0x06 tag csn (hrfEntry 0x66 1 0)) s)

/-- EV_PENDING_CLEAR (R329). -/
def execEvPendingClear (tag : BitVec 3) (csn : Word) (n : Fin 8) (mask : Word) (s : State) : Out :=
  .next (receivePacket (seqPacket 0x06 tag csn (hrfEntry (0x98 + n.val) mask mask)) s)

/-- The parameters of TIME_SET (Table 15-5). -/
def timeSetParams (tai : DWord) (offset : Half) (flags : Byte) : List Byte := bytes8 tai ++ bytes2 offset ++ [flags, 0]

/-- LEAP_ANNOUNCE (R313). -/
def execLeapAnnounce (tag : BitVec 3) (csn : Word) (tai : DWord) (offset : Half) (delete : Bool) (s : State) : Out :=
  .next (receivePacket (seqPacket 0x40 tag csn (timeSetParams tai offset (if delete then 6 else 2))) s)

/-- LEAP_CANCEL (R313). -/
def execLeapCancel (tag : BitVec 3) (csn : Word) (tai : DWord) (offset : Half) (s : State) : Out :=
  .next (receivePacket (seqPacket 0x40 tag csn (timeSetParams tai offset 8)) s)

/-- PAUSE (R364). -/
def execPause (tag : BitVec 3) (csn : Word) (s : State) : Out :=
  .next (receivePacket (seqPacket 0x70 tag csn [1, 0, 0, 0]) s)

/-- RESUME (R364). -/
def execResume (tag : BitVec 3) (csn : Word) (s : State) : Out :=
  .next (receivePacket (seqPacket 0x70 tag csn [2, 0, 0, 0]) s)

/-- FEED (R364). -/
def execFeed (tag : BitVec 3) (csn : Word) (lines : Byte) (s : State) : Out :=
  .next (receivePacket (seqPacket 0x70 tag csn [3, lines, 0, 0]) s)

/-- TEST_LINE (R364). -/
def execTestLine (tag : BitVec 3) (csn : Word) (s : State) : Out :=
  .next (receivePacket (seqPacket 0x70 tag csn [4, 0, 0, 0]) s)

/-- PATCH_INSTALL_BEGIN (R324). -/
def execPatchInstallBegin (tag : BitVec 3) (csn : Word) (total : Word) (s : State) : Out :=
  .next (receivePacket (seqPacket 0x82 tag csn ([0, 0, 0, 0] ++ bytes4 total)) s)

/-- PATCH_INSTALL_DATA (R324). -/
def execPatchInstallData (tag : BitVec 3) (csn : Word) (offset : Word) (bytes : List Byte) (s : State) : Out :=
  .next (receivePacket (seqPacket 0x82 tag csn ([1, 0, 0, 0] ++ bytes4 offset ++ bytes)) s)

/-- PATCH_INSTALL_FINISH (R343). -/
def execPatchInstallFinish (tag : BitVec 3) (csn : Word) (total : Word) (s : State) : Out :=
  .next (receivePacket (seqPacket 0x82 tag csn ([2, 0, 0, 0] ++ bytes4 total)) s)

/-- RESET_DEVICE_WARM (R325). -/
def execResetDeviceWarm (tag : BitVec 3) (csn : Word) (s : State) : Out :=
  .next (receivePacket (seqPacket 0x90 tag csn [0, 0, 0, 0]) s)

/-- RESET_DEVICE_COLD (R325). -/
def execResetDeviceCold (tag : BitVec 3) (csn : Word) (s : State) : Out :=
  .next (receivePacket (seqPacket 0x90 tag csn [1, 0, 0, 0]) s)

/-- ENTER_DORMANT (R70): the pin WAKE is as it stands when the command executes. -/
def execEnterDormant (tag : BitVec 3) (csn : Word) (params : List Byte) (wake : Bool) (s : State) : Out :=
  .next (receivePacket (seqPacket 0x91 tag csn params) { s with dev := { s.dev with wakePin := wake } })

/-! ## The command layer -/

/-- COMMAND_GAP_TIMEOUT (R289). -/
def execCommandGapTimeout (s : State) : Out := .next (gapTimeout s)

/-- CMD_PACKET_REFUSED (R284): the bytes of a write to the CMD window. -/
def execCmdPacketRefused (bytes : List Byte) (s : State) : Out := .next (receiveRaw bytes s)

end Sys2Proof.Machine
end

