-- ==== Sys2Proof/Machine/EngineRows.lean ====
section
/-! DEFINITION. The meanings of the engine's commands (chapters 7 to 9). SCAN evaluates the whole image; a command that
names the end of one block's time stands for the scan at which that time is up: the block's count is brought there, and
the block is evaluated with the inputs of the latest scan. -/

namespace Sys2Proof.Machine

/-! ## The scan and re-verification -/

/-- SCAN (R146). -/
def execScan (e : ScanEnv) (s : State) : Out := .next (settle (scan e s))

/-- REVERIFICATION_COMPLETE (R159). -/
def execReverificationComplete (pass : Bool) (check : Word) (us : Half) (s : State) : Out :=
  .next (settle (reverifyDone pass check us s))

/-- COUNTED_FAILURE_WINDOW_END (R160). -/
def execCountedFailureWindowEnd (s : State) : Out := .next (windowEnd s)

/-! ## One block at the scan where its time is up -/

/-- The output values of a block written to its signals, coded under the present D (R150). -/
def putOuts (im : Image) (d : Word) (b : Block) (outs : List Nat) (words : List Word) : List Word :=
  (List.range b.outs.length).foldl (fun w k =>
    match (b.outs[k]?).join with
    | some i => w.set i (encodeWord (outs[k]?.getD 0) (sigAt im i).sig d)
    | none => w) words

/-- A block evaluated from a state with inputs of its own: its results, its state and its events. -/
def evalOne (im : Image) (ix : Nat) (b : Block) (ins modes : List Nat) (st : BlockSt) (s : State) : State :=
  let r := evalBlock (blkCtx s im s.en.scanNo modes false b) b ins st
  let s := { s with en := { s.en with
    blocks := s.en.blocks.set ix r.st, words := putStates im s.en.lfsr b r.st s.en.mode (putOuts im s.en.lfsr b r.outs s.en.words) } }
  reportBlk im ix b r s

/-- A block of the active image that has been scanned since the entry into RUN, while the engine scans. -/
def blockInRun (ix : Nat) (s : State) : Option (Image × Block × BlockSt) :=
  if s.dev.dvState == .run && s.en.scanning && !s.en.seedWait then
    match s.en.image with
    | some im =>
      match im.blocks[ix]?, s.en.blocks[ix]? with
      | some b, some st => if st.first then none else some (im, b, st)
      | _, _ => none
    | none => none
  else none

/-- Block ix at the scan where a time of it is up: a block of one of the types, its state brought there by f, which is given
the scan period. -/
def timeUp (types : List BlockType) (f : Nat → BlockParams → BlockSt → BlockSt) (ix : Nat) (s : State) : State :=
  match blockInRun ix s with
  | some (im, b, st) =>
    if types.contains b.type then evalOne im ix b st.prev [] (f (periodUs im.scanPer.val) b.params st) s else s
  | none => s

/-- The last scan of N_DISC (R175). -/
def toDiscrepancy (per : Nat) (p : BlockParams) (st : BlockSt) : BlockSt :=
  { st with t1 := scansOf per p.tDisc - 1, t2 := scansOf per p.tDisc - 1 }

/-- The last scan of T_LOCK (R179), where it runs. -/
def toLockLimit (per : Nat) (p : BlockParams) (st : BlockSt) : BlockSt :=
  if st.t4 = 0 then st else { st with t4 := scansOf per p.tLock }

/-- The last scan of T_RUNDOWN (R179). -/
def toRundown (per : Nat) (p : BlockParams) (st : BlockSt) : BlockSt := { st with t3 := scansOf per p.tRundown - 1 }

/-- The last scan of T_ANTI on either hand (R180). -/
def toAntivalence (per : Nat) (p : BlockParams) (st : BlockSt) : BlockSt :=
  { st with t3 := scansOf per p.tAnti - 1, t4 := scansOf per p.tAnti - 1 }

/-- The last scan of T_EDM after a rise or a fall (R184). -/
def toFeedback (per : Nat) (p : BlockParams) (st : BlockSt) : BlockSt :=
  { st with t1 := scansOf per p.tEdm - 1, t2 := scansOf per p.tEdm }

/-- The last scan of T_BTEST (R182). -/
def toBrakeTestEnd (per : Nat) (p : BlockParams) (st : BlockSt) : BlockSt := { st with t1 := scansOf per p.tBtest - 1 }

/-- The ON count of a press brought to N_MAX (R204). -/
def toStuck (per : Nat) (p : BlockParams) (st : BlockSt) : BlockSt :=
  if st.active && decide (st.t1 ≤ scansOf per p.tMax) then { st with t1 := scansOf per p.tMax } else st

/-- The OFF count one short of N_MIN (R205). -/
def toArmed (per : Nat) (p : BlockParams) (st : BlockSt) : BlockSt :=
  if st.active then st else { st with t2 := scansOf per p.tMin - 1, t3 := max st.t3 (scansOf per p.tMin - 1) }

/-- The last scan of PT (Table 8-6). -/
def toPt (per : Nat) (p : BlockParams) (st : BlockSt) : BlockSt := { st with t1 := scansOf per p.pt - 1 }

/-- DISCREPANCY (R175, R179). -/
def execDiscrepancy (blk : Nat) (s : State) : Out := .next (timeUp [.estop, .guard, .lcurt, .guardLock] toDiscrepancy blk s)

/-- LOCK_NOT_REACHED (R179). -/
def execLockNotReached (blk : Nat) (s : State) : Out := .next (timeUp [.guardLock] toLockLimit blk s)

/-- RUNDOWN_ELAPSED (R179). -/
def execRundownElapsed (blk : Nat) (s : State) : Out := .next (timeUp [.guardLock] toRundown blk s)

/-- DOOR_OPEN_WHILE_LOCKED (R179): the second scan of the condition. -/
def execDoorOpenWhileLocked (blk : Nat) (s : State) : Out := .next (timeUp [.guardLock] (fun _ _ st => st) blk s)

/-- The inputs with the hand that was not the first one actuated. -/
def bothHands (st : BlockSt) : List Nat :=
  let x := inp st.prev
  if st.t2 = 1 then [x 0, x 1, 1, 0] else [1, 0, x 2, x 3]

/-- The second hand of an operation is actuated one scan beyond T_SYNC (R180). -/
def syncFail (ix : Nat) (s : State) : State :=
  match blockInRun ix s with
  | some (im, b, st) =>
    if b.type = .twohand ∧ st.active then
      evalOne im ix b (bothHands st) [] { st with t1 := scansOf (periodUs im.scanPer.val) b.params.tSync } s
    else s
  | none => s

/-- TWOHAND_SYNC_FAIL (R180). -/
def execTwohandSyncFail (blk : Nat) (s : State) : Out := .next (syncFail blk s)

/-- CONTACT_ANTIVALENCE (R180). -/
def execContactAntivalence (blk : Nat) (s : State) : Out := .next (timeUp [.twohand] toAntivalence blk s)

/-- FEEDBACK_FAULT (R184). -/
def execFeedbackFault (blk : Nat) (s : State) : Out := .next (timeUp [.edm] toFeedback blk s)

/-- BRAKE_TEST_END (R182). -/
def execBrakeTestEnd (blk : Nat) (s : State) : Out := .next (timeUp [.sbc] toBrakeTestEnd blk s)

/-- The hour counter of block ix's brake brought to BT_INT (R183). -/
def brakeHours (ix : Nat) (s : State) : State :=
  match blockInRun ix s with
  | some (_, b, _) =>
    if b.type = .sbc ∧ 0 < b.params.btInt then
      setItem (fun q => { q with
        brMinutes := updVec q.brMinutes (2 * b.params.brakePort.val + b.params.brakeIx.val) (max (b.params.btInt * 60)) }) s
    else s
  | none => s

/-- BRAKE_TEST_DUE (R183). -/
def execBrakeTestDue (blk : Nat) (s : State) : Out := .next (timeUp [.sbc] (fun _ _ st => st) blk (brakeHours blk s))

/-- RESTART_STUCK (R204). -/
def execRestartStuck (blk : Nat) (s : State) : Out := .next (timeUp [.restart] toStuck blk s)

/-- RESTART_ARMED (R205). -/
def execRestartArmed (blk : Nat) (s : State) : Out := .next (timeUp [.restart] toArmed blk s)

/-- TON_ELAPSED (R190). -/
def execTonElapsed (blk : Nat) (s : State) : Out := .next (timeUp [.ton] toPt blk s)

/-- TOF_ELAPSED (R190). -/
def execTofElapsed (blk : Nat) (s : State) : Out := .next (timeUp [.tof] toPt blk s)

/-- PULSE_ELAPSED (R190). -/
def execPulseElapsed (blk : Nat) (s : State) : Out := .next (timeUp [.pulse] toPt blk s)

/-! ## The selector and the hand-over -/

/-- The place of the MODESEL block. -/
def modeselIx (s : State) : Option Nat := (List.range (blocksOf s).length).find? (fun i =>
  match (blocksOf s)[i]? with
  | some b => b.type == .modesel
  | none => false)

/-- The selector judged with its counts brought on by f, which is given N_SEL; no request of the host or a connection is
judged. -/
def selectorUp (f : Nat → ModeSt → ModeSt) (s : State) : State :=
  match modeselIx s with
  | none => s
  | some ix =>
    match blockInRun ix s with
    | none => s
    | some (im, b, st) =>
      let m0 := f (scansOf (periodUs im.scanPer.val) b.params.tSel) s.en.mode
      let m := evalModesel { modeIn s im b st.prev false with host := none, w1 := m0.lastW1 } m0
      evalOne im ix b st.prev m.outs st (takeModesel im ix b m s)

/-- SELECTOR_FAULT (R186): the last scan of T_SEL with an invalid pattern. -/
def execSelectorFault (s : State) : Out := .next (selectorUp (fun n m => { m with badCount := n - 1 }) s)

/-- MODE_REQUEST_PINS (R194): the N_SEL-th scan of a pattern that has not been requested. -/
def execModeRequestPins (s : State) : Out :=
  .next (selectorUp (fun n m => if m.patCount < n then { m with patCount := n - 1 } else m) s)

/-- After the second hand-over scan the new mode alone governs (R197). -/
def handoverEnd (s : State) : State :=
  if s.en.scanning ∧ s.dev.handover = 1 then { s with dev := { s.dev with handover := 0 } } else s

/-- MODE_HANDOVER_END (R197). -/
def execModeHandoverEnd (s : State) : Out := .next (handoverEnd s)

/-! ## Outputs that never switch (R128) -/

/-- The operating minutes of channel c of port p brought to at least n. -/
def channelMinutes (p c n : Nat) (s : State) : State :=
  setItem (fun q => { q with chMinutes := updVec q.chMinutes (6 * p + c) (max n) }) s

/-- 720 operating hours of an enabled channel. -/
def untestedAt (p c : Nat) (s : State) : State :=
  if live s && chanEnabled p c s then channelUntested p c (channelMinutes p c 43200 s) else s

/-- 1,440 operating hours of an enabled channel: a closed one stays under engine control. -/
def refusedAt (p c : Nat) (s : State) : State :=
  if live s && chanEnabled p c s then
    let s := channelUntested p c (channelMinutes p c 86400 s)
    if (getLink p s).outNow.getLsbD c then s else channelRefused p c s
  else s

/-- OUTPUT_UNTESTED (R128). -/
def execOutputUntested (p : Fin 8) (c : Fin 6) (s : State) : Out := .next (untestedAt p.val c.val s)

/-- OUTPUT_REFUSED (R128). -/
def execOutputRefused (p : Fin 8) (c : Fin 6) (s : State) : Out := .next (refusedAt p.val c.val s)

end Sys2Proof.Machine
end

