-- ==== Sys2Proof/Machine/Boot.lean ====
section
/-! DEFINITION. Resets, boot and DORMANT (chapter 3): the boot steps of Table 3-3, the verdicts that end a boot, the blink
code, the entry into DORMANT. -/

namespace Sys2Proof.Machine

/-! ## Steps 1 to 3 (R61, R262, R378, R379) -/

/-- The base address (R262): four addresses within 0x08 to 0x77, or none. -/
def baseOf (dflt : BitVec 7) (straps : BitVec 2) : BitVec 7 :=
  let b := dflt.toNat / 4 * 4 + 4 * straps.toNat
  if 0x08 ≤ b ∧ b + 3 ≤ 0x77 then BitVec.ofNat 7 b else 0

/-- The pins once the straps have been sampled (R379) and the fuses sensed: a port disabled by fuse has no pull-up on DBG_IO (R368). -/
def Pins.sensed (disabled : Bool) (p : Pins) : Pins := { p with addrPull := false, dbgPull := !disabled }

/-- Fuse sense, the straps, the base address. -/
def bootSense (addr : BitVec 2) (s : State) : State :=
  let fu := s.fu.sensed
  let pins := s.dev.pins.sensed (fu.safecfg.getLsbD 0)
  { s with fu := fu, dev := { s.dev with straps := addr, pins := pins }, hb := { s.hb with base := baseOf fu.baseAddr addr } }

/-- The image that the newest parameter record names, as the engine reads it; none where it fails its CRC (R62). -/
def bootImage (crcOk : Bool) (s : State) : Option Image :=
  if s.nv.live.hasActive && crcOk then Config.imageOfBody (activeBank s).bodyBytes else none

/-- Firmware runs: FAULT_N is high from the end of step 2, the PLL has locked; items, settings and mode as after a reset, with a
record due for the hour counters (R60, R64, R65, R128, R247). -/
def bootFirmware (crcOk : Bool) (s : State) : State :=
  let s := { s with
    dev := { s.dev with phase := .running, dvState := .boot, faultN := true, safeOk := false, pllLock := true },
    nv := { s.nv with live := s.nv.stored.resumed, due := true } }
  let s := loadImage (bootImage crcOk s) s
  tsyncGate { s with set := defaultsOf s, dev := { s.dev with mode := modeOfImage s.en.image (pwrUpMode s) } }

/-! ## Steps 4 to 6 -/

/-- A clock-window reset is recorded at the first boot after it (Table 1-3), with what its own trips saw. -/
def noteClockReset (s : State) : State :=
  if s.dev.cause = 5 then raise 224 0x0001 .fault (argOf [(0, s.dev.clockWhy.toNat)]) s else s

/-- A quality that the reset changed is recorded (R34, R44). -/
def noteQuality (s : State) : State :=
  match s.tb.qualityWas with
  | none => s
  | some q =>
    raiseCause 6 (raise 225 0x0001 .notice (argOf [(0, q.code), (1, s.tb.quality.code)])
      { s with tb := { s.tb with qualityWas := none } })

/-- What step 4 found: the fault code and its detail, the test number or the failing address bits 9:2 (R28, R62,
Table 3-11); the first failure gives the code (DESIGN CHOICE, log entry 80). -/
def bootTest (b : BootInputs) : Option (Byte × Byte) :=
  if !b.romOk then some (0x03, 0)
  else if !b.sramOk then some (0x04, (b.sramAddr >>> 2).setWidth 8)
  else if !b.monTest1 then some (0x02, 1)
  else if !b.monTest2 then some (0x02, 2)
  else none

/-- A monitor test that failed raises CLKMON_TEST_FAIL with its number (R28, Table 1-3), each of the two for itself and
whatever else step 4 found (DESIGN CHOICE, log entry 80). -/
def monTest (n : Nat) (ok : Bool) (s : State) : State := if ok then s else raise 224 0x0004 .fault (argOf [(0, n)]) s

/-- Step 4. -/
def bootTests (b : BootInputs) (s : State) : State :=
  let s := { s with dev := { s.dev with monTestOk := b.monTest1 && b.monTest2 } }
  let s := monTest 2 b.monTest2 (monTest 1 b.monTest1 s)
  match bootTest b with
  | none => s
  | some (code, _) => raise 226 0x0005 .fault (argOf [(0, 4), (1, code.toNat)]) s

/-- The start-up test that begins with step 4 (R238). -/
def bootEntropy (raw : List Bool) (s : State) : State :=
  match s.ent.state with
  | .startup =>
    if startupPasses raw then { s with ent := { (s.ent.afresh.testAll raw).1 with state := .healthy } } else healthFail 3 s
  | _ => s

/-- The macros' boot tests (R257). -/
def bootMacros (b : BootInputs) (s : State) : State :=
  let s := if b.nvaOk then s else macroFail false 1 b.nvaAddr none s
  if b.nvbOk then s else macroFail true 1 b.nvbAddr none s

/-- The AORF check, judged after any reset other than POWER_ON and BROWN_OUT (R67). Of AORF_CHECK_FAIL's argument the stored
CRC is bytes 0 and 1 and the computed one bytes 2 and 3 (DESIGN CHOICE, log entry 81). -/
def bootAorf (noise : Half) (s : State) : State :=
  if noise = 0 ∨ s.dev.cause = 1 ∨ s.dev.cause = 2 then s
  else
    let good := crc16 s.aorf.deviceBytes
    raise 226 0x0004 .lockout (argOf [(0, (good ^^^ noise).toNat), (2, good.toNat)])
      { s with aorf := Aorf.seal { s.aorf with lockout := true } }

/-- The journals recovered (R251): copies that fail their CHECK, and the writes in hand at the reset, which NVA holds while it is in
service. -/
def bootJournal (b : BootInputs) (s : State) : State :=
  let s := recoverCopies (fun m => if m then b.nvbOk else b.nvaOk) b.badCopies s
  if b.nvaOk && !s.nv.live.nvaOut then recoverJournal s else { s with nv := { s.nv with torn := none } }

/-- Step 6: macros, recovery, the outcome of every accepted command, the AORF check. -/
def bootStore (b : BootInputs) (s : State) : State :=
  let s := flushJournal (noteRecovered (bootMacros b s))
  let s := if nvBothOut s then s else resolveAll b.retestRaw s
  let s := bootAorf b.aorfNoise s
  { s with
    aorf := Aorf.seal { s.aorf with dormantPending := false }, hb := { s.hb with jptr := seqNext s.nv.live.ack } }

/-! ## Steps 7 to 9 (R62, R86, R87, R345 to R348) -/

/-- The image treated as absent (R62, R348). The settings stand: boot has restored the compiler's defaults (R65, R404), and step 6
may have resumed a write on top of them (Table 14-7). -/
def noImage (s : State) : State :=
  let s := versionRegs (loadImage none s)
  { s with dev := { s.dev with noConfig := true, mode := .auto } }

/-- The combination in step 8: its mismatch code, 0 tested. -/
def bootMismatch (im : Image) (s : State) : Nat := imageMismatch im.abi im.format im.compiler s

/-- VERSION_MISMATCH for a code in step 8, or FU_MISMATCH 0 for a tested combination. -/
def noteVersions (code : Nat) (s : State) : State := if code = 0 then s else noteMismatch code 0xFF s

/-- One link started in step 9, and what its IDENT frames show: held on a strap mismatch or an untested revision, else
checked and on its way, or held in a MISMATCH (R87, R347). -/
def bootLink (seen : Option IdentSeen) (l : Nat) (s : State) : State :=
  let s := startLink l s
  match seen with
  | none => s
  | some i => linkCheck l (updLink l (fun k => { k with phase := 3, rev := i.rev, straps := i.straps }) s)

/-- Step 9 (R59, R110, R151), with an active image or without: the frame counter starts, the engine's state is drawn, and
every link below the fused port count starts (R1). -/
def bootLinks (idents : List (Option IdentSeen)) (s : State) : State :=
  let s := requestLoad { s with short := { s.short with frameClock := s.clock } }
  (List.range 8).foldl (fun s l => if l < portsFused s then bootLink (idents[l]?).join l s else s) s

/-- In MISMATCH every link is held at the end of phase 3 (R347). -/
def holdLinks (s : State) : State :=
  { s with links := s.links.map (fun l => if l.phase = 4 then { l with phase := 7 } else l) }

/-! ## The end of a boot (R62, R68) -/

/-- Auto-run is given to these causes (R62). -/
def autoRunCause (cause : Nat) : Bool :=
  match Kind.ofCode cause with
  | .powerOn | .brownOut | .pin | .cold | .warm | .dormantWake => true
  | _ => false

/-- The first state after VERIFY, with DEVICE_BOOT, which is committed in that moment after all that boot raised (R68); while a
gap that a reset left open is counted on, DEVICE_BOOT is counted into it, and its record is committed (R255). -/
def endBoot (us : BitVec 24) (st : DvState) (s : State) : State :=
  let s := flushJournal (passTime us.toNat s)
  let c : Cls := if s.dev.cause = 4 ∨ s.dev.cause = 2 then .warning else .notice
  let s := raise 226 0x0001 c (argOf [(0, (dvResetCause s).toNat), (4, st.code.toNat), (5, us.toNat)]) s
  let s := { s with dev := withPins st s.dev, hb := { s.hb with silenceOn := st == .stop || st == .run } }
  raiseCause 1 (flushJournal s)

/-- Boot ends in FAULT, where re-verification runs (R159). -/
def endInFault (us : BitVec 24) (code detail : Byte) (s : State) : State :=
  let s := { s with
    dev := { s.dev with faultCode := code, faultDetail := detail, faultCount := inc8 s.dev.faultCount },
    en := { s.en with reverify := true, reverifyOk := false } }
  endBoot us .fault s

/-- Boot ends in RUN. -/
def endInRun (us : BitVec 24) (im : Image) (s : State) : State := drawProducers (endBoot us .run (startEngine im s))

/-- Steps 7 to 10 with an active image. -/
def bootVerify (b : BootInputs) (im : Image) (s : State) : State :=
  let code := bootMismatch im s
  let s := noteVersions code { versionRegs s with fu := { (versionRegs s).fu with mismatch := 0xFF00 } }
  let s := bootLinks b.idents s
  if s.fu.mismatch.toNat % 256 ≠ 0 then endBoot b.bootUs .mismatch (holdLinks s)
  else if im.autoRun && autoRunCause s.dev.cause.toNat && !s.dev.stopResumed then endInRun b.bootUs im s
  else endBoot b.bootUs .stop s

/-- Steps 7 to 10 without an active image: links start all the same (R59, R86; log entry 83). -/
def bootBare (b : BootInputs) (s : State) : State := endBoot b.bootUs .stop (bootLinks b.idents (noImage s))

/-- SERVICE_BOOT: the active image is treated as absent (R348). -/
def serviceBoot (b : BootInputs) (s : State) : State :=
  bootBare b (raise 237 0x0E09 .warning (argOf [(0, (dvResetCause s).toNat)]) s)

/-- After step 6 no verdict of steps 4 to 6 ends the boot (R62, R67, R257). -/
def bootGoesOn (b : BootInputs) (s : State) : Bool := !s.aorf.lockout && bootTest b == none && !nvBothOut s

/-- What the boot comes to after step 6. -/
def bootVerdict (b : BootInputs) (s : State) : State :=
  if s.aorf.lockout then endBoot b.bootUs .lockout s
  else match bootTest b with
    | some (code, detail) => endInFault b.bootUs code detail s
    | none =>
      if nvBothOut s then endInFault b.bootUs 0x08 0 s
      else match s.en.image with
        | none => bootBare b s
        | some im => bootVerify b im s

/-- Steps 3 to 6, with the active image or with none. -/
def bootToStore (b : BootInputs) (image : Bool) (s : State) : State :=
  let s := bootFirmware image s
  let s := { s with dev := { s.dev with wakePin := b.wakeHigh } }
  let s := bootJournal b s
  let s := fuseEvents (noteQuality (noteClockReset s))
  let s := bootEntropy b.entropyRaw (bootTests b s)
  bootStore b (patchBoot s)

/-- Steps 3 to 10. A service boot treats the image as absent: the settings that step 6 found were the compiler's (R65, R348, R404). -/
def bootOn (b : BootInputs) (s : State) : State :=
  let t := bootToStore b b.cfgCrcOk s
  if b.wakeHigh && bootGoesOn b t then serviceBoot b (bootToStore b false s) else bootVerdict b t

/-- BOOT (R59): from an asserted reset that has been released. TESTMODE holds the controller in step 1 (R378), a failed fuse
check in step 2 (R61). -/
def boot (b : BootInputs) (s : State) : State :=
  if s.dev.phase ≠ .inReset then s
  else
    let s := bootSense b.addr s
    if b.testmode then { s with dev := { s.dev with phase := .testHold, faultN := false } }
    else match blinkCode s.fu with
      | some n => { s with dev := { s.dev with phase := .blink n, blinkStep := 0, faultN := false } }
      | none => bootOn b s

/-! ## The blink code (R61, Table 3-4) -/

/-- FAULT_N in step k of a code of n pulses: low in each pulse's first 200 ms. -/
def blinkHigh (n k : Nat) : Bool := decide (2 * n ≤ k) || k % 2 == 1

/-- The next toggle of FAULT_N: 2n steps of 200 ms, and the pause as one. -/
def faultNBlink (s : State) : State :=
  match s.dev.phase with
  | .blink n =>
    let k := (s.dev.blinkStep + 1) % (2 * n + 1)
    { s with dev := { s.dev with blinkStep := k, faultN := blinkHigh n k } }
  | _ => s

/-! ## Reset causes (Table 3-2) -/

/-- The controller is held after a failed fuse check: the blink code repeats until power or nRST ends it (R61). -/
def blinking (s : State) : Bool :=
  match s.dev.phase with
  | .blink _ => true
  | _ => false

/-- The controller is held by TESTMODE until the next reset (R378). -/
def testHeld (s : State) : Bool := s.dev.phase == .testHold

/-- The device is in DORMANT. -/
def isDormant (s : State) : Bool := s.dev.phase == .dormant

/-- nRST: a wake in DORMANT (R72), else a PIN reset. -/
def pinReset (s : State) : State :=
  if isDormant s then assertReset .dormantWake true .none s else assertReset .pin false .none s

/-- The supervisor watchdog: frozen while the core is halted (R372), unpowered in DORMANT, and without firmware to serve while the
controller is held before step 2 ends. -/
def watchdogReset (s : State) : State :=
  if isDormant s || blinking s || testHeld s || s.db.coreHalted then s else assertReset .watchdog false .none s

/-- The rate-window monitor trips (R26): what it saw, with what trips within the same reset saw before, is kept for the
event of the next boot. It is disarmed in DORMANT (R24); a controller that TESTMODE holds starts boot again (R58, R378). -/
def clockTrip (why : BitVec 3) (t : Tear) (s : State) : State :=
  if isDormant s || blinking s then s
  else
    let before := if s.dev.phase.asserted then s.dev.clockWhy else 0
    let s := tearPacket t s
    assertReset .clockWindow false t { s with dev := { s.dev with clockWhy := before ||| why } }

/-- The clock-window reset is released (R26). -/
def clockRelease (s : State) : State :=
  if s.dev.phase = .clockHeld then { s with dev := { s.dev with phase := .inReset } } else s

/-- A wake from DORMANT (R72). -/
def wake (byNrst : Bool) (s : State) : State :=
  if isDormant s then assertReset .dormantWake byNrst .none s else s

/-! ## DORMANT (R70, Table 3-8) -/

/-- The ENTER_DORMANT outcome OK, with the record that commits it. -/
def dormantOutcome (c : Chain) (s : State) : State :=
  let s := raise 226 0x0003 .notice (argOf [(0, c.csn.toNat)]) s
  putOutcome (closedEntry c stOk) (flushJournal s)

/-- The AORF written: one more entry, its CSN (Table 3-6). -/
def Aorf.toDormant (csn : Word) (a : Aorf) : Aorf :=
  Aorf.seal { a with dormantPending := true, dormantCount := inc8 a.dormantCount, dormantCsn := csn }

/-- The pins in DORMANT (R71, R376, Table 19-2): at their reset state, crystal and converter stopped, the pull-ups and pull-downs
disconnected. -/
def Pins.dormant : Pins := { Pins.new with xtal := false, conv := false, addrPull := false, dbgPull := false, pulls := false }

/-- DORMANT: the bus and every output at their reset state (R71), the PLL stopped, the monitor disarmed. -/
def Dev.toDormant (d : Dev) : Dev :=
  { d with phase := .dormant, monArmed := false, pllLock := false, faultN := false, safeOk := false, tsyncOut := false,
           pins := Pins.dormant }

/-- LD0 to LD7 held low, pending writes completed, the print cursor saved, DORMANT_ENTERED committed, DORMANT reached. -/
def dormantEntered (s : State) : State :=
  match s.cm.running, headChain s with
  | some .dormant, some c =>
    if s.dev.dvState ≠ .dormantEntry then s
    else
      let s := (List.range 8).foldl (fun s l => dropLink l s) s
      let s := dormantOutcome c (writeParams s)
      { s with
        aorf := s.aorf.toDormant c.csn, dev := s.dev.toDormant, cm := { s.cm with running := none },
        wp := { s.wp with motorOn := false, stepPin := false, strobe1 := [], strobe2 := [], strobes := [], shifts := [] } }
  | _, _ => s

end Sys2Proof.Machine
end

