-- ==== Sys2Proof/Machine/Temperature.lean ====
section
/-! DEFINITION. The controller's own die temperature (R401). -/

namespace Sys2Proof.Machine

/-- 125 °C, 140 °C and 120 °C as die temperature + 64. -/
def tempWarn : Nat := 189
def tempTrip : Nat := 204
def tempClear : Nat := 184

/-- An event of source 238 with the temperature. -/
def tempEvent (code : Half) (c : Cls) (t : Byte) (s : State) : State := raise 238 code c (argOf [(0, t.toNat)]) s

/-- The overtemperature condition begins: OVERTEMP_TRIP, and FAULT with OVERTEMP from RUN or STOP (Table 3-7). -/
def overTempTrip (t : Byte) (s : State) : State :=
  let s := tempEvent 0x1102 .fault t { s with dev := { s.dev with overTemp := true, tempHigh := true } }
  if stateRunStop s then enterFault 0x09 0 s else s

/-- One measurement (R401): each event is raised once, as its threshold is crossed; a measurement that finds RUN or STOP at 140 °C
trips whenever the condition began (a halt or another fault hid it, log entry 57). -/
def measureTemp (t : Byte) (s : State) : State :=
  let s := { s with dev := { s.dev with dieTemp := t } }
  let s := if tempWarn ≤ t.toNat ∧ !s.dev.tempHigh then
      tempEvent 0x1101 .warning t { s with dev := { s.dev with tempHigh := true } }
    else s
  if tempTrip ≤ t.toNat ∧ (!s.dev.overTemp || stateRunStop s) then overTempTrip t s
  else if t.toNat < tempClear ∧ s.dev.tempHigh then
    tempEvent 0x1103 .notice t { s with dev := { s.dev with tempHigh := false, overTemp := false } }
  else s

end Sys2Proof.Machine
end

