-- ==== Sys2Proof/Machine/ResetRows.lean ====
section
/-! DEFINITION. The meanings of the supply, reset, boot, time base and die temperature commands (chapters 1 to 3). -/

namespace Sys2Proof.Machine

/-! ## Supply, resets and boot -/

/-- POWER_ON (R57). -/
def execPowerOn (t : Tear) (s : State) : Out := .next (assertReset .powerOn false t (tearPacket t s))

/-- BROWN_OUT (R57). -/
def execBrownOut (t : Tear) (s : State) : Out := .next (assertReset .brownOut false t (tearPacket t s))

/-- PIN (R57, R72). -/
def execPin (s : State) : Out := .next (pinReset s)

/-- WATCHDOG (R57). -/
def execWatchdog (s : State) : Out := .next (watchdogReset s)

/-- CLOCK_WINDOW_TRIP (R26). -/
def execClockWindowTrip (why : BitVec 3) (t : Tear) (s : State) : Out := .next (clockTrip why t s)

/-- CLOCK_WINDOW_RELEASE (R26). -/
def execClockWindowRelease (s : State) : Out := .next (clockRelease s)

/-- DORMANT_WAKE (R72). -/
def execDormantWake (byNrst : Bool) (s : State) : Out := .next (wake byNrst s)

/-- BOOT (R59). -/
def execBoot (b : BootInputs) (s : State) : Out := .next (boot b s)

/-- DORMANT_ENTERED (R70). -/
def execDormantEntered (s : State) : Out := .next (dormantEntered s)

/-- FAULT_N_BLINK (R61). -/
def execFaultNBlink (s : State) : Out := .next (faultNBlink s)

/-- An uncorrectable SRAM ECC error (R68): FAULT with SRAM_ECC, whose detail is address bits 9:2 (Table 3-9). -/
def sramEcc (addr : Word) (s : State) : State :=
  if stateRunStop s then settle (enterFault 0x05 ((addr >>> 2).setWidth 8) s) else s

/-- SRAM_ECC_ERROR (R68). -/
def execSramEccError (addr : Word) (s : State) : Out := .next (sramEcc addr s)

/-! ## Time base -/

/-- What firmware and the time base do only while the controller runs; a command that ends lets the next one execute. -/
def whileLive (f : State → State) (s : State) : State := if live s then settle (f s) else s

/-- PPS_EDGE (R29, R35, R39, R41). -/
def execPpsEdge (rising : Bool) (held counts : Nat) (frac : Fin 24) (s : State) : Out :=
  .next (whileLive (fun s => if ppsActive rising held s then ppsEdge counts frac.val s else s) s)

/-- PPS_FAULT (R35). -/
def execPpsFault (s : State) : Out := .next (whileLive ppsMissing s)

/-- SOURCE_LOST (R35, R36). -/
def execSourceLost (irig : Bool) (s : State) : Out := .next (whileLive (sourceLost irig) s)

/-- IRIG_FRAME (R36, R37). -/
def execIrigFrame (f : IrigFrame) (frac : Fin 24) (s : State) : Out := .next (whileLive (irigFrame f frac.val) s)

/-- HOLDOVER_EXPIRED (R44). -/
def execHoldoverExpired (s : State) : Out := .next (whileLive holdoverExpired s)

/-- LEAP_SECOND (R46). -/
def execLeapSecond (s : State) : Out := .next (whileLive leapSecond s)

/-- TSYNC_PULSE (R51). -/
def execTsyncPulse (s : State) : Out := .next (tsyncRise s)

/-- TSYNC_PULSE_END (R51). -/
def execTsyncPulseEnd (s : State) : Out := .next (tsyncFall s)

/-- TEMPERATURE_MEASUREMENT (R401). -/
def execTemperatureMeasurement (temp : Byte) (s : State) : Out := .next (whileLive (measureTemp temp) s)

end Sys2Proof.Machine
end

