-- ==== Sys2Proof/Machine/SflRows.lean ====
section
/-! DEFINITION. The meanings of the Svaent frame, entropy source and controller-side link commands (chapters 4 and 11). -/

namespace Sys2Proof.Machine

/-! ## Svaent frames -/

/-- SFL_PRODUCER_START (R226, R228). -/
def execSflProducerStart (n : Fin 32) (s : State) : Out := .next (producerStart n s)

/-- SFL_PRODUCER_SEND (R226): the frame that phase 4 of the latest scan made due. -/
def execSflProducerSend (n : Fin 32) (s : State) : Out := .next (producerSend n.val s)

/-- A take-in outside RUN (R229); in RUN frames are taken in at each scan start. -/
def takeInStopped (s : State) : State := if live s && s.dev.dvState != .run then takeIn s else s

/-- SFL_TAKE_IN (R229). -/
def execSflTakeIn (s : State) : Out := .next (takeInStopped s)

/-- SFL_CONN_LOST (R232). -/
def execSflConnLost (n : Fin 32) (s : State) : Out := .next (connWatchdog n.val s)

/-! ## Entropy -/

/-- The entropy source acts while firmware runs; what ends with it lets the next command execute. -/
def entropyRow (f : State → State) (s : State) : State := if live s then settle (f s) else s

/-- ENTROPY_WORD_READY (R237): the raw bits up to the end of the conditioner's block. -/
def execEntropyWordReady (raw : List Bool) (s : State) : Out := .next (entropyRow (entropyBits raw) s)

/-- ENTROPY_HEALTH_FAIL (R239): the raw bits up to the one on which a health test fails. -/
def execEntropyHealthFail (raw : List Bool) (s : State) : Out := .next (entropyRow (entropyBits raw) s)

/-- ENTROPY_STARTUP_TEST_DONE (R238, R240): the raw bits the test has judged. -/
def execEntropyStartupTestDone (raw : List Bool) (s : State) : Out := .next (entropyRow (startupTestDone raw) s)

/-! ## Links, controller side -/

/-- LINK_CYCLE (R76). -/
def execLinkCycle (s : State) : Out := .next (linkCycle s)

/-- UPLINK_IDENT (R87). -/
def execUplinkIdent (l : Fin 8) (framing : Bool) (frame : Frame) (roundTripNs : Nat) (s : State) : Out :=
  .next (settle (uplinkIdent l framing frame roundTripNs s))

/-- UPLINK_DELTA (R85). -/
def execUplinkDelta (l : Fin 8) (framing : Bool) (frame : Frame) (roundTripNs : Nat) (s : State) : Out :=
  .next (settle (uplinkDelta l framing frame roundTripNs s))

/-- UPLINK_REFRESH (R120). -/
def execUplinkRefresh (l : Fin 8) (framing : Bool) (frame : Frame) (roundTripNs : Nat) (s : State) : Out :=
  .next (settle (uplinkRefresh l framing frame roundTripNs s))

/-- CROSS_SHORT_EPISODE_END (R115); sources are 1 to 8. -/
def execCrossShortEpisodeEnd (p : Fin 8) (k : Fin 8) (q : Fin 8) (j : Fin 8) (s : State) : Out :=
  .next (crossShortEnd p.val (k.val + 1) q.val (j.val + 1) s)

/-- SHORT_TO_SUPPLY (R115). -/
def execShortToSupply (p : Fin 8) (k : Fin 8) (s : State) : Out := .next (shortToSupply p.val (k.val + 1) s)

/-- LINK_LOST (R94). -/
def execLinkLost (l : Fin 8) (cause : Fin 4) (s : State) : Out := .next (settle (linkLost l.val (cause.val + 1) s))

/-- LINK_START (R86). -/
def execLinkStart (l : Fin 8) (s : State) : Out := .next (linkStart l.val s)

/-- LINK_START_FAIL (R94). -/
def execLinkStartFail (l : Fin 8) (s : State) : Out := .next (settle (linkStartFail l.val s))

end Sys2Proof.Machine
end

