-- ==== Sys2Proof/Machine/Debug.lean ====
section
/-! DEFINITION. The marionette port (chapter 18): the request's checks, unlocking, the memory map, core halt and release,
engine debug mode. -/

namespace Sys2Proof.Machine

/-! ## Requests (R367, R368) -/

/-- Status bytes of a response (R367). -/
def dbDone : Byte := 0xE1
def dbBusy : Byte := 0xD2
def dbRefused : Byte := 0xB4
def dbUndriven : Byte := 0xFF

/-- A 32-bit field as it is sent: most significant byte first (R367). -/
def probeBytes (w : Word) : List Byte := (bytes4 w).reverse

/-- The CRC-8 of a request: CMD, ADDR and, for a command that writes, DATA (R367). -/
def probeCrc (cmd : Byte) (addr : Word) (data : Option Word) : Byte :=
  crc8 (cmd :: probeBytes addr ++ (data.map probeBytes).getD [])

/-- A response: its status byte and, for a command that reads, DATA and a CRC-8 over its four bytes (R367). -/
def respond (status : Byte) (data : Option Word) (s : State) : State :=
  { s with db := { s.db with respStatus := status, respData := data, respCrc := data.map (fun w => crc8 (probeBytes w)) } }

/-- DONE. -/
def probeDone (s : State) : State := respond dbDone none s

/-- DONE with DATA. -/
def probeData (w : Word) (s : State) : State := respond dbDone (some w) s

/-- REFUSED with the reason that STATUS gives (Table 18-1): 1 CRC, 2 locked, 3 address, 4 state, 5 unknown
command. -/
def probeRefuse (reason : BitVec 4) (s : State) : State :=
  respond dbRefused none { s with db := { s.db with lastReason := reason } }

/-- Commands marked "Needs unlock" are refused while the port is locked (R368). -/
def probeLocked (s : State) : Bool := debugLocked s && !s.db.unlocked

/-- A request: a port that is disabled or has no firmware leaves the line undriven; the CRC is judged first, the lock next
(R367, R368). -/
def probe (needsUnlock : Bool) (cmd : Byte) (addr : Word) (data : Option Word) (crc : Byte) (f : State → State) (s : State) :
    State :=
  if !live s || debugDisabled s then respond dbUndriven none s
  else
    let s := { s with db := { s.db with clockUs := 0 } }
    if crc ≠ probeCrc cmd addr data then probeRefuse 1 s
    else if needsUnlock && probeLocked s then probeRefuse 2 s
    else f s

/-- The commands of Table 18-1. -/
def knownCmd (cmd : Byte) : Bool :=
  [0x01, 0x02, 0x03, 0x04, 0x05, 0x10, 0x11, 0x20, 0x21, 0x22, 0x30, 0x31, 0x32, 0x40].contains cmd.toNat

/-- A request with a command that Table 18-1 does not have: reason 5; one that it has is left to its own row. -/
def unknownRequest (cmd : Byte) (addr : Word) (crc : Byte) (s : State) : State :=
  if knownCmd cmd then s else probe false cmd addr none crc (probeRefuse 5) s

/-! ## Identification and unlocking (R327, R369) -/

/-- STATUS (Table 18-1). -/
def probeStatus (s : State) : State :=
  probeData (BitVec.ofNat 32 ((dbReg 0 s).toNat % 65536 + s.db.lastReason.toNat * 65536)) s

/-- CHAL_NEW (R327, R369): no challenge is issued within 1 s of a wrong response or after 8 failures. -/
def challengeNew (s : State) : State :=
  if challengeRefused s then probeRefuse 4 s
  else match s.ent.state, s.ent.pool with
    | .unhealthy, _ | .locked, _ =>
      probeRefuse 4 { s with ent := { s.ent with failed := inc8 s.ent.failed } }
    | _, [] => respond dbBusy none s
    | _, w :: pool => probeDone (newChallenge w { s with ent := { s.ent with pool := pool } })

/-- CHAL_READ. -/
def challengeRead (addr : Word) (s : State) : State :=
  if 1 < addr.toNat then probeRefuse 3 s
  else match s.db.challenge with
    | none => probeRefuse 4 s
    | some c => probeData ((c >>> (32 * addr.toNat)).setWidth 32) s

/-- The device serial: row 0 bits 127:64 (Table 16-1). -/
def deviceSerial (s : State) : DWord := ((s.fu.row 0).data >>> 64).setWidth 64

/-- The response to a challenge (R369). -/
def expectedResponse (c : DWord) (s : State) : List Byte := hmacSha256 (unlockKey s.fu) (bytes8 c ++ bytes8 (deviceSerial s))

/-- The eight response words as written. -/
def givenResponse (s : State) : List Byte := s.db.respWords.toList.flatMap bytes4

/-- A submission judged; either way the challenge is spent (R369). -/
def submitResponse (c : DWord) (s : State) : State :=
  let ok := givenResponse s == expectedResponse c s
  let before := s.db.failures
  let s := { s with db := { s.db with challenge := none, chalUs := 0 } }
  if ok then
    raise 236 0x1001 .warning (argOf [(0, before.toNat)]) { s with db := { s.db with unlocked := true } }
  else
    raise 236 0x1002 .warning (argOf [(0, (inc8 before).toNat)])
      { s with db := { s.db with failures := inc8 before, refuseUs := true } }

/-- RESPONSE: word 7 submits. -/
def responseWord (addr data : Word) (s : State) : State :=
  if 7 < addr.toNat then probeRefuse 3 s
  else
    let s' := { s with db := { s.db with respWords := s.db.respWords.setIfInBounds addr.toNat data } }
    if addr.toNat < 7 then probeDone s'
    else match s.db.challenge with
      | none => probeRefuse 4 s
      | some c => probeDone (submitResponse c s')

/-- The challenge's 60 s are over (R327). -/
def challengeExpiry (s : State) : State :=
  if s.db.challenge.isSome then { s with db := { s.db with challenge := none, chalUs := 0 } } else s

/-! ## Memory cells of SRAM: rising offsets -/

/-- A written byte of SRAM. -/
def Sram.get (m : List Host.Cell) (a : Nat) : Option Byte := (m.find? (fun c => c.1 == a)).map Prod.snd

/-- One byte written. -/
def Sram.put (m : List Host.Cell) (a : Nat) (b : Byte) : List Host.Cell :=
  match m with
  | [] => [(a, b)]
  | c :: r => if a < c.1 then (a, b) :: c :: r else if a = c.1 then (a, b) :: r else c :: Sram.put r a b

/-- Bytes written at rising offsets. -/
def Sram.putBytes (m : List Host.Cell) (a : Nat) (bs : List Byte) : List Host.Cell :=
  match bs with
  | [] => m
  | b :: r => Sram.putBytes (Sram.put m a b) (a + 1) r

/-! ## What each region holds (Table 18-2); a byte that the spec does not lay out is none -/

/-- The byte at an offset of a list of known bytes. -/
def knownAt (l : List Byte) (off : Nat) : Option Byte := l[off]?

/-- The bytes of a bank header (Table 12-2). -/
def Bank.header (b : Bank) : List Byte :=
  let h := bytes4 b.state.word ++ bytes4 b.imgSeq ++ leBytes 4 b.length ++ bytes4 b.bodyCrc ++ bytes2 b.format ++ bytes2 b.abi
    ++ bytes4 b.compiler ++ List.replicate 36 0
  h ++ bytes4 (crc32 h)

/-- A byte of a bank: header and body. -/
def Bank.byte (b : Bank) (off : Nat) : Option Byte :=
  if off < 64 then knownAt b.header off else some (Memory.read b.body (off - 64))

/-- CHECK over the macro byte and bytes 0 to 27 (Table 12-4). -/
def withCheck (m : Nat) (body : List Byte) : List Byte := body ++ bytes4 (crc32 (BitVec.ofNat 8 m :: body))

/-- n bytes of data in an entry; what the spec puts no byte into is free. -/
def fillTo (n : Nat) (data : List Byte) : List Byte := (data ++ List.replicate n Config.entryFill).take n

/-- The bytes of an outcome entry (Table 14-5). -/
def OutcomeEntry.bytes (m : Nat) (o : OutcomeEntry) : List Byte :=
  withCheck m (bytes4 o.csn ++ [0x03, o.status, o.ctrl, BitVec.ofNat 8 o.data.length] ++ fillTo 16 o.data ++ bytes2 o.crc
    ++ [o.opcode, 0])

/-- The bytes of an entry of the ring: ACCEPT, or PARAM with parameter bytes 20 × part − 4 to 20 × part + 15 (Table 14-5). -/
def RingEntry.bytes (m : Nat) (e : RingEntry) : List Byte :=
  let c := e.chain
  if e.part = 0 then
    withCheck m (bytes4 c.csn ++ [0x01, c.opcode, c.ctrl, BitVec.ofNat 8 c.parts] ++ leBytes 2 c.params.length ++ bytes2 c.crc
      ++ fillTo 16 c.params)
  else
    withCheck m (bytes4 c.csn ++ [0x02, BitVec.ofNat 8 e.part, 0, 0] ++ fillTo 20 (c.params.drop (20 * e.part - 4)))

/-- The bytes of a parameter record (R247): a body of 1,012 bytes, whose layout the spec does not give, and its CRC-32. -/
def ParamRec.bytes (r : ParamRec) : List Byte :=
  let h := bytes4 r.seq ++ leBytes 2 1012 ++ bytes2 Config.paramFormat ++ fillTo 1012 (Config.paramBody r.items)
  h ++ bytes4 (crc32 h)

/-- What macro m, 0 NVA and 1 NVB, holds: with a macro out of service, what it held then (R257). -/
def viewOf (m : Nat) (s : State) : MacroView := (if m = 0 then s.nv.lostA else s.nv.lostB).getD (macroNow none s)

/-- An offset lies in the write that failed its read-back. -/
def MacroView.spoiltAt (off : Nat) (v : MacroView) : Bool :=
  match v.spoilt with
  | some (a, n) => decide (a ≤ off) && decide (off < a + n)
  | none => false

/-- A byte of macro m (Table 12-1). What was never written, and what a failed write left, is not known. -/
def macroByte (m off : Nat) (s : State) : Option Byte :=
  let v := viewOf m s
  if v.spoiltAt off then none
  else if off < 0x40000 then (if m = 0 then s.nv.bankA else s.nv.bankB).byte off
  else if off < 0x44000 then
    let i := off - 0x40000
    match v.slots.find? (fun r => r.inB == (m != 0) && r.slot == i / 1024) with
    | some r => knownAt r.bytes (i % 1024)
    | none => none
  else if off < 0x44800 then
    let i := off - 0x44000
    match (v.outcomes[i / 32]?).join with
    | some o => knownAt (o.bytes m) (i % 32)
    | none => none
  else if off < 0x4C000 then
    let i := off - 0x44000
    match v.ring.find? (fun e => e.place == i / 32) with
    | some e => knownAt (e.bytes m) (i % 32)
    | none => none
  else if off < 0x50000 then knownAt (if m = 0 then s.nv.patchA else s.nv.patchB) (off - 0x4C000)
  else
    match recordInSlot ((off - 0x50000) / 32) v.records with
    | some r => knownAt (withCheck m r.body) ((off - 0x50000) % 32)
    | none => none

/-- The bytes of the AORF (Table 3-6). -/
def Aorf.bytes (a : Aorf) : List Byte := a.deviceBytes ++ bytes2 a.crc ++ a.user.toList.flatMap bytes4

/-- A byte of the fuse rows after redirection; read-locked regions read 0 (R337). -/
def fuseByte (off : Nat) (s : State) : Option Byte :=
  if readLocked s.fu (rowRegion (off / 16)) then some 0 else knownAt (rowBytes ((s.fu.row (off / 16)).data &&& rowBits (off / 16))) (off % 16)

/-- A byte of the engine's coded image; past the signals, what the probe has written there. -/
def imageByte (off : Nat) (s : State) : Option Byte :=
  match s.en.words[off / 4]? with
  | some w => knownAt (bytes4 w) (off % 4)
  | none => Sram.get s.en.beyond off

/-- A word of the engine's coded image written (R370). -/
def writeImage (off : Nat) (data : Word) (s : State) : State :=
  if off / 4 < s.en.words.length then { s with en := { s.en with words := s.en.words.set (off / 4) data } }
  else { s with en := { s.en with beyond := Sram.putBytes s.en.beyond off (bytes4 data) } }

/-- Byte i of a frame: frame bits 8i to 8i + 7. -/
def frameByte (f : Frame) (i : Nat) : Byte := (f >>> (8 * i)).setWidth 8

/-- A byte of link n's transmit buffer: the codes, BR_STATE and AUX at their places in the RUN frame (Table 4-2), the rest as last
sent. Of a SEED frame, whose seed is mapped nowhere (R370), only the header is known. -/
def txByte (off : Nat) (s : State) : Option Byte :=
  let l := getLink (off / 32) s
  let i := off % 32
  if 5 ≤ i ∧ i < 17 then knownAt (l.codes.toList.flatMap bytes2) (i - 5)
  else if i = 17 then
    some (BitVec.ofNat 8 ((l.brState[0]).toNat + 4 * (l.brState[1]).toNat + 16 * l.aux.toNat))
  else if i < 2 ∨ (i < 24 ∧ dlType l.tx ≠ 2) then some (frameByte l.tx i)
  else none

/-- A word of the debug control block (Table 18-3). -/
def controlWord (off : Nat) (s : State) : Word :=
  if off < 0x20 then s.db.bps[off / 4]?.getD 0
  else if off % 8 = 0 then s.db.wpAddr[(off - 0x20) / 8]?.getD 0
  else s.db.wpCtrl[(off - 0x20) / 8]?.getD 0

/-- The word of four bytes, a free value standing for each byte that is not known. -/
def fillWord (free : Word) (f : Nat → Option Byte) : Word :=
  wordAt ((List.range 4).map (fun i => (f i).getD (byteAt (bytes4 free) i))) 0

/-- A word of a region given by its bytes: a free value is drawn for what is not laid out. -/
def readBytesAt (f : Nat → Option Byte) (s : State) : State :=
  probeData (fillWord (Config.freeWord s.fresh) f) { s with fresh := s.fresh + 1 }

/-- A region of Table 18-2, with the offset within it. -/
inductive Region where
  | rom | sram | nva | nvb | hrf | aorf | fuse | image | links | control
deriving DecidableEq, Repr

/-- The region of a word address (Table 18-2). -/
def regionOf (a : Nat) : Option (Region × Nat) :=
  let hit (r : Region) (base size : Nat) : Option (Region × Nat) :=
    if base ≤ a ∧ a < base + size then some (r, a - base) else none
  (hit .rom 0 0x40000).or <| (hit .sram 0x20000000 0x20000).or <| (hit .nva 0x30000000 0x100000).or <|
    (hit .nvb 0x30100000 0x100000).or <| (hit .hrf 0x40000000 0x400).or <| (hit .aorf 0x40001000 64).or <|
    (hit .fuse 0x50000000 512).or <| (hit .image 0x60000000 0x4000).or <| (hit .links 0x70000000 256).or <|
    hit .control 0xE0000000 64

/-- MEM_READ (R370). -/
def memRead (addr : Word) (s : State) : State :=
  if addr.toNat % 4 ≠ 0 then probeRefuse 3 s
  else match regionOf addr.toNat with
    | none => probeRefuse 3 s
    | some (.rom, o) => probeData (Config.romWord o) s
    | some (.sram, o) => readBytesAt (fun i => Sram.get s.sram (o + i)) s
    | some (.nva, o) => readBytesAt (fun i => macroByte 0 (o + i) s) s
    | some (.nvb, o) => readBytesAt (fun i => macroByte 1 (o + i) s) s
    | some (.hrf, o) => probeData (readReg (o / 4) s).1 (readReg (o / 4) s).2
    | some (.aorf, o) => probeData (wordAt s.aorf.bytes o) s
    | some (.fuse, o) => readBytesAt (fun i => fuseByte (o + i) s) s
    | some (.image, o) => readBytesAt (fun i => imageByte (o + i) s) s
    | some (.links, o) => readBytesAt (fun i => txByte (o + i) s) s
    | some (.control, o) => probeData (controlWord o s) s

/-- A host register written as a WRITE_HRF entry with MASK all ones: out of range, nothing is done (R303, R370). -/
def probeRegWrite (i : Nat) (data : Word) (s : State) : State :=
  let r := writeRegs [{ index := i, mask := 0xFFFFFFFF, value := data }] s
  if r.1 = stOk then probeDone r.2.2 else probeRefuse 3 s

/-- A word of the debug control block written; its reserved bits keep 0 (Table 18-3). -/
def writeControl (off : Nat) (data : Word) (s : State) : State :=
  if off < 0x20 then { s with db := { s.db with bps := s.db.bps.setIfInBounds (off / 4) (data &&& 0xFFFFFFFD) } }
  else if off % 8 = 0 then { s with db := { s.db with wpAddr := s.db.wpAddr.setIfInBounds ((off - 0x20) / 8) data } }
  else { s with db := { s.db with wpCtrl := s.db.wpCtrl.setIfInBounds ((off - 0x20) / 8) (data &&& 0xF07) } }

/-- BR_STATE of a transmit buffer written (R370): bits 11:8 of the buffer's word at 0x10, in STOP. -/
def writeLinkBuffer (off : Nat) (data : Word) (s : State) : State :=
  if s.dev.dvState ≠ .stop ∨ off % 32 ≠ 0x10 then probeRefuse 3 s
  else
    probeDone (updLink (off / 32) (fun l =>
      { l with brState := #v[(data >>> 8).setWidth 2, (data >>> 10).setWidth 2] }) s)

/-- MEM_WRITE (R370). -/
def memWrite (addr data : Word) (s : State) : State :=
  if addr.toNat % 4 ≠ 0 then probeRefuse 3 s
  else match regionOf addr.toNat with
    | some (.sram, o) => probeDone { s with sram := Sram.putBytes s.sram o (bytes4 data) }
    | some (.hrf, o) => probeRegWrite (o / 4) data s
    | some (.aorf, o) =>
      if o < 32 then probeRefuse 3 s
      else probeDone { s with aorf := { s.aorf with user := s.aorf.user.setIfInBounds ((o - 32) / 4) data } }
    | some (.image, o) => probeDone (writeImage o data s)
    | some (.links, o) => writeLinkBuffer o data s
    | some (.control, o) => probeDone (writeControl o data s)
    | _ => probeRefuse 3 s

/-! ## Core halt, step and release (R69, R372, R373) -/

/-- A free half word: what STATE_CHANGE names as its cause where no opcode and no fault code caused it. -/
def freeCause (s : State) : Nat := (Config.freeWord s.fresh).toNat % 65536

/-- AUTO pending ends with the exit from RUN, and no mode output is granted before the selector has been judged afresh (R196). -/
def endPending (s : State) : State :=
  if s.en.mode.pending then { s with en := { s.en with mode := { s.en.mode with pending := false, selected := false } } } else s

/-- Leaving STOP ends the engine's debug mode (R374); a halt out of STOP leaves it too, since DEBUG_HALT is a state of its own
(DEDUCED, log entry 98). -/
def endDebug (s : State) : State :=
  if s.dev.dvState == .stop then { s with en := { s.en with debug := false, dryStep := 0 } } else s

/-- The core halts at an instruction address, in RUN with what an exit from RUN does at once: cause 1 command, 2 breakpoint, 3 watchpoint. -/
def haltCore (addr : Word) (cause : Nat) (s : State) : State :=
  let was := s.dev.dvState
  let s := endDebug (if was == .run then endPending (leaveRun s) else s)
  let why := freeCause s
  let s := { s with
    fresh := s.fresh + 1, dev := { s.dev with heldState := was }, en := { s.en with haltScan := was == .run },
    db := { s.db with coreHalted := true, haltUs := s.clock, haltCount := inc16 s.db.haltCount, haltAddr := addr } }
  let s := raise 236 0x1003 .notice (argOf [(0, addr.toNat), (4, was.code.toNat), (5, cause)]) s
  setState .debugHalt why s

/-- The core may halt: it runs, and not in BOOT or VERIFY (Table 3-7, R371). -/
def haltAllowed (s : State) : Bool := live s && !s.db.coreHalted && !inBoot s

/-- CORE_HALT: the address of the instruction it halts at is the core's own, a free value. -/
def coreHalt (s : State) : State :=
  if haltAllowed s then
    probeDone (haltCore (Config.freeWord s.fresh) 1 { s with fresh := s.fresh + 1 })
  else probeRefuse 4 s

/-- A breakpoint matches an instruction address (Table 18-3). -/
def breakMatches (pc : Word) (bp : Word) : Bool := bp.getLsbD 0 && bp >>> 2 == pc >>> 2

/-- Watchpoint j matches a data access: armed for its kind, at its word address but for the low bits ignored (Table 18-3). The bits
within the word count for nothing (DEDUCED, log entry 130). -/
def watchMatches (addr : Word) (write : Bool) (j : Nat) (s : State) : Bool :=
  let ctrl := s.db.wpCtrl[j]?.getD 0
  let n := max 2 ((ctrl >>> 8).toNat % 16)
  ctrl.getLsbD 0 && ctrl.getLsbD (if write then 2 else 1) && (s.db.wpAddr[j]?.getD 0) >>> n == addr >>> n

/-- Some armed breakpoint matches the instruction, or some armed watchpoint the data access. -/
def breakArmed (access : Option (Word × Bool)) (pc : Word) (s : State) : Bool :=
  match access with
  | some (addr, write) => (List.range 4).any (fun j => watchMatches addr write j s)
  | none => s.db.bps.toList.any (breakMatches pc)

/-- A breakpoint or watchpoint hit (R371). -/
def breakHit (access : Option (Word × Bool)) (pc : Word) (s : State) : State :=
  if haltAllowed s && !debugDisabled s && breakArmed access pc s then haltCore pc (if access.isSome then 3 else 2) s else s

/-- The core leaves a halt in RUN: FAULT with DEBUG_HALT, or with the coding failure of the scan it had released (R373,
R158, R160). -/
def releaseFault (s : State) : State :=
  if s.en.haltedRun && s.dev.faultCode == 0x01 then
    let again := s.en.haltedAgain
    let s := faultEntry (!again) 0x01 s.dev.faultDetail s
    if again then enterLockout 1 s else s
  else enterFault 0x07 0 s

/-- The state after a release (R69): FAULT after a halt in RUN, or after a coding failure found in the halt (log entry 91). -/
def releaseState (s : State) : State :=
  if s.dev.heldState == .run || (s.en.haltedRun && s.dev.faultCode == 0x01) then releaseFault s
  else setState s.dev.heldState (freeCause s) { s with fresh := s.fresh + 1 }

/-- The packet that waited out the halt is judged (R298). -/
def judgeBuffered (s : State) : State :=
  match s.cm.buffer with
  | some b => judgeRaw b { s with cm := { s.cm with buffer := none } }
  | none => s

/-- The outcome of a command that ended within the halt is committed (R372). -/
def endHeld (s : State) : State :=
  match s.cm.running with
  | some (.ended status data) => finishRunning status data s
  | _ => s

/-- CORE_RESUME. -/
def coreResume (s : State) : State :=
  if s.db.coreHalted then
    let ms := satNat 0xFFFFFFFF ((s.clock - s.db.haltUs) / 1000)
    let s := raise 236 0x1004 .notice (argOf [(0, ms)]) { s with db := { s.db with coreHalted := false } }
    settle (judgeBuffered (probeDone (releaseState (endHeld s))))
  else probeRefuse 4 s

/-- CORE_STEP: one instruction, of which the spec states no effect, and the core stands halted again. -/
def coreStep (s : State) : State :=
  if s.db.coreHalted then
    probeDone { s with fresh := s.fresh + 1, db := { s.db with haltAddr := Config.freeWord s.fresh } }
  else probeRefuse 4 s

/-! ## Engine debug mode (R374) -/

/-- ENG_HALT. -/
def engHalt (s : State) : State :=
  if s.dev.dvState = .stop then
    probeDone (raise 236 0x1005 .notice 0
      { s with en := { s.en with debug := true, dryStep := 0 }, db := { s.db with engCount := inc16 s.db.engCount } })
  else probeRefuse 4 s

/-- ENG_RESUME. -/
def engResume (s : State) : State := probeDone { s with en := { s.en with debug := false, dryStep := 0 } }

/-- The block states with which a dry scan begins. -/
def dryStates (im : Image) (s : State) : List BlockSt := enterStates im s.en.blocks

/-- The words and block states with which a dry scan begins: those of an entry into RUN, under D_0, with the inputs as taken
over. -/
def dryStart (im : Image) (s : State) : Work :=
  encodeInputs s im Config.testD0
    { words := enterWords im Config.testD0 ModeSt.new (dryStates im s), fresh := [],
      sts := dryStates im s,
      count := 0, dests := [], fail := none }

/-- The work of the present step of a dry scan. -/
def dryWork (im : Image) (s : State) : Work :=
  let w := dryStart im s
  if s.en.dryStep = 0 then w else { w with words := s.en.words, fresh := [] }

/-- One block of the dry scan under scan number 0: its words alone count. -/
def dryBlock (im : Image) (ix : Nat) (b : Block) (s : State) : Work :=
  let d := Config.testD0
  let w := dryWork im s
  let x := readInputs im d d ix b.ins w
  let y := readStates im d d ix b.states { work := x.2, st := stAt w.sts b ix, mode := ModeSt.new, us := [] }
  let m := evalModesel (modeIn s im b (x.1.map quotU) y.st.first) y.mode
  let r := evalBlock (blkCtx s im 0 m.outs false b) b (x.1.map quotU) y.st
  writeStates im d ix b x.1 y.us r.st m.st (writeOuts im d ix b x.1 y.us r.outs y.work)

/-- A rejection in a dry scan: no coding failure. -/
def dryReject (f : Nat × Nat × Nat) (s : State) : State :=
  let c := checkWord f.1 f.2.1 f.2.2 0
  raise 236 0x1006 .warning (argOf [(0, c.toNat)]) { s with en := { s.en with check := c } }

/-- The next block of the dry scan evaluated; the block after the last is the first of a new one. -/
def dryNext (im : Image) (s : State) : State :=
  match im.order[s.en.dryStep]? with
  | none => s
  | some ix =>
    match im.blocks[ix]? with
    | none => s
    | some b =>
      let w := dryBlock im ix b s
      let n := s.en.dryStep + 1
      let s := { s with en := { s.en with words := w.words, dryStep := if n < im.order.length then n else 0 } }
      match w.fail with
      | some f => dryReject f s
      | none => s

/-- ENG_STEP. -/
def engStep (s : State) : State :=
  match s.en.debug, s.en.image with
  | true, some im => probeDone (dryNext im s)
  | _, _ => probeRefuse 4 s

/-- DBG_RESET (Table 3-2): the request is answered, and the reset asserted. -/
def debugReset (s : State) : State := probeDone (assertReset .debug false .none s)

end Sys2Proof.Machine
end

