-- ==== Sys2Proof/Machine/StripRows.lean ====
section
/-! DEFINITION. The meanings of the witness strip and marionette port commands (chapters 17 and 18). -/

namespace Sys2Proof.Machine

/-! ## Witness strip -/

/-- LINE_SLOT (R351). -/
def execLineSlot (s : State) : Out := .next (lineSlot s)

/-- LINE_RENDERED (R361). -/
def execLineRendered (s : State) : Out := .next (lineRendered s)

/-- PRINTER_GATED (R360). -/
def execPrinterGated (sensors : BitVec 3) (s : State) : Out := .next (printerGated sensors s)

/-- PRINTER_READY (R360). -/
def execPrinterReady (s : State) : Out := .next (printerReady s)

/-- MOTOR_DISABLE (R352). -/
def execMotorDisable (s : State) : Out := .next (motorDisable s)

/-! ## Marionette port: requests -/

/-- IDCODE: the ROM version. -/
def execIdcode (addr : Word) (crc : Byte) (s : State) : Out :=
  .next (probe false 0x01 addr none crc (fun s => probeData s.fu.rom.version s) s)

/-- STATUS. -/
def execStatus (addr : Word) (crc : Byte) (s : State) : Out := .next (probe false 0x02 addr none crc probeStatus s)

/-- CHAL_NEW (R327). -/
def execChalNew (addr : Word) (crc : Byte) (s : State) : Out := .next (probe false 0x03 addr none crc challengeNew s)

/-- CHAL_READ. -/
def execChalRead (addr : Word) (crc : Byte) (s : State) : Out :=
  .next (probe false 0x04 addr none crc (challengeRead addr) s)

/-- RESPONSE (R369). -/
def execResponse (addr : Word) (data : Word) (crc : Byte) (s : State) : Out :=
  .next (probe false 0x05 addr (some data) crc (responseWord addr data) s)

/-- MEM_READ (R370). -/
def execMemRead (addr : Word) (crc : Byte) (s : State) : Out := .next (probe true 0x10 addr none crc (memRead addr) s)

/-- MEM_WRITE (R370). -/
def execMemWrite (addr : Word) (data : Word) (crc : Byte) (s : State) : Out :=
  .next (probe true 0x11 addr (some data) crc (memWrite addr data) s)

/-- CORE_HALT (R372). -/
def execCoreHalt (addr : Word) (crc : Byte) (s : State) : Out := .next (probe true 0x20 addr none crc coreHalt s)

/-- CORE_RESUME (R69). -/
def execCoreResume (addr : Word) (crc : Byte) (s : State) : Out := .next (probe true 0x21 addr none crc coreResume s)

/-- CORE_STEP (R372). -/
def execCoreStep (addr : Word) (crc : Byte) (s : State) : Out := .next (probe true 0x22 addr none crc coreStep s)

/-- ENG_HALT (R374). -/
def execEngHalt (addr : Word) (crc : Byte) (s : State) : Out := .next (probe true 0x30 addr none crc engHalt s)

/-- ENG_RESUME (R374). -/
def execEngResume (addr : Word) (crc : Byte) (s : State) : Out := .next (probe true 0x31 addr none crc engResume s)

/-- ENG_STEP (R374). -/
def execEngStep (addr : Word) (crc : Byte) (s : State) : Out := .next (probe true 0x32 addr none crc engStep s)

/-- DBG_RESET (R367). -/
def execDbgReset (addr : Word) (crc : Byte) (s : State) : Out := .next (probe true 0x40 addr none crc debugReset s)

/-! ## Marionette port: events -/

/-- BREAKPOINT_HIT (R371). -/
def execBreakpointHit (access : Option (Word × Bool)) (pc : Word) (s : State) : Out := .next (breakHit access pc s)

/-- The port answers the probe. -/
def portOpen (s : State) : Bool := live s && !debugDisabled s

/-- DEBUG_TRANSFER_TIMEOUT (R366): the transfer is discarded, and no clock has been seen for 10 ms. -/
def execDebugTransferTimeout (s : State) : Out :=
  .next (if portOpen s then respond dbUndriven none { s with db := { s.db with clockUs := max s.db.clockUs 10000 } } else s)

/-- The clock is seen, and a sync field awaited. -/
def protocolReset (s : State) : State :=
  if portOpen s then respond dbUndriven none { s with db := { s.db with clockUs := 0 } } else s

/-- DEBUG_PROTOCOL_RESET (R366), and a request that follows it with a command of none of the other rows (Table 18-1; log entry 50). -/
def execDebugProtocolReset (next : Option (Byte × Word × Byte)) (s : State) : Out :=
  .next (match next with
    | some (cmd, addr, crc) => unknownRequest cmd addr crc (protocolReset s)
    | none => protocolReset s)

/-- DEBUG_CHALLENGE_EXPIRY (R327). -/
def execDebugChallengeExpiry (s : State) : Out := .next (challengeExpiry s)

/-- UNLOCK_REFUSAL_END (R369). -/
def execUnlockRefusalEnd (s : State) : Out := .next { s with db := { s.db with refuseUs := false } }

end Sys2Proof.Machine
end

