-- ==== Sys2Proof/Machine/Dispatch.lean ====
section
/-! DEFINITION. Dispatch: one arm for each command of the table. -/

namespace Sys2Proof.Machine

/-- The effect of a command on everything but the queue. -/
def exec (i : Instr) (s : State) : Host.Outcome State Fault Refusal :=
  match i with
  | .powerOn tear => Sys2Proof.Machine.execPowerOn tear s
  | .brownOut tear => Sys2Proof.Machine.execBrownOut tear s
  | .pin => Sys2Proof.Machine.execPin s
  | .watchdog => Sys2Proof.Machine.execWatchdog s
  | .clockWindowTrip why tear => Sys2Proof.Machine.execClockWindowTrip why tear s
  | .clockWindowRelease => Sys2Proof.Machine.execClockWindowRelease s
  | .dormantWake byNrst => Sys2Proof.Machine.execDormantWake byNrst s
  | .boot b => Sys2Proof.Machine.execBoot b s
  | .dormantEntered => Sys2Proof.Machine.execDormantEntered s
  | .ppsEdge rising held counts frac => Sys2Proof.Machine.execPpsEdge rising held counts frac s
  | .ppsFault => Sys2Proof.Machine.execPpsFault s
  | .sourceLost irig => Sys2Proof.Machine.execSourceLost irig s
  | .irigFrame f frac => Sys2Proof.Machine.execIrigFrame f frac s
  | .holdoverExpired => Sys2Proof.Machine.execHoldoverExpired s
  | .leapSecond => Sys2Proof.Machine.execLeapSecond s
  | .tsyncPulse => Sys2Proof.Machine.execTsyncPulse s
  | .tsyncPulseEnd => Sys2Proof.Machine.execTsyncPulseEnd s
  | .ping tag params => Sys2Proof.Machine.execPing tag params s
  | .getIdentity tag params => Sys2Proof.Machine.execGetIdentity tag params s
  | .getState tag params => Sys2Proof.Machine.execGetState tag params s
  | .getVersions tag params => Sys2Proof.Machine.execGetVersions tag params s
  | .readHrf tag params => Sys2Proof.Machine.execReadHrf tag params s
  | .writeHrf tag csn params => Sys2Proof.Machine.execWriteHrf tag csn params s
  | .tbTimeLoRead tag => Sys2Proof.Machine.execTbTimeLoRead tag s
  | .enSnapDataRead tag => Sys2Proof.Machine.execEnSnapDataRead tag s
  | .enSnapHold tag csn => Sys2Proof.Machine.execEnSnapHold tag csn s
  | .enSnapRelease tag csn => Sys2Proof.Machine.execEnSnapRelease tag csn s
  | .evPendingClear tag csn n mask => Sys2Proof.Machine.execEvPendingClear tag csn n mask s
  | .stageConfigBegin tag csn params => Sys2Proof.Machine.execStageConfigBegin tag csn params s
  | .stageConfigData tag csn params => Sys2Proof.Machine.execStageConfigData tag csn params s
  | .stageConfigCommit tag csn params => Sys2Proof.Machine.execStageConfigCommit tag csn params s
  | .activateConfig tag csn params => Sys2Proof.Machine.execActivateConfig tag csn params s
  | .discardStaged tag csn params => Sys2Proof.Machine.execDiscardStaged tag csn params s
  | .configInfo tag params => Sys2Proof.Machine.execConfigInfo tag params s
  | .run tag csn params => Sys2Proof.Machine.execRun tag csn params s
  | .stop tag csn params => Sys2Proof.Machine.execStop tag csn params s
  | .setModeRequest tag csn params => Sys2Proof.Machine.execSetModeRequest tag csn params s
  | .hostSignalsWrite tag params => Sys2Proof.Machine.execHostSignalsWrite tag params s
  | .faultAck tag csn params => Sys2Proof.Machine.execFaultAck tag csn params s
  | .journalRead tag params => Sys2Proof.Machine.execJournalRead tag params s
  | .journalAck tag csn params => Sys2Proof.Machine.execJournalAck tag csn params s
  | .journalStatus tag params => Sys2Proof.Machine.execJournalStatus tag params s
  | .commandOutcome tag params => Sys2Proof.Machine.execCommandOutcome tag params s
  | .timeSet tag csn params => Sys2Proof.Machine.execTimeSet tag csn params s
  | .leapAnnounce tag csn tai offset delete => Sys2Proof.Machine.execLeapAnnounce tag csn tai offset delete s
  | .leapCancel tag csn tai offset => Sys2Proof.Machine.execLeapCancel tag csn tai offset s
  | .timeStatus tag params => Sys2Proof.Machine.execTimeStatus tag params s
  | .timeSourceSelect tag csn params => Sys2Proof.Machine.execTimeSourceSelect tag csn params s
  | .sflStatus tag params => Sys2Proof.Machine.execSflStatus tag params s
  | .sflFrameIn tag params => Sys2Proof.Machine.execSflFrameIn tag params s
  | .sflFrameOut tag params => Sys2Proof.Machine.execSflFrameOut tag params s
  | .entropyRetest tag csn params => Sys2Proof.Machine.execEntropyRetest tag csn params s
  | .portStatus tag params => Sys2Proof.Machine.execPortStatus tag params s
  | .portDiagRead tag params => Sys2Proof.Machine.execPortDiagRead tag params s
  | .outputTestNow tag csn params => Sys2Proof.Machine.execOutputTestNow tag csn params s
  | .learnPulses tag csn params => Sys2Proof.Machine.execLearnPulses tag csn params s
  | .pause tag csn => Sys2Proof.Machine.execPause tag csn s
  | .resume tag csn => Sys2Proof.Machine.execResume tag csn s
  | .feed tag csn lines => Sys2Proof.Machine.execFeed tag csn lines s
  | .testLine tag csn => Sys2Proof.Machine.execTestLine tag csn s
  | .printText tag csn params => Sys2Proof.Machine.execPrintText tag csn params s
  | .printStatus tag params => Sys2Proof.Machine.execPrintStatus tag params s
  | .fuseRead tag params => Sys2Proof.Machine.execFuseRead tag params s
  | .fuseProgram tag csn params => Sys2Proof.Machine.execFuseProgram tag csn params s
  | .patchInstallBegin tag csn total => Sys2Proof.Machine.execPatchInstallBegin tag csn total s
  | .patchInstallData tag csn offset bytes => Sys2Proof.Machine.execPatchInstallData tag csn offset bytes s
  | .patchInstallFinish tag csn total => Sys2Proof.Machine.execPatchInstallFinish tag csn total s
  | .patchStatus tag params => Sys2Proof.Machine.execPatchStatus tag params s
  | .resetDeviceWarm tag csn => Sys2Proof.Machine.execResetDeviceWarm tag csn s
  | .resetDeviceCold tag csn => Sys2Proof.Machine.execResetDeviceCold tag csn s
  | .enterDormant tag csn params wake => Sys2Proof.Machine.execEnterDormant tag csn params wake s
  | .setEventEnables tag csn params => Sys2Proof.Machine.execSetEventEnables tag csn params s
  | .getEventPending tag params => Sys2Proof.Machine.execGetEventPending tag params s
  | .debugChallenge tag params => Sys2Proof.Machine.execDebugChallenge tag params s
  | .commandGapTimeout => Sys2Proof.Machine.execCommandGapTimeout s
  | .cmdReplyRead clocked => Sys2Proof.Machine.execCmdReplyRead clocked s
  | .statRead clocked => Sys2Proof.Machine.execStatRead clocked s
  | .sflWindowWrite bytes => Sys2Proof.Machine.execSflWindowWrite bytes s
  | .sflWindowRead clocked => Sys2Proof.Machine.execSflWindowRead clocked s
  | .jrnlPointerWrite bytes => Sys2Proof.Machine.execJrnlPointerWrite bytes s
  | .jrnlWindowRead clocked => Sys2Proof.Machine.execJrnlWindowRead clocked s
  | .attentionPeriod => Sys2Proof.Machine.execAttentionPeriod s
  | .attentionWrite r => Sys2Proof.Machine.execAttentionWrite r s
  | .attentionBackoffEnd r => Sys2Proof.Machine.execAttentionBackoffEnd r s
  | .stretchTimeout => Sys2Proof.Machine.execStretchTimeout s
  | .targetTimeout => Sys2Proof.Machine.execTargetTimeout s
  | .lineHeldLow => Sys2Proof.Machine.execLineHeldLow s
  | .hostSilence => Sys2Proof.Machine.execHostSilence s
  | .journalCommit nvaFails nvbFails => Sys2Proof.Machine.execJournalCommit nvaFails nvbFails s
  | .journalGap nvaFails nvbFails => Sys2Proof.Machine.execJournalGap nvaFails nvbFails s
  | .parameterRecord fails wear => Sys2Proof.Machine.execParameterRecord fails wear s
  | .scan e => Sys2Proof.Machine.execScan e s
  | .reverificationComplete pass check us => Sys2Proof.Machine.execReverificationComplete pass check us s
  | .countedFailureWindowEnd => Sys2Proof.Machine.execCountedFailureWindowEnd s
  | .discrepancy blk => Sys2Proof.Machine.execDiscrepancy blk s
  | .lockNotReached blk => Sys2Proof.Machine.execLockNotReached blk s
  | .rundownElapsed blk => Sys2Proof.Machine.execRundownElapsed blk s
  | .doorOpenWhileLocked blk => Sys2Proof.Machine.execDoorOpenWhileLocked blk s
  | .twohandSyncFail blk => Sys2Proof.Machine.execTwohandSyncFail blk s
  | .contactAntivalence blk => Sys2Proof.Machine.execContactAntivalence blk s
  | .feedbackFault blk => Sys2Proof.Machine.execFeedbackFault blk s
  | .brakeTestEnd blk => Sys2Proof.Machine.execBrakeTestEnd blk s
  | .brakeTestDue blk => Sys2Proof.Machine.execBrakeTestDue blk s
  | .restartStuck blk => Sys2Proof.Machine.execRestartStuck blk s
  | .restartArmed blk => Sys2Proof.Machine.execRestartArmed blk s
  | .selectorFault => Sys2Proof.Machine.execSelectorFault s
  | .modeRequestPins => Sys2Proof.Machine.execModeRequestPins s
  | .modeHandoverEnd => Sys2Proof.Machine.execModeHandoverEnd s
  | .tonElapsed blk => Sys2Proof.Machine.execTonElapsed blk s
  | .tofElapsed blk => Sys2Proof.Machine.execTofElapsed blk s
  | .pulseElapsed blk => Sys2Proof.Machine.execPulseElapsed blk s
  | .outputUntested p c => Sys2Proof.Machine.execOutputUntested p c s
  | .outputRefused p c => Sys2Proof.Machine.execOutputRefused p c s
  | .sflProducerStart n => Sys2Proof.Machine.execSflProducerStart n s
  | .sflProducerSend n => Sys2Proof.Machine.execSflProducerSend n s
  | .sflTakeIn => Sys2Proof.Machine.execSflTakeIn s
  | .sflConnLost n => Sys2Proof.Machine.execSflConnLost n s
  | .entropyWordReady raw => Sys2Proof.Machine.execEntropyWordReady raw s
  | .entropyHealthFail raw => Sys2Proof.Machine.execEntropyHealthFail raw s
  | .entropyStartupTestDone raw => Sys2Proof.Machine.execEntropyStartupTestDone raw s
  | .linkCycle => Sys2Proof.Machine.execLinkCycle s
  | .uplinkIdent l framing frame roundTripNs => Sys2Proof.Machine.execUplinkIdent l framing frame roundTripNs s
  | .uplinkDelta l framing frame roundTripNs => Sys2Proof.Machine.execUplinkDelta l framing frame roundTripNs s
  | .uplinkRefresh l framing frame roundTripNs => Sys2Proof.Machine.execUplinkRefresh l framing frame roundTripNs s
  | .crossShortEpisodeEnd p k q j => Sys2Proof.Machine.execCrossShortEpisodeEnd p k q j s
  | .shortToSupply p k => Sys2Proof.Machine.execShortToSupply p k s
  | .linkLost l cause => Sys2Proof.Machine.execLinkLost l cause s
  | .linkStart l => Sys2Proof.Machine.execLinkStart l s
  | .linkStartFail l => Sys2Proof.Machine.execLinkStartFail l s
  | .portReset p up => Sys2Proof.Machine.execPortReset p up s
  | .downlinkSync p framing frame => Sys2Proof.Machine.execDownlinkSync p framing frame s
  | .downlinkStart p framing frame => Sys2Proof.Machine.execDownlinkStart p framing frame s
  | .downlinkSeed p framing frame => Sys2Proof.Machine.execDownlinkSeed p framing frame s
  | .downlinkRun p framing frame => Sys2Proof.Machine.execDownlinkRun p framing frame s
  | .codeStale p c => Sys2Proof.Machine.execCodeStale p c s
  | .parameterImageWrite p addr data => Sys2Proof.Machine.execParameterImageWrite p addr data s
  | .samplePhase p data => Sys2Proof.Machine.execSamplePhase p data s
  | .framePhaseLo p data => Sys2Proof.Machine.execFramePhaseLo p data s
  | .framePhaseHi p data => Sys2Proof.Machine.execFramePhaseHi p data s
  | .learnReq p data => Sys2Proof.Machine.execLearnReq p data s
  | .testNow p data => Sys2Proof.Machine.execTestNow p data s
  | .portLinkLoss p => Sys2Proof.Machine.execPortLinkLoss p s
  | .portLogicReset p => Sys2Proof.Machine.execPortLogicReset p s
  | .yoyoHoldDecay p c sw => Sys2Proof.Machine.execYoyoHoldDecay p c sw s
  | .ctTimeout p => Sys2Proof.Machine.execCtTimeout p s
  | .inputEdge p n samples cyc sample => Sys2Proof.Machine.execInputEdge p n samples cyc sample s
  | .inputSettled p n samples cyc sample => Sys2Proof.Machine.execInputSettled p n samples cyc sample s
  | .pulseFrameStart p fullVoltage => Sys2Proof.Machine.execPulseFrameStart p fullVoltage s
  | .darkPulseStart p k high => Sys2Proof.Machine.execDarkPulseStart p k high s
  | .darkPulseEnd p k d => Sys2Proof.Machine.execDarkPulseEnd p k d s
  | .blankingWindowEnd p n => Sys2Proof.Machine.execBlankingWindowEnd p n s
  | .crossShortSeen p k => Sys2Proof.Machine.execCrossShortSeen p k s
  | .sourceShort p k => Sys2Proof.Machine.execSourceShort p k s
  | .decayLearned p n => Sys2Proof.Machine.execDecayLearned p n s
  | .offTest p c t => Sys2Proof.Machine.execOffTest p c t s
  | .onTest p c t => Sys2Proof.Machine.execOnTest p c t s
  | .switchOffTest p c t => Sys2Proof.Machine.execSwitchOffTest p c t s
  | .switchOffTestTimeout p c => Sys2Proof.Machine.execSwitchOffTestTimeout p c s
  | .brakePullinEnd p b milliamps => Sys2Proof.Machine.execBrakePullinEnd p b milliamps s
  | .clampEnd p b milliamps => Sys2Proof.Machine.execClampEnd p b milliamps s
  | .switchNodeMiss p b => Sys2Proof.Machine.execSwitchNodeMiss p b s
  | .bridgeConflict p b => Sys2Proof.Machine.execBridgeConflict p b s
  | .outputOvercurrent p c sustained peak => Sys2Proof.Machine.execOutputOvercurrent p c sustained peak s
  | .auxFault p mask => Sys2Proof.Machine.execAuxFault p mask s
  | .auxRetry p => Sys2Proof.Machine.execAuxRetry p s
  | .portOverload p loadI => Sys2Proof.Machine.execPortOverload p loadI s
  | .portOverloadOpen p loadI => Sys2Proof.Machine.execPortOverloadOpen p loadI s
  | .switchThermalLimit p c => Sys2Proof.Machine.execSwitchThermalLimit p c s
  | .portHot p temp => Sys2Proof.Machine.execPortHot p temp s
  | .thermalShutdown p temp => Sys2Proof.Machine.execThermalShutdown p temp s
  | .supplyState p uf2 quarterVolts => Sys2Proof.Machine.execSupplyState p uf2 quarterVolts s
  | .temperatureMeasurement temp => Sys2Proof.Machine.execTemperatureMeasurement temp s
  | .lineSlot => Sys2Proof.Machine.execLineSlot s
  | .lineRendered => Sys2Proof.Machine.execLineRendered s
  | .printerGated sensors => Sys2Proof.Machine.execPrinterGated sensors s
  | .printerReady => Sys2Proof.Machine.execPrinterReady s
  | .motorDisable => Sys2Proof.Machine.execMotorDisable s
  | .idcode addr crc => Sys2Proof.Machine.execIdcode addr crc s
  | .status addr crc => Sys2Proof.Machine.execStatus addr crc s
  | .chalNew addr crc => Sys2Proof.Machine.execChalNew addr crc s
  | .chalRead addr crc => Sys2Proof.Machine.execChalRead addr crc s
  | .response addr data crc => Sys2Proof.Machine.execResponse addr data crc s
  | .memRead addr crc => Sys2Proof.Machine.execMemRead addr crc s
  | .memWrite addr data crc => Sys2Proof.Machine.execMemWrite addr data crc s
  | .coreHalt addr crc => Sys2Proof.Machine.execCoreHalt addr crc s
  | .coreResume addr crc => Sys2Proof.Machine.execCoreResume addr crc s
  | .coreStep addr crc => Sys2Proof.Machine.execCoreStep addr crc s
  | .engHalt addr crc => Sys2Proof.Machine.execEngHalt addr crc s
  | .engResume addr crc => Sys2Proof.Machine.execEngResume addr crc s
  | .engStep addr crc => Sys2Proof.Machine.execEngStep addr crc s
  | .dbgReset addr crc => Sys2Proof.Machine.execDbgReset addr crc s
  | .breakpointHit access pc => Sys2Proof.Machine.execBreakpointHit access pc s
  | .debugTransferTimeout => Sys2Proof.Machine.execDebugTransferTimeout s
  | .debugProtocolReset next => Sys2Proof.Machine.execDebugProtocolReset next s
  | .debugChallengeExpiry => Sys2Proof.Machine.execDebugChallengeExpiry s
  | .unlockRefusalEnd => Sys2Proof.Machine.execUnlockRefusalEnd s
  | .sramEccError addr => Sys2Proof.Machine.execSramEccError addr s
  | .cmdPacketRefused bytes => Sys2Proof.Machine.execCmdPacketRefused bytes s
  | .faultNBlink => Sys2Proof.Machine.execFaultNBlink s

end Sys2Proof.Machine
end

