-- ==== Sys2Proof/Safety.lean ====
section
/-! DEFINITION. The terms in which claims about the block are stated: when a command is heard, what its answer and its outcome
are, what an event and a command leave unchanged, and what every step keeps. -/

namespace Sys2Proof.Machine

/-- The command completes: exec answers a next state that has the property. -/
def Runs (i : Instr) (s : State) (P : State → Prop) : Prop := ∃ t, exec i s = .next t ∧ P t

/-! ## Commands of the host -/

/-- The host can give a command with this tag now: the bus is served in a state of ALL, the core runs, the tag is free
(R60, R282, R284, R298). -/
def Accepts (tag : BitVec 3) (s : State) : Prop :=
  busServes s = true ∧ stateAll s = true ∧ s.db.coreHalted = false ∧ s.cm.inFlight.getLsbD tag.toNat = false

/-- The store takes what is written to it: a macro is in service, and no word fails its read-back (R243, R250). -/
def StoreTakes (s : State) : Prop := s.nv.worn = [] ∧ nvBothOut s = false

/-- The command with this CSN executes at once: no accepted command waits or runs, it is the next one, and the store takes its
outcome (R285, R288). -/
def InOrder (csn : Word) (s : State) : Prop :=
  s.nv.chains = [] ∧ s.cm.running = none ∧ csn = seqNext s.nv.lastE ∧ StoreTakes s

/-- The state in which a packet is judged: the bus touched, its tag taken (R276, R282). -/
def heard (p : Packet) (s : State) : State := takeTag p (touchBus s)

/-- The newest reply is the final one of packet p (R281, R282). -/
def Answered (p : Packet) (status : Byte) (data : List Byte) (t : State) : Prop :=
  t.cm.replies.getLast? = some (finalReply p status 0 data)

/-- The outcome entry of packet p (Table 14-5). -/
def outcomeEntry (p : Packet) (status : Byte) (data : List Byte) : OutcomeEntry :=
  { csn := p.csn, skip := false, status := status, ctrl := p.ctrl, data := data, crc := p.crc, opcode := p.opcode }

/-- The outcome of packet p is committed, no command waits, and none runs (R288, R290). -/
def Concluded (p : Packet) (status : Byte) (data : List Byte) (t : State) : Prop :=
  t.nv.lastE = p.csn ∧ t.nv.chains = [] ∧ t.cm.running = none ∧ outcomeOf p.csn t = some (outcomeEntry p status data)

/-- The outcome is committed and the final reply queued. -/
def Done (p : Packet) (status : Byte) (data : List Byte) (t : State) : Prop :=
  Concluded p status data t ∧ Answered p status data t

/-- The command is accepted and runs on: ACCEPTED is queued and its chain waits (R287, R288). -/
def Started (p : Packet) (r : Running) (t : State) : Prop :=
  t.cm.running = some r ∧ t.cm.replies.getLast? = some (acceptedReply p) ∧ headChain t =
    some p.chain

/-- What a sequenced command sends: its tag, its CSN, its opcode and its parameters (Table 15-1). -/
def sentSequenced (i : Instr) : Option (BitVec 3 × Word × Byte × List Byte) :=
  match i with
  | .writeHrf tag csn p => some (tag, csn, 0x06, p)
  | .stageConfigBegin tag csn p => some (tag, csn, 0x10, p)
  | .stageConfigData tag csn p => some (tag, csn, 0x11, p)
  | .stageConfigCommit tag csn p => some (tag, csn, 0x12, p)
  | .activateConfig tag csn p => some (tag, csn, 0x13, p)
  | .discardStaged tag csn p => some (tag, csn, 0x14, p)
  | .run tag csn p => some (tag, csn, 0x20, p)
  | .stop tag csn p => some (tag, csn, 0x21, p)
  | .setModeRequest tag csn p => some (tag, csn, 0x22, p)
  | .faultAck tag csn p => some (tag, csn, 0x24, p)
  | .journalAck tag csn p => some (tag, csn, 0x31, p)
  | .timeSet tag csn p => some (tag, csn, 0x40, p)
  | .timeSourceSelect tag csn p => some (tag, csn, 0x42, p)
  | .entropyRetest tag csn p => some (tag, csn, 0x58, p)
  | .outputTestNow tag csn p => some (tag, csn, 0x62, p)
  | .learnPulses tag csn p => some (tag, csn, 0x63, p)
  | .printText tag csn p => some (tag, csn, 0x71, p)
  | .fuseProgram tag csn p => some (tag, csn, 0x81, p)
  | .setEventEnables tag csn p => some (tag, csn, 0x92, p)
  | .enSnapHold tag csn => some (tag, csn, 0x06, hrfEntry 0x66 1 1)
  | .enSnapRelease tag csn => some (tag, csn, 0x06, hrfEntry 0x66 1 0)
  | .evPendingClear tag csn n m => some (tag, csn, 0x06, hrfEntry (0x98 + n.val) m m)
  | .leapAnnounce tag csn tai offset delete => some (tag, csn, 0x40, timeSetParams tai offset (if delete then 6 else 2))
  | .leapCancel tag csn tai offset => some (tag, csn, 0x40, timeSetParams tai offset 8)
  | .pause tag csn => some (tag, csn, 0x70, [1, 0, 0, 0])
  | .resume tag csn => some (tag, csn, 0x70, [2, 0, 0, 0])
  | .feed tag csn lines => some (tag, csn, 0x70, [3, lines, 0, 0])
  | .testLine tag csn => some (tag, csn, 0x70, [4, 0, 0, 0])
  | .patchInstallBegin tag csn total => some (tag, csn, 0x82, [0, 0, 0, 0] ++ bytes4 total)
  | .patchInstallData tag csn offset bytes => some (tag, csn, 0x82, [1, 0, 0, 0] ++ bytes4 offset ++ bytes)
  | .patchInstallFinish tag csn total => some (tag, csn, 0x82, [2, 0, 0, 0] ++ bytes4 total)
  | .resetDeviceWarm tag csn => some (tag, csn, 0x90, [0, 0, 0, 0])
  | .resetDeviceCold tag csn => some (tag, csn, 0x90, [1, 0, 0, 0])
  | .enterDormant tag csn p _ => some (tag, csn, 0x91, p)
  | _ => none

/-! ## Events -/

/-- The journal takes an event now: no gap, a free queue entry, a slot that may be overwritten (R249, R253 to R255). -/
def JournalOpen (s : State) : Prop := s.nv.live.gap.active = false ∧ queueFull s = false ∧ noSlot s = false

/-- An event as it is put in the queue in state s (R249, R329). -/
def eventOf (src : Nat) (code : Half) (c : Cls) (arg : DWord) (s : State) : QEvent :=
  { time := s.tb.counter, quality := s.tb.statusByte, cls := BitVec.ofNat 8 c.code, source := BitVec.ofNat 16 src,
    code := code, arg := arg, enabled := evEnabled s src }

/-- From s to t the writer's queue has gained these events, in this order. -/
def Gained (evs : List QEvent) (s t : State) : Prop := t.jr.queue = s.jr.queue ++ evs

/-- From s to t the writer's queue has gained these events first, in this order, and perhaps others after them. -/
def GainedFirst (evs : List QEvent) (s t : State) : Prop := s.jr.queue ++ evs <+: t.jr.queue

/-! ## Resets -/

/-- A loss of power or clock cuts a command of an arriving packet off in its work (R340, R341). -/
def cutsCommand : Tear → Bool
  | .command .. => true
  | _ => false

/-! ## What is left unchanged -/

/-- What raising an event, touching the bus and replying change: the journal writer, the bus, the command layer, the store. -/
def HostFrame (s t : State) : Prop := t = { s with cm := t.cm, hb := t.hb, jr := t.jr, nv := t.nv }

/-- Without a word that fails its read-back no macro goes out of service (R250). -/
def MacrosStay (s t : State) : Prop :=
  s.nv.worn = [] → t.nv.worn = [] ∧ t.nv.lostA = s.nv.lostA ∧ t.nv.lostB = s.nv.lostB ∧ t.nv.live.degraded = s.nv.live.degraded
    ∧ t.nv.live.nvaOut = s.nv.live.nvaOut ∧ t.nv.live.nvbOut = s.nv.live.nvbOut

/-- What an event changes of the store: the gap and the head checkpoint, the committed records and what the strip can no longer reach
of them, a parameter record, and the words that fail read-backs while they are written, with a macro that these take out. -/
def EventStore (s t : State) : Prop :=
  t.nv = { s.nv with
    live := { s.nv.live with
      gap := t.nv.live.gap, headCheck := t.nv.live.headCheck, degraded := t.nv.live.degraded, nvaOut := t.nv.live.nvaOut,
      nvbOut := t.nv.live.nvbOut },
    due := t.nv.due, records := t.nv.records, head := t.nv.head, stored := t.nv.stored, paramSeq := t.nv.paramSeq,
    slots := t.nv.slots, unreached := t.nv.unreached, worn := t.nv.worn, lostA := t.nv.lostA, lostB := t.nv.lostB }
  ∧ MacrosStay s t

/-- What an event changes of the whole block. -/
def EventFrame (s t : State) : Prop := t = { s with hb := t.hb, jr := t.jr, nv := t.nv } ∧ EventStore s t

/-- What a command's chain and outcome change of the store beside that: the command journal (R287, R290). -/
def CommandStore (s t : State) : Prop :=
  t.nv = { s.nv with
    live := { s.nv.live with
      gap := t.nv.live.gap, headCheck := t.nv.live.headCheck, degraded := t.nv.live.degraded, nvaOut := t.nv.live.nvaOut,
      nvbOut := t.nv.live.nvbOut },
    due := t.nv.due, records := t.nv.records, head := t.nv.head, stored := t.nv.stored, paramSeq := t.nv.paramSeq,
    slots := t.nv.slots, unreached := t.nv.unreached, worn := t.nv.worn, lostA := t.nv.lostA, lostB := t.nv.lostB, outcomes := t.nv.outcomes, chains := t.nv.chains,
    lastE := t.nv.lastE, ring := t.nv.ring, ringPos := t.nv.ringPos }
  ∧ MacrosStay s t

/-- Only port p and the counter of free values change. -/
def PortFrame (p : Fin 8) (s t : State) : Prop :=
  t = { s with ports := t.ports, fresh := t.fresh } ∧ ∀ q : Fin 8, q ≠ p → t.ports[q.val] = s.ports[q.val]

/-- Only the marionette port's own registers change. -/
def DebugFrame (s t : State) : Prop := t = { s with db := t.db }

/-- The rows that happen on the port side of a link (chapters 4 to 6); every other row is the controller's, the host's or the
probe's. -/
def portRow (i : Instr) : Bool :=
  match i with
  | .portReset .. | .downlinkSync .. | .downlinkStart .. | .downlinkSeed .. | .downlinkRun .. | .codeStale ..
  | .parameterImageWrite .. | .samplePhase .. | .framePhaseLo .. | .framePhaseHi .. | .learnReq .. | .testNow ..
  | .portLinkLoss .. | .portLogicReset .. | .yoyoHoldDecay .. | .ctTimeout .. | .inputEdge .. | .inputSettled ..
  | .pulseFrameStart .. | .darkPulseStart .. | .darkPulseEnd .. | .blankingWindowEnd .. | .crossShortSeen ..
  | .sourceShort .. | .decayLearned .. | .offTest .. | .onTest .. | .switchOffTest .. | .switchOffTestTimeout ..
  | .brakePullinEnd .. | .clampEnd .. | .switchNodeMiss .. | .bridgeConflict .. | .outputOvercurrent .. | .auxFault ..
  | .auxRetry .. | .portOverload .. | .portOverloadOpen .. | .switchThermalLimit .. | .portHot .. | .thermalShutdown ..
  | .supplyState .. => true
  | _ => false

/-! ## What every step keeps -/

/-- The queues are within their sizes: 64 events, 64 SFL frames each way, 16 words (R235, R237, R249). -/
def QueuesFit (s : State) : Prop :=
  s.jr.queue.length ≤ 64 ∧ s.sf.outq.length ≤ 64 ∧ s.sf.inq.length ≤ 64 ∧ s.ent.pool.length ≤ 16

/-- The invariant: the AORF carries its own check (R67), both banks are in the canonical form, the queues fit. -/
def Inv (s : State) : Prop :=
  s.aorf.crc = crc16 s.aorf.deviceBytes ∧ Memory.wf s.nv.bankA.body = true ∧ Memory.wf s.nv.bankB.body = true ∧ QueuesFit s

/-- SAFE_OK is high while DV_STATE is RUN, and low in every other state (R377). -/
def PinsTell (s : State) : Prop := s.dev.safeOk = decide (s.dev.dvState = .run)

/-- No element has fired more than 32 times in the latest 64 line slots (R354). -/
def DutyFits (w : Printer) : Prop :=
  w.fired.length ≤ 64 ∧ ∀ i : Nat, w.fired.countP (fun l => l[i]?.getD false) ≤ 32

end Sys2Proof.Machine
end

