-- ==== Sys2Proof/WellFormed.lean ====
section
/-! DEFINITION. Well-formed commands: the operands the outside world can give. What is ruled out here is no packet, no frame
and no measurement of the hardware; a meaning of an ill-formed command is defined all the same. -/

namespace Sys2Proof

/-- The parameters of an unsequenced packet: at most 512 bytes (R280). -/
def plainLenOk (params : List Byte) : Bool := decide (params.length ≤ 512)

/-- The parameters of a sequenced packet: at most 508 bytes beside the CSN (R280). -/
def seqLenOk (params : List Byte) : Bool := decide (params.length ≤ 508)

/-- A block index: 10 bits in EN_CHECK (Table 7-4). -/
def blockIxOk (blk : Nat) : Bool := decide (blk < 1024)

/-- The fields of an IRIG-B frame, each in the range of its digits (R36, R37). -/
def IrigFrame.inRange (f : IrigFrame) : Bool :=
  decide (f.second ≤ 60) && decide (f.minute ≤ 59) && decide (f.hour ≤ 23) && decide (1 ≤ f.day) && decide (f.day ≤ 366)
    && decide (f.bcdYear ≤ 99) && decide (f.sbs ≤ 86400) && decide ((f.cfYear.getD 0) ≤ 99)
    && decide (f.offsetHalfHours.natAbs ≤ 31)

/-- The packet of a torn ACCEPT chain, or of a command cut off, is one that was acknowledged whole (R264); a chain is cut off within
its at most 26 entries, and at most seven commands end before the one cut off (R285). -/
def Tear.inRange (t : Tear) : Bool :=
  match t with
  | .accept raw whole _ => decide (raw.length ≤ 518) && decide (whole ≤ 26)
  | .command raw ended _ => decide (raw.length ≤ 518) && decide (ended ≤ 7)
  | _ => true

/-- Readings of one input, a microsecond each: at least one. -/
def samplesOk (l : List InputRead) : Bool := !l.isEmpty

/-- A command with operands that the outside world can give. -/
def Instr.wellFormed (i : Instr) : Bool :=
  match i with
  | .clockWindowTrip why t => why != 0 && t.inRange
  | .boot b => decide (b.idents.length ≤ 8) && decide (b.entropyRaw.length = 1024) && decide (b.retestRaw.length = 1024)
  | .irigFrame f _ => f.inRange
  | .ping _ p | .getIdentity _ p | .getState _ p | .getVersions _ p | .readHrf _ p | .configInfo _ p
  | .hostSignalsWrite _ p | .journalRead _ p | .journalStatus _ p | .commandOutcome _ p | .timeStatus _ p
  | .sflStatus _ p | .sflFrameIn _ p | .sflFrameOut _ p | .portStatus _ p | .portDiagRead _ p | .printStatus _ p
  | .fuseRead _ p | .patchStatus _ p | .getEventPending _ p | .debugChallenge _ p => plainLenOk p
  | .writeHrf _ _ p | .stageConfigBegin _ _ p | .stageConfigData _ _ p | .stageConfigCommit _ _ p
  | .activateConfig _ _ p | .discardStaged _ _ p | .run _ _ p | .stop _ _ p | .setModeRequest _ _ p
  | .faultAck _ _ p | .journalAck _ _ p | .timeSet _ _ p | .timeSourceSelect _ _ p | .entropyRetest _ _ p
  | .outputTestNow _ _ p | .learnPulses _ _ p | .printText _ _ p | .fuseProgram _ _ p | .setEventEnables _ _ p
  | .enterDormant _ _ p _ => seqLenOk p
  | .patchInstallData _ _ _ b => decide (1 ≤ b.length) && decide (b.length ≤ 500)
  | .powerOn t | .brownOut t => t.inRange
  | .scan e => (e.misorder.getD []).all blockIxOk && e.flips.all (fun x => decide (x.1 < 4096))
  | .discrepancy b | .lockNotReached b | .rundownElapsed b | .doorOpenWhileLocked b | .twohandSyncFail b
  | .contactAntivalence b | .feedbackFault b | .brakeTestEnd b | .brakeTestDue b | .restartStuck b | .restartArmed b
  | .tonElapsed b | .tofElapsed b | .pulseElapsed b => blockIxOk b
  | .entropyWordReady raw | .entropyHealthFail raw => decide (1 ≤ raw.length) && decide (raw.length ≤ 512)
  | .entropyStartupTestDone raw => decide (raw.length = 1024)
  | .inputEdge _ _ l _ _ | .inputSettled _ _ l _ _ => samplesOk l
  | .darkPulseStart _ _ inputs => inputs.length == 16
  | .darkPulseEnd _ _ ticks => !ticks.isEmpty && ticks.all (fun t => t.inputs.length == 16)
  | .printerGated sensors => sensors != 0
  | .pin | .watchdog | .clockWindowRelease | .dormantWake _ | .dormantEntered | .ppsEdge _ _ _ _
  | .ppsFault | .sourceLost _ | .holdoverExpired | .leapSecond | .tsyncPulse | .tsyncPulseEnd | .tbTimeLoRead _
  | .enSnapDataRead _ | .enSnapHold _ _ | .enSnapRelease _ _ | .evPendingClear _ _ _ _ | .leapAnnounce _ _ _ _ _
  | .leapCancel _ _ _ _ | .pause _ _ | .resume _ _ | .feed _ _ _ | .testLine _ _ | .patchInstallBegin _ _ _
  | .patchInstallFinish _ _ _ | .resetDeviceWarm _ _ | .resetDeviceCold _ _ | .commandGapTimeout | .cmdReplyRead _
  | .statRead _ | .sflWindowWrite _ | .sflWindowRead _ | .jrnlPointerWrite _ | .jrnlWindowRead _ | .attentionPeriod
  | .attentionWrite _ | .attentionBackoffEnd _ | .stretchTimeout | .targetTimeout | .lineHeldLow | .hostSilence
  | .journalCommit _ _ | .journalGap _ _ | .parameterRecord _ _ | .reverificationComplete _ _ _ | .countedFailureWindowEnd
  | .selectorFault | .modeRequestPins | .modeHandoverEnd | .outputUntested _ _ | .outputRefused _ _
  | .sflProducerStart _ | .sflProducerSend _ | .sflTakeIn | .sflConnLost _ | .linkLost _ _ | .linkCycle
  | .uplinkIdent _ _ _ _ | .uplinkDelta _ _ _ _ | .uplinkRefresh _ _ _ _
  | .crossShortEpisodeEnd _ _ _ _ | .shortToSupply _ _ | .linkStart _ | .linkStartFail _ | .portReset _ _
  | .downlinkSync _ _ _ | .downlinkStart _ _ _ | .downlinkSeed _ _ _ | .downlinkRun _ _ _ | .codeStale _ _
  | .parameterImageWrite _ _ _ | .samplePhase _ _ | .framePhaseLo _ _ | .framePhaseHi _ _ | .learnReq _ _ | .testNow _ _
  | .portLinkLoss _ | .portLogicReset _ | .yoyoHoldDecay _ _ _ | .ctTimeout _ | .pulseFrameStart _ _ | .blankingWindowEnd _ _
  | .crossShortSeen _ _ | .sourceShort _ _ | .decayLearned _ _ | .offTest _ _ _ | .onTest _ _ _
  | .switchOffTest _ _ _ | .switchOffTestTimeout _ _ | .brakePullinEnd _ _ _ | .clampEnd _ _ _ | .switchNodeMiss _ _
  | .bridgeConflict _ _ | .outputOvercurrent _ _ _ _ | .auxFault _ _ | .auxRetry _ | .portOverload _ _
  | .portOverloadOpen _ _ | .switchThermalLimit _ _ | .portHot _ _ | .thermalShutdown _ _ | .supplyState _ _ _ | .lineSlot
  | .lineRendered | .printerReady | .motorDisable | .idcode _ _ | .status _ _ | .chalNew _ _ | .chalRead _ _
  | .response _ _ _ | .memRead _ _ | .memWrite _ _ _ | .coreHalt _ _ | .coreResume _ _ | .coreStep _ _ | .engHalt _ _
  | .engResume _ _ | .engStep _ _ | .dbgReset _ _ | .breakpointHit _ _ | .debugTransferTimeout | .debugProtocolReset _
  | .debugChallengeExpiry | .unlockRefusalEnd | .sramEccError _ | .faultNBlink
  | .temperatureMeasurement _ | .cmdPacketRefused _ => true

end Sys2Proof
end

