-- ==== Sys2Proof/Certificates/Slice0/Obligations.lean ====
section
/-! DEFINITION. The statements about the block, each a rule of the spec or what several rules come to. -/

open Sys2Proof Sys2Proof.Machine

/-! ## The step, reset and the invariant -/

/-- A step runs the command at the front of the queue with the queue's rest. -/
def Obligations.StepRunsFront : Prop := ∀ (c : Instr) (s : State), step { s with pending := c :: s.pending } = exec c s

/-- On an empty queue the block idles: one µs of the crystal passes while firmware runs (the model's choice, log entry 1), and
moves the time counter by what the fractional accumulator and the rate word make of it (R32; an accumulator in 10⁻⁹ of a µs is
the model's choice, log entry 99), by 1 where no trim acts; the counter and a running HOLDOVER alone move through a reset that keeps them (R34, R51), and nothing moves in every other phase. -/
def Obligations.IdleTick : Prop :=
  ∀ s : State, s.pending = [] →
    let counts (t : State) : Prop := t.tb.counter = s.tb.counter + BitVec.ofNat 64 (s.tb.accAfter 1 / 1000000000)
      ∧ t.tb.acc = s.tb.accAfter 1 % 1000000000 ∧ (s.tb.rate = 0 → s.tb.acc < 1000000000 → t.tb.counter = s.tb.counter + 1)
    (live s = true → ∃ t, step s = .next t ∧ t.pending = [] ∧ t.clock = s.clock + 1 ∧ counts t
      ∧ t.dev.uptimeUs = s.dev.uptimeUs + 1 ∧ t.dev.dvState = s.dev.dvState ∧ t.aorf = s.aorf ∧ t.jr = s.jr ∧ t.en = s.en
      ∧ t.sf = s.sf ∧ t.ent = s.ent ∧ t.links = s.links ∧ t.ports = s.ports ∧ t.wp = s.wp ∧ t.fu = s.fu
      ∧ t.nv.bankA = s.nv.bankA ∧ t.nv.bankB = s.nv.bankB ∧ t.nv.records = s.nv.records ∧ t.sram = s.sram)
    ∧ (live s = false → counterRuns s = true → ∃ t, step s = .next t ∧ t = { s with tb := t.tb } ∧ counts t
      ∧ t.tb.quality = s.tb.quality ∧ t.tb.rate = s.tb.rate
      ∧ (s.tb.quality = .holdover → t.tb.holdoverUs = s.tb.holdoverUs + 1 ∧ t.tb.lockSecs = s.tb.lockSecs))
    ∧ (live s = false → counterRuns s = false → step s = .next s)

/-- Right after a POWER_ON reset: its cause alone is seen, settings are the compiler's defaults, station time is lost, FAULT_N
and SAFE_OK are low, the print head's clock and data are low and its latch is high, SCL and SDA are let go (Table 19-2), every
link is held, and no command waits. -/
def Obligations.ResetState : Prop :=
  let s := State.reset
  s.dev.phase = .inReset ∧ s.dev.cause = 1 ∧ s.dev.causesSeen = 1 ∧ s.dev.faultN = false ∧ s.dev.safeOk = false
    ∧ s.tb.quality = .unsync ∧ s.tb.counter = 0 ∧ s.set = Settings.compiler ∧ s.aorf.user = Vector.replicate 8 0
    ∧ s.dev.pins.phCk = false ∧ s.dev.pins.phDi = false ∧ s.dev.pins.phLatN = true ∧ s.dev.pins.busFree = true
    ∧ s.ent.state = .startup ∧ s.cm.replies = [] ∧ s.jr.queue = [] ∧ s.pending = []
    ∧ ∀ l : Fin 8, s.links[l.val].held = true ∧ s.links[l.val].phase = 0

/-- The invariant holds right after reset. -/
def Obligations.ResetInv : Prop := Inv State.reset

/-- Every step keeps the invariant: the AORF carries its own check, the bodies of both banks stay in the canonical form, and
the queues of events, SFL frames and entropy words stay within their sizes. -/
def Obligations.StepKeepsInv : Prop := ∀ s t : State, Inv s → step s = .next t → Inv t

/-- SAFE_OK is high while DV_STATE is RUN and low in every other state, and a clock-window trip lowers it at once (R377). -/
def Obligations.SafeOkInRun : Prop :=
  (∀ s t : State, PinsTell s → step s = .next t → PinsTell t) ∧ PinsTell State.reset
    ∧ ∀ (s : State) (why : BitVec 3) (tear : Tear), live s = true →
      Runs (.clockWindowTrip why tear) s (fun t => t.dev.safeOk = false)

/-! ## Resets, boot and DORMANT -/

/-- A reset that comes while the device runs or sleeps, and cuts no arriving packet's command short, is recorded alone, with what
its kind does to the time counter, the LOCKOUT latch and the AORF; a cause that comes while a reset is asserted joins it: the
recorded cause is the higher ranked one, and CAUSES_SEEN gains its bit (Tables 3-2, 3-5, R57, R58, R64, R72). -/
def Obligations.ResetAsserted : Prop :=
  (∀ (s : State) (tear : Tear) (why : BitVec 3) (byNrst : Bool),
      (s.dev.phase = .running → cutsCommand tear = false →
        Runs (.powerOn tear) s (fun t => t.dev.phase = .inReset ∧ t.dev.cause = 1 ∧ t.dev.causesSeen = 0x001
          ∧ t.dev.faultN = false ∧ t.dev.safeOk = false ∧ t.tb.counter = 0 ∧ t.tb.quality = .unsync
          ∧ t.aorf = Aorf.seal Aorf.new)
        ∧ Runs (.brownOut tear) s (fun t => t.dev.phase = .inReset ∧ t.dev.cause = 2 ∧ t.dev.causesSeen = 0x002
          ∧ t.tb.counter = 0 ∧ t.tb.quality = .unsync ∧ t.aorf = Aorf.seal Aorf.new)
        ∧ Runs .pin s (fun t => t.dev.phase = .inReset ∧ t.dev.cause = 3 ∧ t.dev.causesSeen = 0x004
          ∧ t.tb.counter = s.tb.counter ∧ t.aorf.lockout = false ∧ t.aorf.user = s.aorf.user
          ∧ t.aorf.resetCount = inc8 s.aorf.resetCount ∧ t.aorf.lastState = s.dev.dvState.code)
        ∧ (s.db.coreHalted = false → Runs .watchdog s (fun t => t.dev.phase = .inReset ∧ t.dev.cause = 4
          ∧ t.dev.causesSeen = 0x008 ∧ t.tb.counter = s.tb.counter ∧ t.aorf.lockout = s.aorf.lockout
          ∧ t.aorf.resetCount = inc8 s.aorf.resetCount))
        ∧ Runs (.clockWindowTrip why tear) s (fun t => t.dev.phase = .clockHeld ∧ t.dev.cause = 5 ∧ t.dev.causesSeen = 0x010
          ∧ t.dev.clockWhy = why ∧ t.dev.safeOk = false ∧ t.tb.counter = 0
          ∧ t.aorf.lockout = s.aorf.lockout))
      ∧ (s.dev.phase = .dormant →
        Runs (.dormantWake byNrst) s (fun t => t.dev.phase = .inReset ∧ t.dev.cause = 9 ∧ t.dev.causesSeen = 0x100
          ∧ t.dev.wakeSrc = byNrst ∧ t.tb.counter = 0 ∧ t.aorf.lockout = (s.aorf.lockout && !byNrst))
        ∧ Runs .pin s (fun t => t.dev.cause = 9 ∧ t.dev.wakeSrc = true)))
  ∧ (∀ (s : State) (tear : Tear), s.dev.phase.asserted = true →
      let prior := Kind.ofCode s.dev.cause.toNat
      Runs (.powerOn tear) s (fun t => t.dev.causesSeen = s.dev.causesSeen ||| 0x001 ∧ t.dev.cause = 1)
      ∧ Runs (.brownOut tear) s (fun t => t.dev.causesSeen = s.dev.causesSeen ||| 0x002
        ∧ t.dev.cause = if prior = .powerOn then 1 else 2)
      ∧ Runs .pin s (fun t => t.dev.causesSeen = s.dev.causesSeen ||| 0x004
        ∧ t.dev.cause = if prior.rank ≤ 5 then BitVec.ofNat 4 prior.code else 3))

/-- What POWER_ON, BROWN_OUT and PIN keep and lose, whatever the phase: the store, the fuses and the ports are kept; the queues,
the command layer, the links and the registers of the bus start afresh; the settings return to their defaults (R64, R65). A reset
that tears no write keeps the whole store; one that does keeps all but the write in hand (R250). A command that it cuts short
keeps what it had done, and the volatile state starts afresh all the same. -/
def Obligations.ResetSurvival : Prop :=
  ∀ (s : State) (tear : Tear) (i : Instr),
    (i ∈ [Instr.powerOn tear, .brownOut tear, .pin] →
      Runs i s (fun t => t.jr = Journal.new ∧ t.cm = Cmd.new ∧ t.hb = HostBus.new ∧ t.sf = Sfl.new ∧ t.ent = Entropy.new
        ∧ t.links = Vector.replicate 8 Link.new ∧ t.db = Debug.new ∧ t.en = { Engine.new with image := t.en.image }))
    ∧ (i ∈ [Instr.powerOn tear, .brownOut tear, .pin] → cutsCommand tear = false →
      Runs i s (fun t => t.fu.rows = s.fu.rows ∧ t.fu.spares = s.fu.spares
        ∧ t.fu.redirect = s.fu.redirect ∧ t.ports = s.ports ∧ t.set = defaultsOf s ∧ t.en.image = s.en.image
        ∧ t.nv.bankA = s.nv.bankA ∧ t.nv.bankB = s.nv.bankB ∧ t.nv.patchA = s.nv.patchA ∧ t.nv.patchB = s.nv.patchB
        ∧ t.nv.outcomes = s.nv.outcomes ∧ t.nv.lastE = s.nv.lastE ∧ MacrosStay s t))
    ∧ (i ∈ [Instr.powerOn .none, .brownOut .none, .pin] → Runs i s (fun t => t.nv = s.nv))

/-- The host words of the AORF, read as registers 0x08 to 0x0F, are no settings: they survive every reset but POWER_ON and
BROWN_OUT, which clear them as they clear the AORF (R66, Table 3-5). -/
def Obligations.HostWords : Prop :=
  ∀ (s : State) (tear : Tear) (why : BitVec 3) (byNrst : Bool) (tag : BitVec 3) (csn addr : Word) (crc : Byte),
    s.dev.phase = .running ∨ s.dev.phase = .dormant → s.nv.chains = [] → cutsCommand tear = false →
    (∀ i ∈ [Instr.pin, .watchdog, .clockWindowTrip why tear, .dormantWake byNrst, .resetDeviceWarm tag csn, .resetDeviceCold tag csn,
      .dbgReset addr crc], Runs i s (fun t => t.aorf.user = s.aorf.user))
    ∧ (∀ i ∈ [Instr.powerOn tear, .brownOut tear], Runs i s (fun t => t.aorf.user = Vector.replicate 8 0))
    ∧ ∀ k : Fin 8, hrf (8 + k.val) s = s.aorf.user[k.val]

/-- The clock-window reset is released; a blink code steps through its pulses; in DORMANT_ENTRY the outcome of ENTER_DORMANT is
committed, the links are held and DORMANT is reached (R26, R61, R70, Table 3-8). -/
def Obligations.ReleaseBlinkDormant : Prop :=
  ∀ s : State,
    (s.dev.phase = .clockHeld → exec .clockWindowRelease s = .next { s with dev := { s.dev with phase := .inReset } })
    ∧ (∀ n, s.dev.phase = .blink n →
      let k := (s.dev.blinkStep + 1) % (2 * n + 1)
      exec .faultNBlink s = .next { s with dev := { s.dev with blinkStep := k, faultN := decide (k = 2 * n) || k % 2 == 1 } })
    ∧ (∀ c, s.cm.running = some .dormant → headChain s = some c → s.dev.dvState = .dormantEntry → StoreTakes s →
      Runs .dormantEntered s (fun t => t.dev.phase = .dormant ∧ t.dev.faultN = false ∧ t.dev.safeOk = false
        ∧ t.dev.monArmed = false ∧ t.aorf.dormantPending = true ∧ t.aorf.dormantCsn = c.csn
        ∧ t.aorf.dormantCount = inc8 s.aorf.dormantCount ∧ t.nv.lastE = c.csn ∧ t.cm.running = none
        ∧ outcomeOf c.csn t = some (closedEntry c stOk) ∧ ∀ l : Fin 8, t.links[l.val].held = true))

/-- TESTMODE holds a boot in step 1 and a failed fuse check holds it in step 2 with its blink code; neither starts firmware.
Every other boot ends in one of the states of ALL, with SAFE_OK high in RUN alone. Without an active image a boot with every
test passed ends in STOP with NO_CONFIG; a test of step 4 that fails ends it in FAULT with its code; with the LOCKOUT latch set
it ends in LOCKOUT with FAULT_N low (R60, R61, R62, R67, R68, R378). The model's own choices in it: LOCKOUT whatever the tests
gave, and steps 5 and 6 after a failed step 4 (log entry 8); the order of the fault codes of step 4 (log entry 80); the journal
pointer set at step 6 (log entry 9). -/
def Obligations.Boot : Prop :=
  (∀ (s : State) (b : BootInputs), s.dev.phase = .inReset →
      (b.testmode = true → Runs (.boot b) s (fun t => t.dev.phase = .testHold ∧ t.dev.faultN = false
        ∧ t.dev.dvState = s.dev.dvState ∧ t.hb.base = baseOf s.fu.sensed.baseAddr b.addr))
      ∧ (∀ n, b.testmode = false → blinkCode s.fu.sensed = some n → Runs (.boot b) s (fun t => t.dev.phase = .blink n
        ∧ t.dev.faultN = false ∧ t.dev.blinkStep = 0 ∧ t.nv = s.nv)))
  ∧ (∀ (s : State) (b : BootInputs), s.dev.phase = .inReset → b.testmode = false → blinkCode s.fu.sensed = none →
      Runs (.boot b) s (fun t => t.dev.phase = .running ∧ stateAll t = true ∧ PinsTell t)
      ∧ (∀ code detail, s.aorf.lockout = false → b.aorfNoise = 0 → bootTest b = some (code, detail) →
        Runs (.boot b) s (fun t => t.dev.dvState = .fault ∧ t.dev.faultCode = code ∧ t.dev.faultDetail = detail
          ∧ t.dev.faultN = false ∧ t.en.reverify = true))
      ∧ (s.aorf.lockout = false → b.aorfNoise = 0 → bootTest b = none → s.nv.worn = [] → s.nv.chains = [] → b.nvaOk = true → b.nvbOk = true → b.wakeHigh = false →
        s.nv.stored.hasActive = false → s.nv.stored.nvaOut = false → s.nv.stored.nvbOut = false →
        Runs (.boot b) s (fun t => t.dev.phase = .running ∧ t.dev.dvState = .stop ∧ t.dev.noConfig = true
          ∧ t.dev.faultN = true ∧ t.dev.safeOk = false ∧ t.en.image = none ∧ t.set = Settings.compiler
          ∧ t.hb.jptr = seqNext t.nv.live.ack))
      ∧ (s.aorf.lockout = true →
        Runs (.boot b) s (fun t => t.dev.phase = .running ∧ t.dev.dvState = .lockout ∧ t.dev.faultN = false
          ∧ t.dev.safeOk = false ∧ t.aorf.lockout = true)))

/-! ## Time base and temperature -/

/-- PPS edges and a missing edge (R29, R35): an edge of the other polarity, and one after a level of less than 1 µs, is none;
the first edge, and the one after a missing edge, only starts an interval; an interval within ±1000 ppm is valid and, with PPS
selected, sets DEV_PPM, whose rounding the model reads from Table 2-4 (log entry 74); one outside breaks every run and raises
PPS_FAULT with its count. The loss of a source ends its lock (R36, Table 2-3): in AUTO a lost IRIG-B lock falls back on a PPS lock;
else the quality becomes HOLDOVER after 10 min of lock and UNSYNC before that; a source that was not valid loses nothing. HOLDOVER
ends in UNSYNC after TB_HOLDOVER_MAX (R44), with HOLDOVER_EXPIRED and the seconds spent there. -/
def Obligations.TimeSources : Prop :=
  (∀ (s : State) (rising : Bool) (held counts : Nat) (frac : Fin 24), live s = true → s.nv.chains = [] →
      let active : Prop := (rising = !s.set.ppsEdge) ∧ 24 ≤ held
      (¬ active → exec (.ppsEdge rising held counts frac) s = .next s)
      ∧ (active → s.tb.ppsStarted = false ∨ s.tb.ppsMissed = true → exec (.ppsEdge rising held counts frac) s =
        .next { s with tb := { s.tb with ppsStarted := true, ppsMissed := false } })
      ∧ (active → s.tb.ppsStarted = true → s.tb.ppsMissed = false → 23976000 ≤ counts → counts ≤ 24024000 →
        Runs (.ppsEdge rising held counts frac) s (fun t => t.tb.ppsValid = true ∧ t.links = s.links ∧ t.ports = s.ports
          ∧ (selects s 1 = true → t.tb.devPpm = BitVec.ofInt 16 (devTenths counts))))
      ∧ (active → s.tb.ppsStarted = true → s.tb.ppsMissed = false → counts < 23976000 ∨ 24024000 < counts → JournalOpen s →
        Runs (.ppsEdge rising held counts frac) s (fun t => t.tb = s.tb.breakPps
          ∧ Gained [eventOf 225 0x0004 .warning (BitVec.ofNat 64 counts) s] s t))
      ∧ (s.tb.ppsStarted = true → s.tb.ppsMissed = false → JournalOpen s →
        Runs .ppsFault s (fun t => t.tb = { s.tb.breakPps with ppsMissed := true }
          ∧ Gained [eventOf 225 0x0004 .warning 0 s] s t ∧ EventFrame { s with tb := t.tb } t)))
  ∧ (∀ s : State, live s = true → s.nv.chains = [] →
      (s.tb.ppsValid = true → s.tb.quality = .lockedPps → Runs (.sourceLost false) s (fun t => t.tb.ppsValid = false
        ∧ t.tb.ppsLocked = false ∧ t.tb.quality = (if 600 ≤ s.tb.lockSecs.toNat then .holdover else .unsync)
        ∧ t.tb.counter = s.tb.counter))
      ∧ (s.tb.irigValid = true → s.tb.quality = .lockedIrig → s.set.src = 2 →
        Runs (.sourceLost true) s (fun t => t.tb.irigValid = false ∧ t.tb.irigLocked = false
          ∧ t.tb.quality = (if 600 ≤ s.tb.lockSecs.toNat then .holdover else .unsync) ∧ t.tb.counter = s.tb.counter))
      ∧ (s.tb.irigValid = true → s.tb.quality = .lockedIrig → s.set.src = 3 → s.tb.ppsLocked = true → s.tb.timeSetValid = true →
        s.tb.drift = false → Runs (.sourceLost true) s (fun t => t.tb.irigValid = false ∧ t.tb.irigLocked = false
          ∧ t.tb.quality = .lockedPps ∧ t.tb.counter = s.tb.counter))
      ∧ (s.tb.ppsValid = false → exec (.sourceLost false) s = .next s)
      ∧ (s.tb.irigValid = false → exec (.sourceLost true) s = .next s)
      ∧ (s.tb.quality = .holdover → Runs .holdoverExpired s (fun t => t.tb.quality = .unsync
        ∧ t.tb.counter = s.tb.counter ∧ t.aorf = s.aorf
        ∧ (JournalOpen s → GainedFirst [eventOf 225 0x0006 .warning (argOf [(0, holdoverSecs s)]) s] s t)))
      ∧ (s.tb.quality ≠ .holdover → exec .holdoverExpired s = .next s))

/-- A received IRIG-B frame (R36, R37): one whose fields agree, the first after a break, is valid (the model's choice, log entry
79), names its format and counts as valid; one with a position identifier missing is rejected, counts as rejected and breaks every run. A leap second that is
pending changes TB_UTC_OFFSET by one and clears the announcement, unless the device holds no station time (R46); TSYNC_OUT rises
where it is enabled and the quality allows it, and falls after its width (R51). -/
def Obligations.IrigLeapTsync : Prop :=
  (∀ (s : State) (f : IrigFrame) (frac : Fin 24), live s = true → s.nv.chains = [] →
      (irigFieldsOk f = true → f.second < 60 → s.tb.irigLast = none → Runs (.irigFrame f frac) s (fun t =>
        t.tb.irigValid = true ∧ t.tb.irigFmt = BitVec.ofNat 3 f.fmt.val ∧ t.tb.irigNoYear = (irigYear f s).isNone
          ∧ t.tb.irigStat = countIrig true s.tb.irigStat))
      ∧ (f.positionOk = false → Runs (.irigFrame f frac) s (fun t => t.tb.irigRun = 0 ∧ t.tb.irigLockRun = 0
        ∧ t.tb.irigLast = none ∧ t.tb.irigStat = countIrig false s.tb.irigStat ∧ t.tb.irigValid = s.tb.irigValid
        ∧ t.tb.quality = s.tb.quality ∧ t.tb.counter = s.tb.counter)))
  ∧ (∀ s : State, live s = true → s.nv.chains = [] →
      (s.tb.leapPending = true → s.tb.quality ≠ .unsync → Runs .leapSecond s (fun t =>
        t.nv.live.utcOffset = (if s.tb.leapDelete then s.nv.live.utcOffset - 1 else s.nv.live.utcOffset + 1)
          ∧ t.tb.leapPending = false ∧ t.tb.leapDelete = false ∧ t.tb.counter = s.tb.counter))
      ∧ (s.tb.leapPending = true → s.tb.quality = .unsync → Runs .leapSecond s (fun t =>
        t.nv.live.utcOffset = s.nv.live.utcOffset ∧ t.tb.leapPending = true ∧ t.tb.leapDue = true))
      ∧ Runs .tsyncPulse s (fun t => t = { s with dev := { s.dev with tsyncOut := s.set.tsyncEn
          && (s.tb.quality != .unsync || s.set.tsyncAlways) } })
      ∧ Runs .tsyncPulseEnd s (fun t => t = { s with dev := { s.dev with tsyncOut := false } }))

/-- The die temperature (R401): TEMP_HIGH once at 125 °C, OVERTEMP_TRIP at 140 °C and from RUN or STOP the state FAULT with
OVERTEMP, TEMP_NORMAL once below 120 °C. -/
def Obligations.Temperature : Prop :=
  ∀ (s : State) (temp : Byte), live s = true → s.nv.chains = [] → JournalOpen s →
    (189 ≤ temp.toNat → temp.toNat < 204 → s.dev.tempHigh = false →
      Runs (.temperatureMeasurement temp) s (fun t => t.dev.tempHigh = true ∧ t.dev.overTemp = s.dev.overTemp
        ∧ t.dev.dieTemp = temp ∧ t.dev.dvState = s.dev.dvState
        ∧ Gained [eventOf 238 0x1101 .warning (argOf [(0, temp.toNat)]) s] s t))
    ∧ (204 ≤ temp.toNat → stateRunStop s = true →
      Runs (.temperatureMeasurement temp) s (fun t => t.dev.overTemp = true ∧ t.dev.tempHigh = true
        ∧ t.dev.dvState = .fault ∧ t.dev.faultCode = 0x09 ∧ t.dev.safeOk = false
        ∧ (s.dev.tempHigh = true → GainedFirst [eventOf 238 0x1102 .fault (argOf [(0, temp.toNat)]) s] s t)
        ∧ (s.dev.tempHigh = false → s.jr.queue.length < 63 → GainedFirst [eventOf 238 0x1101 .warning (argOf [(0, temp.toNat)]) s,
          eventOf 238 0x1102 .fault (argOf [(0, temp.toNat)]) s] s t)))
    ∧ (204 ≤ temp.toNat → stateRunStop s = false → s.dev.overTemp = false → s.dev.tempHigh = true →
      Runs (.temperatureMeasurement temp) s (fun t => t.dev.overTemp = true ∧ t.dev.dvState = s.dev.dvState
        ∧ t.dev.faultCode = s.dev.faultCode
        ∧ Gained [eventOf 238 0x1102 .fault (argOf [(0, temp.toNat)]) s] s t))
    ∧ (temp.toNat < 184 → s.dev.tempHigh = true → evEnabled s 238 = true →
      Runs (.temperatureMeasurement temp) s (fun t => t.dev.tempHigh = false ∧ t.dev.overTemp = false
        ∧ Gained [eventOf 238 0x1103 .notice (argOf [(0, temp.toNat)]) s] s t))

/-! ## Commands that read -/

/-- PING, GET_IDENTITY, GET_STATE, GET_VERSIONS, JOURNAL_STATUS, TIME_STATUS, PRINT_STATUS, PATCH_STATUS and GET_EVENT_PENDING
answer OK at once with their data and change nothing but the bus, the replies and the events of the bus (R300, R301, R311,
R314, R321, R324, R326). -/
def Obligations.PlainReads : Prop :=
  ∀ (s : State) (tag : BitVec 3), Accepts tag s →
    let reads (op : Byte) (params : List Byte) (i : Instr) (data : State → List Byte) : Prop :=
      let p := plainPacket op tag params
      Runs i s (fun t => Answered p stOk (data (heard p s)) t ∧ HostFrame s t ∧ EventStore s t)
    (∀ params, params.length ≤ 32 → reads 0x01 params (.ping tag params) (fun _ => params))
    ∧ reads 0x02 [] (.getIdentity tag []) identityData
    ∧ reads 0x03 [] (.getState tag []) stateData
    ∧ reads 0x04 [] (.getVersions tag []) versionsData
    ∧ reads 0x32 [] (.journalStatus tag []) (fun s => (List.range 7).flatMap (fun k => bytes4 (jrReg k s)))
    ∧ reads 0x41 [] (.timeStatus tag []) timeStatusData
    ∧ reads 0x72 [] (.printStatus tag []) (fun s => (List.range 8).flatMap (fun k => bytes4 (wpReg k s)))
    ∧ reads 0x83 [] (.patchStatus tag []) patchStatusData
    ∧ reads 0x93 [] (.getEventPending tag [])
      (fun s => (List.range 8).flatMap (fun k => bytes4 (s.jr.pend[k]?.getD 0)))

/-- CONFIG_INFO, JOURNAL_READ, COMMAND_OUTCOME, SFL_STATUS, PORT_STATUS, PORT_DIAG_READ and FUSE_READ answer OK with their data
where their parameters are in range, and BAD_PARAM without data where they are not; neither changes anything else (R307, R311,
R312, R315, R318, R322). BAD_PARAM of PORT_DIAG_READ for a port beyond the fused ones is the model's reading (log entry 47). -/
def Obligations.SelectedReads : Prop :=
  ∀ (s : State) (tag : BitVec 3) (a b : Byte) (c : Word), Accepts tag s →
    let reads (op : Byte) (params : List Byte) (i : Instr) (ok : Bool) (data : State → List Byte) : Prop :=
      let p := plainPacket op tag params
      Runs i s (fun t => (if ok then Answered p stOk (data (heard p s)) t else Answered p stBadParam [] t)
        ∧ HostFrame s t ∧ EventStore s t)
    reads 0x15 [a] (.configInfo tag [a]) (decide (a.toNat ≤ 1))
      (fun s => configInfoData (a == 0) (if a = 0 then activeBank s else inactiveBank s))
    ∧ reads 0x30 (bytes4 c ++ [b]) (.journalRead tag (bytes4 c ++ [b]))
      (decide (1 ≤ b.toNat) && decide (b.toNat ≤ 15) && !startRefused c (heard (plainPacket 0x30 tag (bytes4 c ++ [b])) s))
      (fun s =>
        let l := if startBeyond c s then [] else (recordsFrom c s).take b.toNat
        [BitVec.ofNat 8 l.length, 0, 0, 0] ++ l.flatMap Record.bytes)
    ∧ reads 0x38 (bytes4 c) (.commandOutcome tag (bytes4 c)) (c != 0) (outcomeData c)
    ∧ reads 0x50 [a, b] (.sflStatus tag [a, b]) (decide (a.toNat ≤ 1) && decide (b.toNat ≤ 31))
      (sflStatusData (a == 1) b.toNat)
    ∧ reads 0x60 [a] (.portStatus tag [a]) (decide (a.toNat < portsFused s)) (portStatusData a.toNat)
    ∧ reads 0x61 [a, b] (.portDiagRead tag [a, b])
      (decide (a.toNat < portsFused s) && decide (1 ≤ b.toNat) && decide (b.toNat ≤ 32))
      (fun s =>
        let l := (getLink a.toNat s).diags.take b.toNat
        [BitVec.ofNat 8 l.length, 0, 0, 0] ++ l.flatMap (fun d => bytes2 d.1 ++ bytes2 d.2.1 ++ bytes4 d.2.2))
    ∧ (readLocked s.fu (rowRegion a.toNat) = false →
      reads 0x80 [a] (.fuseRead tag [a]) (decide (a.toNat < 32)) (fun s => (fuseRead a.toNat s).2))
    ∧ (a.toNat < 32 → readLocked s.fu (rowRegion a.toNat) = true →
      Runs (.fuseRead tag [a]) s (fun t => Answered (plainPacket 0x80 tag [a]) stLocked [] t ∧ HostFrame s t))

/-- READ_HRF answers the words of COUNT registers, 1 to 64, from START on, or of START COUNT times with REPEAT: each as one read,
so that a read of TB_TIME_LO latches TB_TIME_HI for the reads after it, and each read of EN_SNAP_DATA moves EN_SNAP_ADDR on by 2;
nothing else changes. A COUNT of 0 or above 64, and without REPEAT a START and COUNT beyond 256, are BAD_PARAM (R32, R52, R162,
R302). -/
def Obligations.RegisterReads : Prop :=
  ∀ (s : State) (tag : BitVec 3), Accepts tag s →
    let p (start count : Byte) := plainPacket 0x05 tag [start, count, 0, 0]
    (∀ start count flags z : Byte,
      let params : List Byte := [start, count, flags, z]
      let q := plainPacket 0x05 tag params
      let rep := flags.getLsbD 0
      let index (k : Nat) : Nat := if rep then start.toNat else start.toNat + k
      let h := heard q s
      let seen (k : Nat) : State := { h with
        tb := if (List.range k).any (fun j => index j == 0x12) then
          { h.tb with timeHi := (h.tb.counter >>> 32).setWidth 32 } else h.tb
        en := { h.en with snapAddr := h.en.snapAddr + 2 * BitVec.ofNat 12 ((List.range k).countP (fun j => index j == 0x69)) } }
      (1 ≤ count.toNat → count.toNat ≤ 64 → rep = true ∨ start.toNat + count.toNat ≤ 256 →
        Runs (.readHrf tag params) s (fun t =>
          Answered q stOk ((List.range count.toNat).flatMap (fun k => bytes4 (hrf (index k) (seen k)))) t
            ∧ t.tb = (seen count.toNat).tb ∧ t.en = (seen count.toNat).en ∧ HostFrame { s with tb := t.tb, en := t.en } t
            ∧ EventStore s t))
      ∧ (count = 0 ∨ 64 < count.toNat ∨ (rep = false ∧ 256 < start.toNat + count.toNat) →
        Runs (.readHrf tag params) s (fun t => Answered q stBadParam [] t ∧ HostFrame s t ∧ EventStore s t)))
    ∧ Runs (.readHrf tag [0x12, 2, 0, 0]) s (fun t =>
      Answered (p 0x12 2) stOk (bytes4 (s.tb.counter.setWidth 32) ++ bytes4 ((s.tb.counter >>> 32).setWidth 32)) t
        ∧ HostFrame { s with tb := t.tb } t)
    ∧ Runs (.tbTimeLoRead tag) s (fun t => Answered (p 0x12 1) stOk (bytes4 (s.tb.counter.setWidth 32)) t
      ∧ t.tb = { s.tb with timeHi := (s.tb.counter >>> 32).setWidth 32 } ∧ HostFrame { s with tb := t.tb } t)
    ∧ Runs (.enSnapDataRead tag) s (fun t => Answered (p 0x69 1) stOk (bytes4 (enReg 9 s)) t
      ∧ t.en = { s.en with snapAddr := s.en.snapAddr + 2 } ∧ HostFrame { s with en := t.en } t)

/-- SFL_FRAME_IN of 1 to 16 frames queues them in order while the inbound queue has room and answers their number, with WINDOW_FULL
where one was left, which counts as a loss; outside STOP, RUN and FAULT it is WRONG_STATE. SFL_FRAME_OUT takes up to 15 frames from
the outbound queue, oldest first. HOST_SIGNALS_WRITE writes the masked BOOL host signals and the WORD ones that its entries name,
the later entry of a number counting, and answers the scan that reads them; a number above 31 is BAD_PARAM (R235, R310, R316). -/
def Obligations.HostFrames : Prop :=
  ∀ (s : State) (tag : BitVec 3), Accepts tag s →
    (∀ l : List (List Byte), 1 ≤ l.length → l.length ≤ 16 → (∀ b ∈ l, b.length = 32) →
      let p := plainPacket 0x51 tag l.flatten
      let k := min l.length (64 - s.sf.inq.length)
      let lost := l.length - k
      (s.dev.dvState ∈ [DvState.stop, .run, .fault] → Runs (.sflFrameIn tag l.flatten) s (fun t =>
        Answered p (if lost = 0 then stOk else stWindowFull) [BitVec.ofNat 8 k] t
          ∧ t.sf = { s.sf with
            inq := s.sf.inq ++ l.take k, inLoss := (if k = 0 then s.sf.inLoss else 0) + lost,
            lossIn := (List.range lost).foldl (fun n _ => inc8 n) s.sf.lossIn }
          ∧ HostFrame { s with sf := t.sf } t ∧ EventStore s t))
      ∧ (s.dev.dvState ∈ [DvState.mismatch, .lockout] → Runs (.sflFrameIn tag l.flatten) s (fun t =>
        Answered p stWrongState [] t ∧ HostFrame s t ∧ EventStore s t)))
    ∧ (∀ m : Byte, 1 ≤ m.toNat → m.toNat ≤ 15 → Runs (.sflFrameOut tag [m]) s (fun t =>
      let l := s.sf.outq.take m.toNat
      t.sf.outq = s.sf.outq.drop m.toNat ∧ t.sf.inq = s.sf.inq
        ∧ Answered (plainPacket 0x52 tag [m]) stOk
          ([BitVec.ofNat 8 l.length, BitVec.ofNat 8 t.sf.outq.length, 0, 0] ++ l.flatten) t))
    ∧ (∀ (m v : Word) (es : List (Byte × Half)), es.length ≤ 32 →
      let params := bytes4 m ++ bytes4 v ++ es.flatMap (fun e => [e.1, 0] ++ bytes2 e.2)
      let p := plainPacket 0x23 tag params
      ((∀ e ∈ es, e.1.toNat ≤ 31) → Runs (.hostSignalsWrite tag params) s (fun t =>
        t.cm.hostBool = (s.cm.hostBool &&& ~~~m) ||| (v &&& m) ∧ t.cm.hostBoolSet = s.cm.hostBoolSet ||| m
          ∧ (∀ n : Fin 32, t.cm.hostWord[n.val] =
            match (es.filter (fun e => e.1.toNat == n.val)).getLast? with
            | some e => some e.2
            | none => s.cm.hostWord[n.val])
          ∧ HostFrame s t ∧ EventStore s t ∧ Answered p stOk (bytes4 (if s.dev.dvState = .run then s.en.scanNo + 1 else 0)) t))
      ∧ ((∃ e ∈ es, 31 < e.1.toNat) → Runs (.hostSignalsWrite tag params) s (fun t => Answered p stBadParam [] t
        ∧ t.cm.hostBool = s.cm.hostBool ∧ t.cm.hostBoolSet = s.cm.hostBoolSet ∧ t.cm.hostWord = s.cm.hostWord
        ∧ HostFrame s t ∧ EventStore s t)))

/-- DEBUG_CHALLENGE takes a word of the pool as the new challenge, valid for 60 s, unless none may be issued (R327, R369): then it is
answered LOCKED, for every reason there is, as the model reads it (log entry 48). CHAL_NEW does the same for the probe. -/
def Obligations.Challenges : Prop :=
  ∀ (s : State) (tag : BitVec 3) (w : DWord) (pool : List DWord),
    let p := plainPacket 0xA0 tag []
    (Accepts tag s → challengeRefused s = true →
      Runs (.debugChallenge tag []) s (fun t => Answered p stLocked [] t ∧ t.db = s.db ∧ t.ent = s.ent))
    ∧ (s.ent.state = .healthy → s.ent.pool = w :: pool → challengeRefused s = false →
      (Accepts tag s → s.ent.waiting = [] → Runs (.debugChallenge tag []) s (fun t =>
        Answered p stOk (bytes8 w ++ [0x60, 0xEA, 0, 0]) t ∧ t.db.challenge = some w ∧ t.db.chalUs = 60000000
          ∧ t.ent.pool = pool))
      ∧ (live s = true → Runs (.chalNew 0 (probeCrc 0x03 0 none)) s (fun t => t.db.respStatus = dbDone
        ∧ t.db.challenge = some w ∧ t.db.chalUs = 60000000 ∧ t.ent.pool = pool ∧ t.jr = s.jr)))

/-! ## Commands that write -/

/-- WRITE_HRF applies its 1 to 16 entries in order and answers their number, and nothing at all where one is out of range; an entry
writes the bits of its mask that are RW, in every field of Table 15-13 within its range; bits written as 1 are cleared where they
are W1C, and nothing changes in any other register. HOLD freezes the readable snapshot and its release makes the newest one
readable (R15, R16, R65, R161, R303, R329, R332). -/
def Obligations.RegisterWrites : Prop :=
  ∀ (s : State) (tag : BitVec 3) (csn : Word), Accepts tag s → InOrder csn s →
    let p (params : List Byte) := seqPacket 0x06 tag csn params
    (∀ ws : List RegWrite, 1 ≤ ws.length → ws.length ≤ 16 → (∀ e ∈ ws, e.index < 256) →
      let params := ws.flatMap (fun e => hrfEntry e.index e.mask e.value)
      (∀ u, applyWrites ws s = some u → Runs (.writeHrf tag csn params) s (fun t =>
        Done (p params) stOk [BitVec.ofNat 8 ws.length] t ∧ t.set = u.set ∧ t.en = u.en ∧ t.dev = u.dev
          ∧ t.aorf.user = u.aorf.user ∧ t.aorf.settingsDiffer = decide (u.set ≠ defaultsOf u) ∧ CommandStore s t))
      ∧ ((∃ l e r u, ws = l ++ e :: r ∧ applyWrites l s = some u ∧ writeOk e u = false) →
        Runs (.writeHrf tag csn params) s (fun t => Done (p params) stBadParam [] t ∧ t.set = s.set ∧ t.en = s.en ∧ t.dev = s.dev
          ∧ t.aorf = s.aorf ∧ t.jr.pend = (touchBus s).jr.pend ∧ CommandStore s t)))
    ∧ (let fields : List (Nat × Word × Word × (Word → Bool)) :=
        [(0x11, 0x01FF003C, 0x01FF0000, fun w => between 1 (w.toNat / 2 ^ 16 % 512) 500),
          (0x18, 0xFFFFFFFF, 0xFFFFFFFF, fun w => decide (-32768 ≤ w.toInt) && decide (w.toInt ≤ 32767)),
          (0x19, 0xFFFFFFFF, 0xFFFFFFFF, fun w => between 1 w.toNat 86400), (0x21, 3, 3, fun w => decide (w.toNat % 4 ≤ 2)),
          (0x23, 0xFFFFFFFF, 0xFFFFFFFF, fun w => between 1 w.toNat 1000), (0x24, 0xFF, 0, fun _ => true),
          (0x25, 0xFFFFFFFF, 0xFFFFFFFF, fun w => w == 0 || between 10 w.toNat 60000), (0x66, 1, 0, fun _ => true),
          (0x68, 0xFFF, 0, fun _ => true), (0x81, 0xF7, 0x70, fun w => decide (w.toNat / 16 % 8 ≤ 5)), (0x97, 0x7FFF, 0, fun _ => true)]
        ++ (List.range 8).map (fun k => (0x08 + k, 0xFFFFFFFF, 0, fun _ => true))
        ++ (List.range 7).map (fun k => (0x90 + k, 0xFFFFFFFF, 0, fun _ => true))
      ∀ (mask v : Word) (x : Nat × Word × Word × (Word → Bool)), x ∈ fields →
        let m := mask &&& x.2.1
        let w := (hrf x.1 s &&& ~~~m) ||| (v &&& m)
        (m &&& x.2.2.1 = 0 ∨ x.2.2.2 w = true → Runs (.writeHrf tag csn (hrfEntry x.1 mask v)) s (fun t =>
          Done (p (hrfEntry x.1 mask v)) stOk [1] t ∧ hrf x.1 t &&& x.2.1 = w &&& x.2.1
            ∧ ∀ y ∈ fields, y.1 ≠ x.1 → hrf y.1 t &&& y.2.1 = hrf y.1 s &&& y.2.1))
        ∧ (m &&& x.2.2.1 ≠ 0 → x.2.2.2 w = false → Runs (.writeHrf tag csn (hrfEntry x.1 mask v)) s (fun t =>
          Done (p (hrfEntry x.1 mask v)) stBadParam [] t ∧ t.set = s.set ∧ t.en = s.en ∧ t.aorf = s.aorf ∧ t.dev = s.dev)))
    ∧ (∀ mask v : Word, Runs (.writeHrf tag csn (hrfEntry 0x01 mask v)) s (fun t => Done (p (hrfEntry 0x01 mask v)) stOk [1] t
      ∧ t.dev = { s.dev with defaultsRestored := s.dev.defaultsRestored && !(mask &&& v).getLsbD 13 } ∧ t.set = s.set))
    ∧ (∀ (i : Nat) (mask v : Word), i < 256 →
      i ∉ [0x01, 0x11, 0x18, 0x19, 0x21, 0x23, 0x24, 0x25, 0x66, 0x68, 0x81] → ¬ (0x08 ≤ i ∧ i ≤ 0x0F) → ¬ (0x90 ≤ i ∧ i ≤ 0x9F) →
      Runs (.writeHrf tag csn (hrfEntry i mask v)) s (fun t => Done (p (hrfEntry i mask v)) stOk [1] t ∧ t.set = s.set
        ∧ t.en = s.en ∧ t.dev = s.dev ∧ t.aorf.user = s.aorf.user ∧ t.jr.pend = (touchBus s).jr.pend))
    ∧ (∀ v : Word, 1 ≤ v.toNat → v.toNat ≤ 86400 →
      Runs (.writeHrf tag csn (hrfEntry 0x19 0xFFFFFFFF v)) s (fun t => Done (p (hrfEntry 0x19 0xFFFFFFFF v)) stOk [1] t
        ∧ t.set = { s.set with holdoverMax := v } ∧ t.aorf.settingsDiffer = decide (t.set ≠ defaultsOf s)
        ∧ t.en = s.en ∧ t.tb = s.tb ∧ CommandStore s t))
    ∧ (∀ v : Word, v = 0 ∨ 86400 < v.toNat → Runs (.writeHrf tag csn (hrfEntry 0x19 0xFFFFFFFF v)) s (fun t =>
      Done (p (hrfEntry 0x19 0xFFFFFFFF v)) stBadParam [] t ∧ t.set = s.set ∧ t.aorf = s.aorf))
    ∧ Runs (.enSnapHold tag csn) s (fun t => Done (p (hrfEntry 0x66 1 1)) stOk [1] t ∧ t.en = { s.en with hold := true })
    ∧ Runs (.enSnapRelease tag csn) s (fun t => Done (p (hrfEntry 0x66 1 0)) stOk [1] t
      ∧ t.en = { s.en with hold := false, snapRead := s.en.snapNew })
    ∧ (∀ (n : Fin 8) (m : Word), Runs (.evPendingClear tag csn n m) s (fun t =>
      Done (p (hrfEntry (0x98 + n.val) m m)) stOk [1] t ∧ t.jr.pend[n.val] &&& m = 0 ∧ t.set = s.set
        ∧ t.jr.pend[n.val] = (touchBus s).jr.pend[n.val] &&& ~~~m))

/-- SET_EVENT_ENABLES carries a mask and a value of 32 bytes and writes the masked bits of EV_ENABLE0 to EV_ENABLE7, bits of
sources 239 to 255 ignored, as WRITE_HRF would; GET_EVENT_PENDING returns EV_PENDING0 to EV_PENDING7 and clears nothing (R326).
-/
def Obligations.EventEnables : Prop :=
  ∀ (s : State) (tag : BitVec 3) (csn : Word), Accepts tag s →
    (∀ m v : List Word, m.length = 8 → v.length = 8 → InOrder csn s →
      Runs (.setEventEnables tag csn ((m ++ v).flatMap bytes4)) s (fun t =>
        Done (seqPacket 0x92 tag csn ((m ++ v).flatMap bytes4)) stOk [] t
          ∧ t.set = { s.set with evEnable := t.set.evEnable } ∧ t.aorf.settingsDiffer = decide (t.set ≠ defaultsOf s)
          ∧ ∀ n : Fin 8,
            let mask : Word := if n.val = 7 then (m[7]?.getD 0) &&& 0x7FFF else m[n.val]?.getD 0
            t.set.evEnable[n.val] = (s.set.evEnable[n.val] &&& ~~~mask) ||| ((v[n.val]?.getD 0) &&& mask)))
    ∧ Runs (.getEventPending tag []) s (fun t =>
      Answered (plainPacket 0x93 tag []) stOk ((List.range 8).flatMap (fun k => bytes4 ((touchBus s).jr.pend[k]?.getD 0))) t
        ∧ t.jr.pend = (touchBus s).jr.pend ∧ HostFrame s t ∧ EventStore s t)

/-- Staging writes the inactive bank alone (R304, R307): BEGIN marks it STAGING with its length, DATA writes the bytes at the
offset and no other byte, DISCARD_STAGED empties it; the active bank never changes. STAGE_CONFIG_COMMIT of a staged body that
passes every check completes the header, with the active image's IMG_SEQ plus 1 (R245, R305); of a bank already COMMITTED with
the same CRC it writes nothing, and with another CRC it is BAD_PARAM with reason 1. The model's own: that BEGIN keeps the other
header fields and the body (log entry 63), and which checks the body is given beside those R305 spells (log entries 64 and 94). -/
def Obligations.Staging : Prop :=
  (∀ (s : State) (tag : BitVec 3) (csn : Word), Accepts tag s → InOrder csn s → degraded s = false →
      (∀ n : Word, 1 ≤ n.toNat → n.toNat ≤ 262080 → Runs (.stageConfigBegin tag csn (bytes4 n)) s (fun t =>
        Done (seqPacket 0x10 tag csn (bytes4 n)) stOk [BitVec.ofNat 8 (inactiveIx s)] t
          ∧ inactiveBank t = { inactiveBank s with state := .staging, length := n.toNat } ∧ activeBank t = activeBank s))
      ∧ (∀ (off : Word) (b : List Byte), 1 ≤ b.length → b.length ≤ 504 → (inactiveBank s).state = .staging →
        Memory.wf (inactiveBank s).body = true → off.toNat + b.length ≤ (inactiveBank s).length →
        Runs (.stageConfigData tag csn (bytes4 off ++ b)) s (fun t =>
          Done (seqPacket 0x11 tag csn (bytes4 off ++ b)) stOk (leBytes 4 (off.toNat + b.length)) t
            ∧ activeBank t = activeBank s
            ∧ inactiveBank t = { inactiveBank s with body := (inactiveBank t).body }
            ∧ ∀ a : Nat, Memory.read (inactiveBank t).body a =
              if off.toNat ≤ a ∧ a < off.toNat + b.length then byteAt b (a - off.toNat)
              else Memory.read (inactiveBank s).body a))
      ∧ Runs (.discardStaged tag csn []) s (fun t => Done (seqPacket 0x14 tag csn []) stOk [] t
        ∧ inactiveBank t = { inactiveBank s with state := .empty } ∧ activeBank t = activeBank s))
  ∧ (∀ (s : State) (tag : BitVec 3) (csn crc : Word), Accepts tag s → InOrder csn s → degraded s = false →
      let p := seqPacket 0x12 tag csn (bytes4 crc)
      let b := inactiveBank s
      (b.state = .staging → bodyRefusal crc b.bodyBytes s = none →
        Runs (.stageConfigCommit tag csn (bytes4 crc)) s (fun t =>
          inactiveBank t = b.complete (s.nv.live.activeSeq + 1) crc ∧ activeBank t = activeBank s ∧ stagedValid t = true
            ∧ Done p stOk (BitVec.ofNat 8 (inactiveIx s) :: 0 :: 0 :: 0 :: (bytes4 (s.nv.live.activeSeq + 1) ++ bytes4 crc)) t))
      ∧ (b.state = .committed → s.dev.discarded = false → b.bodyCrc = crc → Runs (.stageConfigCommit tag csn (bytes4 crc)) s (fun t =>
        Done p stOk (commitReply (inactiveIx s) b) t ∧ CommandStore s t))
      ∧ (b.state = .committed → s.dev.discarded = false → b.bodyCrc ≠ crc → Runs (.stageConfigCommit tag csn (bytes4 crc)) s (fun t =>
        Done p stBadParam [1, 0, 0xFF, 0xFF, 0, 0, 0, 0] t ∧ CommandStore s t)))

/-- ACTIVATE_CONFIG of a staged image that passes its checks makes its bank the active one, reads the image, clears NO_CONFIG, lets
every link go for a new start in phase 1, empties every consumer and has the engine draw a new seed: a word of the pool becomes its
state at once, and until one does the engine waits for its seed (R86, R145, R151, R306). -/
def Obligations.Activate : Prop :=
  ∀ (s : State) (tag : BitVec 3) (csn seq : Word) (im : Image), Accepts tag s → InOrder csn s →
    activateCheck seq s = (stOk, some im) → s.ent.waiting = [] →
    Runs (.activateConfig tag csn (bytes4 seq)) s (fun t =>
      Concluded (seqPacket 0x13 tag csn (bytes4 seq)) stOk (BitVec.ofNat 8 (!s.nv.live.activeB).toNat :: bytes4 seq) t
        ∧ t.en.image = some im ∧ t.nv.live.activeB = !s.nv.live.activeB ∧ t.nv.live.activeSeq = seq ∧ t.dev.noConfig = false
        ∧ t.sf.conss = Vector.replicate 32 ConsSt.new ∧ t.dev.dvState = .stop
        ∧ (∀ (w : DWord) (pool : List DWord), s.ent.state = .healthy → s.ent.pool = w :: pool → w.setWidth 32 ≠ (0 : Word) →
          t.en.lfsr = w.setWidth 32 ∧ t.en.seedWait = false ∧ t.ent.pool = pool ∧ t.ent.waiting = [])
        ∧ (s.ent.state ∈ [EntState.startup, .healthy] → s.ent.pool = [] →
          t.en.seedWait = true ∧ t.ent.waiting = [.engineLoad] ∧ t.en.lfsr = s.en.lfsr)
        ∧ (s.ent.state ∈ [EntState.unhealthy, .locked] →
          t.en.seedWait = true ∧ t.en.seedReq = true ∧ t.ent.waiting = [] ∧ t.ent.failed = inc8 s.ent.failed)
        ∧ ∀ l : Fin 8, t.links[l.val].held = true
          ∧ (l.val < portsFused s → t.links[l.val].phase = 1 ∧ t.links[l.val].quarantine = false))

/-- RUN, STOP and FAULT_ACK move the device between STOP, RUN and FAULT as Table 3-7 says, with SAFE_OK high in RUN alone; RUN
starts the engine with every block entered afresh and every signal encoded as 0 but the state words of what is kept; RUN in RUN and
STOP in STOP are OK and change nothing; in FAULT, MISMATCH and LOCKOUT both are WRONG_STATE, and so is RUN without an image or in
engine debug mode. A mode request is accepted in RUN and waits for the next scan, is BAD_PARAM for no mode or without a MODESEL, and
WRONG_STATE elsewhere (R169, R308, R309, R374, R377). -/
def Obligations.RunControl : Prop :=
  ∀ (s : State) (tag : BitVec 3) (csn : Word), Accepts tag s → InOrder csn s →
    let p (op : Byte) (params : List Byte) := seqPacket op tag csn params
    (∀ im, s.dev.dvState = .stop → s.dev.noConfig = false → s.en.debug = false → s.en.image = some im →
      s.ent.pool = [] ∨ s.ent.waiting = [] → Runs (.run tag csn []) s (fun t => Done (p 0x20 []) stOk [] t ∧ t.dev.dvState = .run ∧ t.dev.safeOk = true
        ∧ t.dev.faultN = true ∧ t.en.scanning = true ∧ t.en.blocks = enterStates im s.en.blocks
        ∧ t.en.words = enterWords im s.en.lfsr s.en.mode.entered (enterStates im s.en.blocks)))
    ∧ (s.dev.dvState = .stop → s.dev.noConfig = true ∨ s.en.debug = true → Runs (.run tag csn []) s (fun t =>
      Done (p 0x20 []) stWrongState [] t ∧ t.dev = s.dev ∧ t.en = s.en))
    ∧ (s.dev.dvState = .run → Runs (.run tag csn []) s (fun t => Done (p 0x20 []) stOk [] t ∧ t.dev = s.dev ∧ t.en = s.en))
    ∧ (s.dev.dvState = .stop → Runs (.stop tag csn []) s (fun t => Done (p 0x21 []) stOk [] t ∧ t.dev = s.dev ∧ t.en = s.en))
    ∧ (s.dev.dvState ∈ [DvState.fault, .mismatch, .lockout] →
      Runs (.run tag csn []) s (fun t => Done (p 0x20 []) stWrongState [] t ∧ t.dev = s.dev ∧ t.en = s.en)
      ∧ Runs (.stop tag csn []) s (fun t => Done (p 0x21 []) stWrongState [] t ∧ t.dev = s.dev ∧ t.en = s.en))
    ∧ (s.dev.dvState = .run → Runs (.stop tag csn []) s (fun t => Done (p 0x21 []) stOk [] t ∧ t.dev.dvState = .stop
      ∧ t.dev.safeOk = false ∧ t.dev.faultN = true ∧ t.en.scanning = false ∧ t.dev.handover = 0 ∧ t.en.holds = []))
    ∧ (s.dev.dvState = .fault → s.en.reverifyOk = true → s.en.reverify = false → faultStays s = false →
      Runs (.faultAck tag csn []) s (fun t => Done (p 0x24 []) stOk [] t ∧ t.dev.dvState = .stop ∧ t.dev.faultN = true))
    ∧ (s.dev.dvState ≠ .fault ∨ s.en.reverifyOk = false ∨ s.en.reverify = true ∨ faultStays s = true → Runs (.faultAck tag csn []) s (fun t =>
      Done (p 0x24 []) stWrongState [] t ∧ t.dev = s.dev))
    ∧ (∀ m : Byte, s.dev.dvState = .run → m.toNat ≤ 2 → hasModesel s = true →
      Runs (.setModeRequest tag csn [m, 0, 0, 0]) s (fun t => Started (p 0x22 [m, 0, 0, 0]) (.modeRequest m.toNat) t
        ∧ t.dev = s.dev ∧ t.en = s.en))
    ∧ (∀ m : Byte, s.dev.dvState = .run → 2 < m.toNat ∨ hasModesel s = false → Runs (.setModeRequest tag csn [m, 0, 0, 0]) s (fun t =>
      Done (p 0x22 [m, 0, 0, 0]) stBadParam [] t ∧ t.dev = s.dev ∧ t.en = s.en))
    ∧ (∀ m : Byte, s.dev.dvState ≠ .run → Runs (.setModeRequest tag csn [m, 0, 0, 0]) s (fun t =>
      Done (p 0x22 [m, 0, 0, 0]) stWrongState [] t ∧ t.dev = s.dev))

/-- TIME_SET, LEAP_ANNOUNCE and LEAP_CANCEL outside a lock set the counter, TB_UTC_OFFSET and the leap announcement at once and
answer the step; a TIME_SET at the next edge waits for it; in LOCKED_IRIG each is WRONG_STATE, with AT_PPS or without, and so is
each without AT_PPS in LOCKED_PPS; an offset above 255, both leap flags at once, and AT_PPS with no whole second or no valid PPS
are BAD_PARAM. TIME_SOURCE_SELECT selects the
source and, where that changes it, drops the quality to UNSYNC (R39, R46, R313, R314). -/
def Obligations.TimeCommands : Prop :=
  ∀ (s : State) (tag : BitVec 3) (csn : Word) (tai : DWord) (off : Half), Accepts tag s → InOrder csn s →
    let p (flags : Byte) := seqPacket 0x40 tag csn (timeSetParams tai off flags)
    let set (flags : Byte) (t : State) : Prop := Done (p flags) stOk (bytes8 (tai - s.tb.counter)) t ∧ t.tb.counter = tai
      ∧ t.tb.timeSetValid = true ∧ t.nv.live.utcOffset = off.setWidth 32 ∧ t.nv.stored.utcOffset = off.setWidth 32
    (off.toNat ≤ 255 → s.tb.quality.locked = false →
      Runs (.timeSet tag csn (timeSetParams tai off 0)) s (set 0)
      ∧ (∀ delete, Runs (.leapAnnounce tag csn tai off delete) s (fun t => set (if delete then 6 else 2) t
        ∧ t.tb.leapPending = true ∧ t.tb.leapDelete = delete))
      ∧ Runs (.leapCancel tag csn tai off) s (fun t => set 8 t ∧ t.tb.leapPending = false))
    ∧ (off.toNat ≤ 255 → tai.toNat % 1000000 = 0 → s.tb.quality ≠ .lockedIrig → s.tb.ppsValid = true →
      Runs (.timeSet tag csn (timeSetParams tai off 1)) s (fun t => Started (p 1) (.timeAtPps tai off 1) t ∧ t.tb = s.tb))
    ∧ (∀ flags : Byte, off.toNat ≤ 255 → (flags.getLsbD 1 && flags.getLsbD 3) = false →
      flags.getLsbD 0 = false ∨ tai.toNat % 1000000 = 0 →
      s.tb.quality = .lockedIrig ∨ (s.tb.quality = .lockedPps ∧ flags.getLsbD 0 = false) →
      Runs (.timeSet tag csn (timeSetParams tai off flags)) s (fun t => Done (p flags) stWrongState [] t ∧ t.tb = s.tb))
    ∧ (off.toNat ≤ 255 → s.tb.quality.locked = true →
      (∀ delete, Runs (.leapAnnounce tag csn tai off delete) s (fun t => Done (p (if delete then 6 else 2)) stWrongState [] t
        ∧ t.tb = s.tb))
      ∧ Runs (.leapCancel tag csn tai off) s (fun t => Done (p 8) stWrongState [] t ∧ t.tb = s.tb))
    ∧ (∀ flags : Byte, 255 < off.toNat ∨ (flags.getLsbD 1 && flags.getLsbD 3) = true
        ∨ (flags.getLsbD 0 = true ∧ (tai.toNat % 1000000 ≠ 0 ∨ (s.tb.quality ≠ .lockedIrig ∧ s.tb.ppsValid = false))) →
      Runs (.timeSet tag csn (timeSetParams tai off flags)) s (fun t => Done (p flags) stBadParam [] t ∧ t.tb = s.tb))
    ∧ (∀ n : Byte, n.toNat ≤ 3 → Runs (.timeSourceSelect tag csn [n, 0, 0, 0]) s (fun t =>
      Done (seqPacket 0x42 tag csn [n, 0, 0, 0]) stOk [n] t ∧ t.set = { s.set with src := n.setWidth 2 }
        ∧ t.tb.quality = (if s.set.src = n.setWidth 2 then s.tb.quality else .unsync) ∧ t.tb.counter = s.tb.counter))

/-- JOURNAL_ACK moves the acknowledgement pointer forward, never back and never beyond the head, and answers it with the records
still unacknowledged (R253, R311). -/
def Obligations.JournalAck : Prop :=
  ∀ (s : State) (tag : BitVec 3) (csn a : Word), Accepts tag s → InOrder csn s →
    let p := seqPacket 0x31 tag csn (bytes4 a)
    (a ≠ 0 → a ≠ s.nv.live.ack → seqBefore a s.nv.live.ack = false → seqBefore (touchBus s).nv.head a = false →
      Runs (.journalAck tag csn (bytes4 a)) s (fun t => t.nv.live.ack = a ∧ t.nv.stored.ack = a
        ∧ Done p stOk (bytes4 a ++ leBytes 4 (jrUnack t)) t))
    ∧ (a ≠ 0 → a = s.nv.live.ack ∨ seqBefore a s.nv.live.ack = true → Runs (.journalAck tag csn (bytes4 a)) s (fun t =>
      Done p stOk (bytes4 s.nv.live.ack ++ leBytes 4 (jrUnack t)) t ∧ CommandStore s t))
    ∧ (a = 0 ∨ (a ≠ s.nv.live.ack ∧ seqBefore a s.nv.live.ack = false ∧ seqBefore (touchBus s).nv.head a = true) →
      Runs (.journalAck tag csn (bytes4 a)) s (fun t => Done p stBadParam [] t ∧ CommandStore s t))

/-- OUTPUT_TEST_NOW and LEARN_PULSES queue their run-time word for each link concerned and wait for the ports' reports (R118, R127,
R319, R320). OUTPUT_TEST_NOW is WRONG_STATE outside STOP and RUN and for a link that is not up, LEARN_PULSES outside STOP and where
a link is not up; a selection of nothing, or of a channel that is not enabled, is BAD_PARAM. -/
def Obligations.PortCommands : Prop :=
  ∀ (s : State) (tag : BitVec 3) (csn : Word), Accepts tag s → InOrder csn s →
    (∀ (n : Fin 8) (m : BitVec 6), stateRunStop s = true → s.links[n.val].phase = 6 → m ≠ 0 → channelsEnabled n.val m s = true →
      let params : List Byte := [BitVec.ofNat 8 n.val, m.setWidth 8, 0, 0]
      Runs (.outputTestNow tag csn params) s (fun t =>
        Started (seqPacket 0x62 tag csn params) (.outputTest n m 0 0 s.clock) t
          ∧ t.links[n.val] = { s.links[n.val] with
            testing := m, writes := s.links[n.val].writes ++ [(0x84, m.setWidth 16)] }
          ∧ ∀ l : Fin 8, l ≠ n → t.links[l.val] = s.links[l.val]))
    ∧ (∀ (n : Fin 8) (m : Byte), s.links[n.val].phase ≠ 6 →
      let params : List Byte := [BitVec.ofNat 8 n.val, m, 0, 0]
      Runs (.outputTestNow tag csn params) s (fun t =>
        Done (seqPacket 0x62 tag csn params) stWrongState [] t ∧ t.links = s.links))
    ∧ (∀ n m : Byte, stateRunStop s = false →
      let params : List Byte := [n, m, 0, 0]
      Runs (.outputTestNow tag csn params) s (fun t =>
        Done (seqPacket 0x62 tag csn params) stWrongState [] t ∧ t.links = s.links))
    ∧ (∀ (n : Fin 8) (m : BitVec 6), stateRunStop s = true → s.links[n.val].phase = 6 →
      m = 0 ∨ channelsEnabled n.val m s = false →
      let params : List Byte := [BitVec.ofNat 8 n.val, m.setWidth 8, 0, 0]
      Runs (.outputTestNow tag csn params) s (fun t =>
        Done (seqPacket 0x62 tag csn params) stBadParam [] t ∧ t.links = s.links))
    ∧ (∀ ports sources : Byte, s.dev.dvState ≠ .stop ∨ (ports ≠ 0 ∧ sources ≠ 0 ∧ linksUp ports s = false) →
      let params : List Byte := [ports, sources, 0, 0]
      Runs (.learnPulses tag csn params) s (fun t =>
        Done (seqPacket 0x63 tag csn params) stWrongState [] t ∧ t.links = s.links))
    ∧ (∀ ports sources : Byte, s.dev.dvState = .stop → ports = 0 ∨ sources = 0 →
      let params : List Byte := [ports, sources, 0, 0]
      Runs (.learnPulses tag csn params) s (fun t =>
        Done (seqPacket 0x63 tag csn params) stBadParam [] t ∧ t.links = s.links))
    ∧ (∀ ports sources : Byte, s.dev.dvState = .stop → linksUp ports s = true → ports ≠ 0 → sources ≠ 0 →
      (∃ q : Fin 8, ports.getLsbD q.val = true ∧ learnInputs q.val sources s ≠ []) →
      let params : List Byte := [ports, sources, 0, 0]
      Runs (.learnPulses tag csn params) s (fun t => Started (seqPacket 0x63 tag csn params) (.learn ports sources []) t
        ∧ ∀ l : Fin 8, t.links[l.val] = if ports.getLsbD l.val then
            { s.links[l.val] with writes := s.links[l.val].writes ++ [(0x83, sources.setWidth 16)] }
          else s.links[l.val]))

/-- The commands to the strip (R321, R359, R362, R364): PAUSE and RESUME set and clear PAUSED, FEED asks for its blank lines after the
last printed one and is done where they have been fed, TEST_LINE asks for the test line of its CSN once, behind those that wait, PRINT_TEXT queues a line behind the records committed so far
and is WINDOW_FULL with eight waiting. -/
def Obligations.PrinterCommands : Prop :=
  ∀ (s : State) (tag : BitVec 3) (csn : Word), Accepts tag s → InOrder csn s →
    let p (a b : Byte) := seqPacket 0x70 tag csn [a, b, 0, 0]
    Runs (.pause tag csn) s (fun t => Done (p 1 0) stOk (bytes4 (wpReg 0 t)) t ∧ t.set = { s.set with paused := true }
      ∧ t.wp = s.wp)
    ∧ Runs (.resume tag csn) s (fun t => Done (p 2 0) stOk (bytes4 (wpReg 0 t)) t
      ∧ t.set = { s.set with paused := false }
      ∧ t.wp.gated = (s.wp.gated && !(s.wp.jamWait && s.wp.sensors == 0)))
    ∧ (∀ n : Byte, n ≠ 0 → s.nv.live.feedDone ≠ csn → s.nv.live.feed.map Prod.fst ≠ some csn →
      Runs (.feed tag csn n) s (fun t => Done (p 3 n) stOk (bytes4 (wpReg 0 t)) t ∧ t.set = s.set
        ∧ (n.toNat ≤ blanksFed s.wp → t.nv.live.feed = none ∧ t.nv.live.feedDone = csn)
        ∧ (blanksFed s.wp < n.toNat → t.nv.live.feed = some (csn, n.toNat) ∧ feedLeft t = n.toNat - blanksFed s.wp)))
    ∧ Runs (.feed tag csn 0) s (fun t => Done (p 3 0) stBadParam [] t ∧ CommandStore s t)
    ∧ (s.nv.live.testDone ≠ csn → csn ∉ s.nv.live.testReq → Runs (.testLine tag csn) s (fun t =>
      Done (p 4 0) stOk (bytes4 (wpReg 0 t)) t ∧ t.nv.live.testReq = s.nv.live.testReq ++ [csn]
        ∧ t.nv.stored.testReq = s.nv.live.testReq ++ [csn]))
    ∧ (s.nv.live.testDone = csn ∨ csn ∈ s.nv.live.testReq → Runs (.testLine tag csn) s (fun t =>
      Done (p 4 0) stOk (bytes4 (wpReg 0 t)) t ∧ t.nv.live.testReq = s.nv.live.testReq ∧ CommandStore s t))
    ∧ (∀ line : List Byte, 1 ≤ line.length → line.length ≤ 30 → (∀ b ∈ line, 0x20 ≤ b.toNat ∧ b.toNat ≤ 0x7E) →
      (∀ x ∈ s.nv.live.text, x.csn ≠ csn) →
      (s.nv.live.text.length < 8 → Runs (.printText tag csn line) s (fun t =>
        Done (seqPacket 0x71 tag csn line) stOk [BitVec.ofNat 8 (s.nv.live.text.length + 1), 0, 0, 0] t
          ∧ t.nv.live.text = s.nv.live.text ++ [{ csn := csn, bytes := line, after := (touchBus s).nv.head }]))
      ∧ (8 ≤ s.nv.live.text.length → Runs (.printText tag csn line) s (fun t =>
        Done (seqPacket 0x71 tag csn line) stWindowFull [] t ∧ CommandStore s t)))

/-- FUSE_PROGRAM in STOP within 0 to 100 °C (R323, R341): a row whose bits may be blown gets the requested data, without
reserved bits, and, being whole, its check field; equal content changes nothing; a bit that would have to be cleared is
BAD_PARAM; a write-locked row is LOCKED. PATCH_INSTALL in STOP on two macros (R324, R343): BEGIN opens a transfer, DATA writes
its bytes and no other, FINISH of a set that passes every check writes it to both macros and closes the transfer. The model's
reading: the result byte of a repeated FUSE_PROGRAM (log entry 107), and a count of distinct bytes received (log entry 62). -/
def Obligations.FusesAndPatches : Prop :=
  (∀ (s : State) (tag : BitVec 3) (csn : Word) (r : Fin 32) (want : BitVec 128), Accepts tag s → InOrder csn s →
      s.dev.dvState = .stop → 64 ≤ s.dev.dieTemp.toNat → s.dev.dieTemp.toNat ≤ 164 →
      let params : List Byte := [BitVec.ofNat 8 r.val, 0, 0, 0] ++ leBytes 16 want.toNat
      let p := seqPacket 0x81 tag csn params
      let w := want &&& rowBits r.val
      let open' := writeLocked s.fu (rowRegion r.val) && !rowStep r.val
      (open' = false → fuseVerdict r.val w s.fu = .blow → (freeSpare s.fu).isSome = true → rowFails s.fu r.val = false →
        Runs (.fuseProgram tag csn params) s (fun t => Done p stOk [BitVec.ofNat 8 r.val, 0, 0, 0] t
          ∧ (t.fu.rowNow r.val).data = w ∧ t.fu = s.fu.putRow r.val (s.fu.written r.val w) ∧ t.ports = s.ports))
      ∧ (open' = false → fuseVerdict r.val w s.fu = .nothing → Runs (.fuseProgram tag csn params) s (fun t =>
        Done p stOk [BitVec.ofNat 8 r.val, sameResult s.fu r.val, 0, 0] t ∧ t.fu = s.fu))
      ∧ (open' = false → fuseVerdict r.val w s.fu = .badParam → Runs (.fuseProgram tag csn params) s (fun t =>
        Done p stBadParam [] t ∧ t.fu = s.fu))
      ∧ (open' = true → Runs (.fuseProgram tag csn params) s (fun t => Done p stLocked [] t ∧ t.fu = s.fu)))
  ∧ (∀ (s : State) (tag : BitVec 3) (csn n : Word), Accepts tag s → InOrder csn s → s.dev.dvState = .stop →
      degraded s = false →
      (344 ≤ n.toNat → n.toNat ≤ 16384 → Runs (.patchInstallBegin tag csn n) s (fun t =>
        Done (seqPacket 0x82 tag csn ([0, 0, 0, 0] ++ bytes4 n)) stOk [0, 0, 0, 0, 0, 0, 0, 0] t
          ∧ t.fu.xfer = some (n.toNat, [], 0)))
      ∧ (∀ (len : Nat) (body : Memory) (got : Nat) (b : List Byte), s.fu.xfer = some (len, body, got) →
        Memory.wf body = true → 1 ≤ b.length → b.length ≤ 500 → n.toNat + b.length ≤ len →
        Runs (.patchInstallData tag csn n b) s (fun t => ∃ x, t.fu.xfer = some x ∧ x.1 = len
          ∧ Done (seqPacket 0x82 tag csn ([1, 0, 0, 0] ++ bytes4 n ++ b)) stOk (patchReply 1 0 (xferReceived x)) t
          ∧ (∀ i, x.2.2.testBit i = (got.testBit i || (decide (n.toNat ≤ i) && decide (i < n.toNat + b.length))))
          ∧ ∀ a : Nat, Memory.read x.2.1 a =
            if n.toNat ≤ a ∧ a < n.toNat + b.length then byteAt b (a - n.toNat) else Memory.read body a))
      ∧ (∀ (body : Memory) (got : Nat), s.fu.xfer = some (n.toNat, body, got) →
        let b := Memory.readBytes body 0 n.toNat
        patchVerdict s.fu (antiRollback s) b = 0 → Runs (.patchInstallFinish tag csn n) s (fun t =>
          Done (seqPacket 0x82 tag csn ([2, 0, 0, 0] ++ bytes4 n)) stOk (patchReply 2 0 (patchVersion b).toNat) t
            ∧ t.nv.patchA = b ∧ t.nv.patchB = b ∧ t.fu.xfer = none)))

/-- Fuses only go from 0 to 1 (R323): whatever step is taken, no blown bit is cleared of the data and the check field of a row or of
a spare, nor of a copy of the redirection table, and the ROM stays as it is; so that no lock is cleared while the latched table
stands (R337). -/
def Obligations.FusesStay : Prop :=
  ∀ s t : State, step s = .next t →
    let grows (a b : FuseRow) : Prop := a.data &&& ~~~b.data = 0 ∧ a.check &&& ~~~b.check = 0
    t.fu.rom = s.fu.rom ∧ t.fu.badRows = s.fu.badRows ∧ (∀ r : Fin 32, grows s.fu.rows[r.val] t.fu.rows[r.val])
      ∧ (∀ k : Fin 2, grows s.fu.spares[k.val] t.fu.spares[k.val])
      ∧ (∀ i : Fin 3, s.fu.redirect[i.val] &&& ~~~t.fu.redirect[i.val] = 0)
      ∧ (t.fu.redirUsed = s.fu.redirUsed → ∀ g : Fin 8, (writeLocked s.fu g.val = true → writeLocked t.fu g.val = true)
        ∧ (readLocked s.fu g.val = true → readLocked t.fu g.val = true))

/-- RESET_DEVICE commits its outcome and then asserts the reset, WARM keeping the time counter and COLD losing it; ENTER_DORMANT
with WAKE low stops the engine and reaches DORMANT_ENTRY, and with WAKE high is WRONG_STATE; ENTROPY_RETEST restarts the
start-up test of an unhealthy source and is refused for a healthy and for a locked one (R70, R240, R325). -/
def Obligations.DeviceCommands : Prop :=
  ∀ (s : State) (tag : BitVec 3) (csn : Word), Accepts tag s → InOrder csn s →
    let p (op : Byte) (params : List Byte) := seqPacket op tag csn params
    let reset (params : List Byte) (t : State) : Prop := t.dev.phase = .inReset ∧ t.cm = Cmd.new ∧ t.nv.lastE = csn
      ∧ t.nv.chains = [] ∧ outcomeOf csn t = some (outcomeEntry (p 0x90 params) stOk [])
      ∧ t.aorf.resetCount = inc8 s.aorf.resetCount
    Runs (.resetDeviceWarm tag csn) s (fun t => reset [0, 0, 0, 0] t ∧ t.dev.cause = 7 ∧ t.tb.counter = s.tb.counter)
    ∧ Runs (.resetDeviceCold tag csn) s (fun t => reset [1, 0, 0, 0] t ∧ t.dev.cause = 6 ∧ t.tb.counter = 0)
    ∧ Runs (.enterDormant tag csn [] false) s (fun t => Started (p 0x91 []) .dormant t ∧ t.dev.dvState = .dormantEntry
      ∧ t.dev.safeOk = false ∧ t.en.scanning = false)
    ∧ Runs (.enterDormant tag csn [] true) s (fun t => Done (p 0x91 []) stWrongState [] t
      ∧ t.dev.dvState = s.dev.dvState ∧ t.en = s.en)
    ∧ (s.ent.state = .unhealthy → Runs (.entropyRetest tag csn []) s (fun t => Started (p 0x58 []) (.retest true) t
      ∧ t.ent = { s.ent.afresh with state := .startup }))
    ∧ (s.ent.state = .healthy → Runs (.entropyRetest tag csn []) s (fun t => Done (p 0x58 []) stWrongState [] t
      ∧ t.ent = s.ent))
    ∧ (s.ent.state = .locked → Runs (.entropyRetest tag csn []) s (fun t => Done (p 0x58 []) stLocked [] t
      ∧ t.ent = s.ent))

/-- What the commands leave unchanged: beside the bus, the replies, the events and the store, staging, JOURNAL_ACK, the mode
request and the print requests change nothing; a write of settings changes the settings, the AORF and the pins and registers it
names; a time command the time base; the commands to ports the links; the fuse and patch commands the fuses; run control leaves
time, settings, ports and the strip. None but staging writes a bank, and none but PATCH_INSTALL the patch set (R65, R304, R308,
R343). -/
def Obligations.CommandFrames : Prop :=
  ∀ (s : State) (tag : BitVec 3) (csn w : Word) (p : List Byte) (n : Byte) (k : Fin 8) (tai : DWord) (off : Half) (x : Bool),
    Accepts tag s → InOrder csn s →
    let keepsStore (t : State) : Prop := t.nv.bankA = s.nv.bankA ∧ t.nv.bankB = s.nv.bankB ∧ t.nv.patchA = s.nv.patchA
      ∧ t.nv.patchB = s.nv.patchB
    (∀ i ∈ [Instr.stageConfigBegin tag csn p, .stageConfigData tag csn p, .stageConfigCommit tag csn p, .discardStaged tag csn p],
      Runs i s (fun t => HostFrame { s with dev := t.dev } t ∧ t.dev = { s.dev with discarded := t.dev.discarded }
        ∧ activeBank t = activeBank s ∧ t.nv.patchA = s.nv.patchA ∧ t.nv.patchB = s.nv.patchB))
    ∧ (∀ i ∈ [Instr.journalAck tag csn p, .setModeRequest tag csn p, .feed tag csn n, .testLine tag csn, .printText tag csn p],
      Runs i s (fun t => HostFrame s t ∧ keepsStore t))
    ∧ (∀ i ∈ [Instr.setEventEnables tag csn p, .pause tag csn], Runs i s (fun t =>
      HostFrame { s with aorf := t.aorf, set := t.set } t ∧ keepsStore t ∧ t.aorf.user = s.aorf.user))
    ∧ Runs (.resume tag csn) s (fun t => HostFrame { s with aorf := t.aorf, set := t.set, wp := t.wp } t ∧ keepsStore t)
    ∧ (∀ i ∈ [Instr.enSnapHold tag csn, .enSnapRelease tag csn, .evPendingClear tag csn k w], Runs i s (fun t =>
      HostFrame { s with aorf := t.aorf, en := t.en } t ∧ keepsStore t))
    ∧ Runs (.writeHrf tag csn p) s (fun t => HostFrame { s with aorf := t.aorf, set := t.set, en := t.en, dev := t.dev } t
      ∧ keepsStore t ∧ t.dev = { s.dev with defaultsRestored := t.dev.defaultsRestored, tsyncOut := t.dev.tsyncOut }
      ∧ t.en = { s.en with hold := t.en.hold, snapRead := t.en.snapRead, snapAddr := t.en.snapAddr })
    ∧ (∀ i ∈ [Instr.timeSet tag csn p, .leapAnnounce tag csn tai off x, .leapCancel tag csn tai off], Runs i s (fun t =>
      HostFrame { s with tb := t.tb, dev := t.dev } t ∧ keepsStore t ∧ t.dev = { s.dev with tsyncOut := t.dev.tsyncOut }))
    ∧ Runs (.timeSourceSelect tag csn p) s (fun t =>
      HostFrame { s with tb := t.tb, dev := t.dev, set := t.set, aorf := t.aorf } t ∧ keepsStore t
        ∧ t.dev = { s.dev with tsyncOut := t.dev.tsyncOut } ∧ t.set = { s.set with src := t.set.src })
    ∧ (∀ i ∈ [Instr.outputTestNow tag csn p, .learnPulses tag csn p], Runs i s (fun t =>
      HostFrame { s with links := t.links } t ∧ keepsStore t))
    ∧ Runs (.entropyRetest tag csn p) s (fun t => HostFrame { s with ent := t.ent } t ∧ keepsStore t)
    ∧ Runs (.fuseProgram tag csn p) s (fun t => HostFrame { s with fu := t.fu } t ∧ keepsStore t)
    ∧ (∀ i ∈ [Instr.patchInstallBegin tag csn w, .patchInstallData tag csn w p, .patchInstallFinish tag csn w], Runs i s (fun t =>
      HostFrame { s with fu := t.fu } t ∧ t.fu = { s.fu with xfer := t.fu.xfer } ∧ t.nv.bankA = s.nv.bankA
        ∧ t.nv.bankB = s.nv.bankB))
    ∧ (∀ i ∈ [Instr.run tag csn p, .stop tag csn p, .faultAck tag csn p, .enterDormant tag csn p x], Runs i s (fun t =>
      keepsStore t ∧ t.tb = s.tb ∧ t.set = s.set ∧ t.aorf = s.aorf ∧ t.ports = s.ports ∧ t.wp = s.wp ∧ t.fu = s.fu
        ∧ t.short = s.short ∧ t.sram = s.sram ∧ t.clock = s.clock ∧ t.pending = s.pending))
    ∧ Runs (.activateConfig tag csn p) s (fun t => keepsStore t ∧ t.tb = s.tb ∧ t.ports = s.ports ∧ t.wp = s.wp
      ∧ t.fu.rows = s.fu.rows ∧ t.sram = s.sram ∧ t.clock = s.clock)

/-! ## The command layer -/

/-- A CSN given again has no effect but its answer, whatever sequenced command carries it (R286): DUPLICATE with the status and data of the original reply where the
CSN was accepted and the CRC agrees, ACCEPTED standing for an outcome still to come; CSN_GAP_TIMEOUT where it was skipped;
CSN_OUT_OF_WINDOW where the CRC differs or the outcome slot holds another CSN. -/
def Obligations.ExactlyOnce : Prop :=
  ∀ (s : State) (i : Instr) (tag : BitVec 3) (csn : Word) (op : Byte) (params : List Byte),
    sentSequenced i = some (tag, csn, op, params) →
    Accepts tag s → csn ≠ 0 → params.length ≤ 508 → StoreTakes s →
    let p := seqPacket op tag csn params
    let unchanged (t : State) : Prop := HostFrame { s with dev := { s.dev with wakePin := t.dev.wakePin } } t ∧ EventStore s t
    let refused : Prop := Runs i s (fun t => Answered p stOutOfWindow [] t ∧ t.cm.errWindow = inc8 s.cm.errWindow
      ∧ unchanged t)
    (∀ c, chainOf csn s = some c →
      (c.crc = p.crc → Runs i s (fun t => t.cm.replies.getLast? = some (finalReply p stDuplicate stAccepted [])
        ∧ unchanged t))
      ∧ (c.crc ≠ p.crc → refused))
    ∧ (chainOf csn s = none → seqDist csn s.nv.lastE ≤ 63 →
      (∀ o, outcomeOf csn s = some o →
        (o.skip = true → Runs i s (fun t => Answered p stGapTimeout [] t ∧ unchanged t))
        ∧ (o.skip = false → o.crc = p.crc → Runs i s (fun t =>
          t.cm.replies.getLast? = some (finalReply p stDuplicate o.status o.data) ∧ unchanged t))
        ∧ (o.skip = false → o.crc ≠ p.crc → refused))
      ∧ (outcomeOf csn s = none → refused))

/-- A missing CSN that holds up the one waiting command for 500 ms is skipped (R289): E moves to the waiting command, which is
answered CSN_GAP_TIMEOUT without being executed, and CSN_GAP_TIMEOUT is journalled with the number skipped. -/
def Obligations.GapTimeout : Prop :=
  ∀ (s : State) (c : Chain), live s = true → stateAll s = true → s.db.coreHalted = false → s.cm.running = none →
    s.nv.chains = [c] → c.csn ≠ 0 → 2 ≤ seqDist s.nv.lastE c.csn → seqDist s.nv.lastE c.csn ≤ 8 → JournalOpen s → StoreTakes s →
    Runs .commandGapTimeout s (fun t => t.nv.lastE = c.csn ∧ t.nv.chains = [] ∧ gapUs t = 0
      ∧ outcomeOf c.csn t = some (closedEntry c stGapTimeout) ∧ t.cm.gapTimeouts = inc8 s.cm.gapTimeouts
      ∧ (∃ o, outcomeOf (seqNext s.nv.lastE) t = some o ∧ o.skip = true)
      ∧ Answered ⟨c.opcode, c.ctrl, c.csn, []⟩ stGapTimeout [] t
      ∧ Gained [eventOf 229 0x0D03 .warning
        (argOf [(0, c.csn.toNat), (4, c.opcode.toNat), (5, seqDist s.nv.lastE c.csn - 1)]) s] s t
      ∧ t.dev = s.dev ∧ t.en = s.en ∧ t.set = s.set ∧ t.links = s.links)

/-- Raw bytes at the CMD window (R264, R284, R298): a tag in flight discards the packet; a length that does not agree is
BAD_LENGTH; a wrong CRC is BAD_CRC; an opcode that does not exist is UNKNOWN_OPCODE, whatever its fields; fields that do not fit
the opcode's class are BAD_PARAM; none executes, and the first three count. A 519th byte is not acknowledged. While the core is
halted one packet is kept, for the whole of the halt as the model chooses (log entry 49), and the next is not acknowledged. -/
def Obligations.PacketChecks : Prop :=
  (∀ (s : State) (b : List Byte), 518 < b.length → Runs (.cmdPacketRefused b) s (fun t => t.hb.nacked = true))
  ∧ ∀ (s : State) (b : List Byte), busServes s = true → b ≠ [] → b.length ≤ 518 →
    let p := packetOf b
    let n := leAt b 2 2
    let whole : Prop := 6 ≤ b.length ∧ n ≤ 512 ∧ b.length = n + 6
    (s.db.coreHalted = false → tagBusy p s = true → Runs (.cmdPacketRefused b) s (fun t =>
      t.cm = { s.cm with errBusy := inc8 s.cm.errBusy } ∧ HostFrame s t ∧ EventStore s t))
    ∧ (s.db.coreHalted = false → tagBusy p s = false → ¬ whole → Runs (.cmdPacketRefused b) s (fun t =>
      Answered p stBadLength [] t ∧ t.cm.errLength = inc8 s.cm.errLength ∧ HostFrame s t ∧ EventStore s t))
    ∧ (s.db.coreHalted = false → tagBusy p s = false → whole → crc16 (b.take (n + 4)) ≠ halfAt b (n + 4) →
      Runs (.cmdPacketRefused b) s (fun t => Answered p stBadCrc [] t ∧ t.cm.errCrc = inc8 s.cm.errCrc
        ∧ HostFrame s t ∧ EventStore s t))
    ∧ (s.db.coreHalted = false → tagBusy p s = false → whole → crc16 (b.take (n + 4)) = halfAt b (n + 4) →
      opSequenced p.opcode = none → Runs (.cmdPacketRefused b) s (fun t =>
        Answered p stUnknown [] t ∧ HostFrame s t ∧ EventStore s t))
    ∧ (∀ seq, s.db.coreHalted = false → tagBusy p s = false → whole → crc16 (b.take (n + 4)) = halfAt b (n + 4) →
      opSequenced p.opcode = some seq → fieldsOk p n seq = false → Runs (.cmdPacketRefused b) s (fun t =>
        Answered p stBadParam [] t ∧ HostFrame s t ∧ EventStore s t))
    ∧ (s.db.coreHalted = true → s.cm.buffer = none → Runs (.cmdPacketRefused b) s (fun t =>
      t.cm = { s.cm with buffer := some b } ∧ HostFrame s t ∧ EventStore s t))
    ∧ (∀ b', s.db.coreHalted = true → s.cm.buffer = some b' → Runs (.cmdPacketRefused b) s (fun t =>
      t = { s with hb := { s.hb with nacked := true, readData := [] } }))

/-! ## Windows, attention and the journal -/

/-- The windows (R235, R265 to R269, R282): a reply clocked out whole leaves the queue and, being final, frees its tag; one
clocked out in part stays; an empty queue reads as length 0; all 16 bytes of STAT clear the causes. A whole SFL frame written
joins the inbound queue, a part-frame is counted and lost, and a frame that meets a full queue is refused at its first byte and
counted as a loss; a frame read whole leaves the outbound queue; four bytes set the journal pointer, which moves past each
record clocked out. That an acknowledged STAT read ends the episode of a stuck bus is the model's reading (log entry 106). -/
def Obligations.Windows : Prop :=
  (∀ (s : State) (n : Nat), busServes s = true →
      (s.cm.replies = [] → Runs (.cmdReplyRead n) s (fun t => t.hb.readData = clockOut n [0, 0] ∧ t.cm = s.cm
        ∧ HostFrame s t ∧ EventStore s t))
      ∧ (∀ r rest, s.cm.replies = r :: rest →
        (r.bytes.length + 2 ≤ n → Runs (.cmdReplyRead n) s (fun t =>
          t.hb.readData = clockOut n (leBytes 2 r.bytes.length ++ r.bytes) ∧ t.cm.replies = rest
            ∧ (r.final = true → t.cm.inFlight = s.cm.inFlight &&& ~~~tagBit (tagOf r.ctrl))
            ∧ (r.final = false → t.cm.inFlight = s.cm.inFlight) ∧ HostFrame s t ∧ EventStore s t))
        ∧ (n < r.bytes.length + 2 → Runs (.cmdReplyRead n) s (fun t => t.cm = s.cm ∧ HostFrame s t)))
      ∧ (16 ≤ n → Runs (.statRead n) s (fun t => t.hb.readData = clockOut n (statBlock (touchBus s)) ∧ t.hb.causes = 0
        ∧ t.hb.attnDue = false ∧ t.hb.backoff = false ∧ t.hb.stuck = false ∧ t.hb.silentUs = 0 ∧ HostFrame s t
        ∧ EventStore s t))
      ∧ (n < 16 → Runs (.statRead n) s (fun t => t.hb.readData = clockOut n (statBlock (touchBus s))
        ∧ t.hb.causes = (touchBus s).hb.causes ∧ HostFrame s t)))
  ∧ (∀ (s : State) (b : List Byte) (n : Nat), busServes s = true →
      (b.length = 32 → s.sf.inq.length < 64 → s.dev.dvState ∈ [DvState.stop, .run, .fault] →
        Runs (.sflWindowWrite b) s (fun t => t.sf.inq = s.sf.inq ++ [b] ∧ t.hb.errPart = s.hb.errPart
          ∧ t.sf.inLoss = 0 ∧ t.sf.outq = s.sf.outq))
      ∧ (b ≠ [] → b.length < 32 → s.sf.inq.length < 64 ∨ s.dev.dvState ∈ [DvState.mismatch, .lockout] →
        Runs (.sflWindowWrite b) s (fun t => t.sf = s.sf ∧ t.hb.errPart = inc8 s.hb.errPart))
      ∧ (b ≠ [] → b.length ≤ 32 → 64 ≤ s.sf.inq.length → s.dev.dvState ∈ [DvState.stop, .run, .fault] →
        Runs (.sflWindowWrite b) s (fun t => t.hb.nacked = true ∧ t.hb.errPart = s.hb.errPart
          ∧ t.sf = { s.sf with inLoss := s.sf.inLoss + 1, lossIn := inc8 s.sf.lossIn }))
      ∧ Runs (.sflWindowRead n) s (fun t => t.sf = { s.sf with outq := s.sf.outq.drop ((n - 1) / 32) }
        ∧ t.hb.readData = clockOut n (BitVec.ofNat 8 s.sf.outq.length :: s.sf.outq.flatten))
      ∧ (b.length = 4 → Runs (.jrnlPointerWrite b) s (fun t => t.hb.jptr = wordAt b 0 ∧ HostFrame s t ∧ EventStore s t))
      ∧ (b.length ≠ 4 → Runs (.jrnlPointerWrite b) s (fun t => t.hb.jptr = s.hb.jptr ∧ HostFrame s t ∧ EventStore s t))
      ∧ Runs (.jrnlWindowRead n) s (fun t =>
        let o := jrnlOffer (touchBus s)
        t.hb.readData = clockOut n ([o.1, BitVec.ofNat 8 o.2.length] ++ o.2.flatMap Record.bytes)
          ∧ t.hb.jptr = seqAdd s.hb.jptr (min o.2.length ((n - 2) / 32)) ∧ HostFrame s t ∧ EventStore s t))

/-- Attention (R271 to R275): a period makes a write due, and none queues behind one that still waits; an acknowledged write is
done; one not acknowledged is counted; a lost arbitration is retried after its backoff, and the sixteenth ends the attempt; a
stretch of 10 ms abandons it. A disturbed bus and a silent host (R276, R277): each is reported with BUS_STUCK or HOST_SILENT, a
held line once for each episode. -/
def Obligations.Attention : Prop :=
  (∀ (s : State) (u : Byte), attentionSent s = true →
      let attempt (i : BusResult → Instr) : Prop :=
        Runs (i .acked) s (fun t => t.hb.sent = attentionRecord s ∧ t.hb.attnDue = false ∧ t.hb.errNack = s.hb.errNack
          ∧ t = { s with hb := t.hb })
        ∧ Runs (i .nacked) s (fun t => t.hb.sent = attentionRecord s ∧ t.hb.attnDue = false
          ∧ t.hb.errNack = inc8 s.hb.errNack ∧ t = { s with hb := t.hb })
        ∧ (s.hb.losses < 15 → Runs (i (.lost u)) s (fun t => t.hb.errArb = inc8 s.hb.errArb ∧ t.hb.attnDue = true
          ∧ t.hb.backoff = true ∧ t.hb.losses = s.hb.losses + 1 ∧ t = { s with hb := t.hb }))
        ∧ (15 ≤ s.hb.losses → Runs (i (.lost u)) s (fun t => t.hb.errArb = inc8 s.hb.errArb ∧ t.hb.attnDue = false
          ∧ t.hb.backoff = false ∧ t.hb.losses = 0 ∧ t = { s with hb := t.hb }))
      (s.hb.attnDue = false → exec .attentionPeriod s =
        .next { s with hb := { s.hb with attnDue := true, backoff := false, losses := 0 } })
      ∧ (s.hb.attnDue = true → exec .attentionPeriod s = .next s)
      ∧ (s.hb.attnDue = true → s.hb.backoff = false → attempt .attentionWrite)
      ∧ (s.hb.attnDue = true → s.hb.backoff = true → attempt .attentionBackoffEnd)
      ∧ (s.hb.attnDue = true → Runs .stretchTimeout s (fun t => t.hb.attnDue = false
        ∧ t.hb.errPart = inc8 s.hb.errPart ∧ t = { s with hb := t.hb })))
  ∧ (∀ s : State, JournalOpen s →
      (busServes s = true → Runs .targetTimeout s (fun t => t.hb.errTarget = inc8 s.hb.errTarget
        ∧ Gained [eventOf 233 0x0C03 .warning (argOf [(0, 1)]) s] s t ∧ EventFrame s t))
      ∧ (attentionSent s = true → s.hb.attnDue = true → s.hb.stuck = false → Runs .lineHeldLow s (fun t => t.hb.stuck = true
        ∧ Gained [eventOf 233 0x0C03 .warning (argOf [(0, 2)]) s] s t ∧ EventFrame s t))
      ∧ (s.hb.stuck = true → exec .lineHeldLow s = .next s)
      ∧ (live s = true → s.hb.silenceOn = true → s.hb.silent = false → s.set.silence ≠ 0 → Runs .hostSilence s (fun t =>
        t.hb.silent = true ∧ s.set.silence.toNat * 1000 ≤ t.hb.silentUs
          ∧ Gained [eventOf 233 0x0C01 .warning (argOf [(0, s.set.silence.toNat)]) s] s t ∧ EventFrame s t))
      ∧ (s.set.silence = 0 → exec .hostSilence s = .next s))

/-- The journal writer (R249, R250, R255, R258): the oldest queued event becomes the next record in both macros; a write that
fails three times takes its macro out of service and the record is written as a single copy; an ended gap is recorded before any
event. PARAMETER_RECORD stores the live items where a record is due, in its slot; where its macro fails three read-backs the
other one holds it (R247, R250). -/
def Obligations.JournalWriter : Prop :=
  ∀ s : State, coreWrites s = true → s.nv.chains = [] → StoreTakes s →
    (∀ e rest, s.jr.queue = e :: rest → s.nv.live.gap.active = false → noSlot s = false →
      Runs (.journalCommit 0 0) s (fun t => t.nv.records.getLast? = some (nextRecord e s) ∧ t.nv.head = seqNext s.nv.head
        ∧ rest <+: t.jr.queue ∧ t.nv.bankA = s.nv.bankA ∧ t.nv.bankB = s.nv.bankB ∧ t.nv.outcomes = s.nv.outcomes
        ∧ t.dev = s.dev)
      ∧ (s.nv.live.nvaOut = false → s.nv.live.nvbOut = false → Runs (.journalCommit 3 0) s (fun t =>
        t.nv.records.getLast? = some { nextRecord e s with flags := 1 } ∧ t.nv.live.nvaOut = true
          ∧ t.nv.live.nvbOut = false ∧ degraded t = true ∧ t.jr.retries = add8 s.jr.retries 2)))
    ∧ (gapEnds s = true → Runs (.journalGap 0 0) s (fun t => t.nv.records.getLast? = some (gapRecord s)
      ∧ t.nv.head = seqNext s.nv.head ∧ (s.jr.full75 = true → t.nv.live.gap = Gap.none ∧ t.jr.queue = s.jr.queue)))
    ∧ (s.nv.due = true →
      let q := s.nv.paramSeq + 1
      Runs (.parameterRecord 0 []) s (fun t => t = { s with nv := { s.nv with
        stored := s.nv.live, paramSeq := q, due := false,
        slots := putSlot { inB := paramInB q s, slot := paramSlot q s, seq := q, items := s.nv.live } s.nv.slots } })
      ∧ (s.nv.live.nvaOut = false → s.nv.live.nvbOut = false → Runs (.parameterRecord 3 []) s (fun t =>
        t.nv.live.nvbOut = paramInB q s ∧ t.nv.live.nvaOut = !paramInB q s ∧ t.nv.due = false ∧ t.nv.stored = t.nv.live)))
    ∧ (s.nv.due = false → exec (.parameterRecord 0 []) s = .next s)
    ∧ (∀ (n : Nat) (wear : List (Bool × Nat × Nat)), s.nv.due = false → exec (.parameterRecord n wear) s =
      .next (if wear.isEmpty then s else { s with nv := { s.nv with worn := s.nv.worn ++ wear } }))

/-! ## The engine -/

/-- A released scan whose checks pass publishes scan k + 1 under its own D, with the words and block states of the evaluation,
and stays in RUN; a rejection is a coding failure: FAULT with code 1 and EN_CHECK, and LOCKOUT at once where the last counted one
lies within the window, the failure stored in the parameter record; a scan that is not released or comes too early is SCAN_OVERRUN (R146, R147, R151, R153, R158, R164). Re-verification that passes leaves FAULT to
FAULT_ACK, one that fails enters LOCKOUT; an SRAM ECC error in RUN or STOP is FAULT with its address; the end of the window
leaves no counted failure in it (R68, R159, R160). -/
def Obligations.Scan : Prop :=
  (∀ (s : State) (e : ScanEnv) (im : Image), s.dev.dvState = .run → s.en.scanning = true → s.en.seedWait = false →
    s.en.image = some im → s.nv.chains = [] →
    let s0 := scanStart s
    let w := (scanEval e im s0).1
    let verdict := scanVerdict e im (scanSeed s0) s0.en.opVector w
    (e.released = true → e.phase4Done = true → verdict = none → Runs (.scan e) s (fun t =>
      t.en.scanNo = s.en.scanNo + 1 ∧ t.en.lfsr = lfsrNext (applyFolds s.en.lfsr s.links.toList) ∧ t.en.words = w.words
        ∧ t.en.blocks = w.sts ∧ t.en.published = true ∧ t.en.execLast = e.execUs ∧ t.dev.dvState = .run
        ∧ t.en.snapNew = some (snapshotOf im t.en.lfsr t.en.scanNo w.words) ∧ t.ports = s.ports))
    ∧ (∀ f, e.released = true → e.phase4Done = true → verdict = some f → inWindow s = false →
      Runs (.scan e) s (fun t => t.dev.dvState = .fault ∧ t.dev.faultCode = 0x01 ∧ t.dev.safeOk = false
        ∧ t.en.check = checkWord f.1 f.2.1 f.2.2 0 ∧ t.en.scanning = false ∧ t.en.reverify = true
        ∧ t.en.scanNo = s.en.scanNo ∧ t.en.lfsr = lfsrNext s.en.lfsr ∧ t.nv.live.failAge = some 0
        ∧ (StoreTakes s → t.nv.stored.failAge = some 0)))
    ∧ (∀ f, e.released = true → e.phase4Done = true → verdict = some f → inWindow s = true →
      Runs (.scan e) s (fun t => t.dev.dvState = .lockout ∧ t.aorf.lockout = true ∧ t.dev.faultCode = 0x01 ∧ t.dev.safeOk = false
        ∧ t.en.check = checkWord f.1 f.2.1 f.2.2 0 ∧ t.en.scanning = false ∧ t.en.reverify = false
        ∧ t.en.reverifyOk = s.en.reverifyOk ∧ t.nv.live.failAge = some 0 ∧ (StoreTakes s → t.nv.stored.failAge = some 0)))
    ∧ (e.released = false ∨ e.phase4Done = false → inWindow s = false → Runs (.scan e) s (fun t =>
      t.dev.dvState = .fault ∧ t.dev.faultCode = 0x06 ∧ t.en.check = checkWord 0 8 0 0 ∧ t.en.scanNo = s.en.scanNo))
    ∧ (e.released = false ∨ e.phase4Done = false → inWindow s = true → Runs (.scan e) s (fun t =>
      t.dev.dvState = .lockout ∧ t.aorf.lockout = true ∧ t.dev.faultN = false)))
  ∧ (∀ (s : State) (check addr : Word) (us : Half), s.nv.chains = [] →
    (s.dev.dvState = .fault → s.en.reverify = true →
      Runs (.reverificationComplete true check us) s (fun t => t.en = { s.en with reverify := false, reverifyOk := true }
        ∧ t.dev = s.dev ∧ t.nv.live.failAge = s.nv.live.failAge)
      ∧ Runs (.reverificationComplete false check us) s (fun t => t.dev.dvState = .lockout ∧ t.aorf.lockout = true
        ∧ t.en.reverify = false ∧ t.en.reverifyOk = false ∧ t.en.check = (check &&& 0x1FFF0FFF) ||| 0x9000))
    ∧ (stateRunStop s = true → Runs (.sramEccError addr) s (fun t => t.dev.dvState = .fault ∧ t.dev.safeOk = false
      ∧ t.dev.faultCode = 0x05 ∧ t.dev.faultDetail = (addr >>> 2).setWidth 8 ∧ t.dev.faultCount = inc8 s.dev.faultCount
      ∧ t.en.scanning = false ∧ t.en.reverify = true ∧ t.en.scanNo = s.en.scanNo ∧ t.aorf = s.aorf))
    ∧ Runs .countedFailureWindowEnd s (fun t => t = { s with nv := t.nv } ∧ inWindow t = false
      ∧ t.nv.chains = s.nv.chains ∧ t.nv.outcomes = s.nv.outcomes))

/-- The guard and two-hand blocks where a time of theirs is up (R175, R179, R180): the outputs they leave, and their faults. That a
row naming a block's time evaluates the block once with its count at the limit is the model's choice (log entry 34), and T_LOCK runs
from a lock command given with the door closed (log entry 126). -/
def Obligations.GuardTimes : Prop :=
  ∀ (s : State) (ix : Nat) (im : Image) (b : Block) (st : BlockSt), blockInRun ix s = some (im, b, st) →
    let x := isOn st.prev
    let leaves (i : Instr) (P : BlockSt → Prop) : Prop := Runs i s (fun t => ∃ r, t.en.blocks[ix]? = some r ∧ P r)
    (b.type = .lcurt ∨ (b.type ∈ [BlockType.estop, .guard] ∧ b.params.channels = 2) → st.fault = false → x 0 ≠ x 1 →
      leaves (.discrepancy ix) (fun r => r.fault = true ∧ r.outs = [0, 1]))
    ∧ (b.type = .guardLock → b.params.channels = 2 → st.faultKind % 2 = 0 → x 0 ≠ x 1 →
      leaves (.discrepancy ix) (fun r => r.faultKind % 2 = 1 ∧ r.outs = [0, 1, 0]))
    ∧ (b.type = .guardLock → st.faultKind = 0 → 0 < st.t4 → (b.params.channels = 2 → x 0 = x 1) → x 0 = true ∨ st.active = true →
      x 2 = false → x 3 = false → x 4 = false → leaves (.lockNotReached ix) (fun r => r.faultKind = 4 ∧ r.outs = [0, 1, 0]))
    ∧ (b.type = .guardLock → st.faultKind = 0 → st.armed = false → (b.params.channels = 2 → x 0 = x 1) →
      (b.params.lchannels = 2 → x 2 = x 3) → x 4 = true → b.has 5 = false ∨ x 5 = true → lastOut st 0 ≠ 1 →
      leaves (.rundownElapsed ix) (fun r => r.fault = false ∧ r.outs = [0, 0, (!b.params.principle).toNat]))
    ∧ (b.type = .guardLock → st.faultKind = 0 → st.armed = true → x 0 = false → (b.params.channels = 2 → x 1 = false) →
      x 2 = true → (b.params.lchannels = 2 → x 3 = true) →
      leaves (.doorOpenWhileLocked ix) (fun r => r.faultKind = 8 ∧ r.outs = [0, 1, 0]))
    ∧ (b.type = .twohand → st.fault = false → x 0 = x 1 ∨ x 2 = x 3 →
      leaves (.contactAntivalence ix) (fun r => r.fault = true ∧ r.outs = [0] ∧ r.blocked = true))
    ∧ (b.type = .twohand → st.fault = false → st.armed = true → st.blocked = false → st.active = true → lastOut st 0 ≠ 1 →
      (st.t2 = 1 ∧ x 0 = true ∧ x 1 = false) ∨ (st.t2 = 2 ∧ x 2 = true ∧ x 3 = false) →
      leaves (.twohandSyncFail ix) (fun r => r.fault = false ∧ r.outs = [0] ∧ r.blocked = true ∧ r.armed = false))

/-- The feedback loop, the brake and the restart button where a time of theirs is up (R182, R183, R184, R204, R205), and the
timers where PT is up (R190, Table 8-6): TON switches on, TOF and PULSE switch off, and ET stands at PT. The model's choices and
readings in it: one evaluation with the count at its limit (log entry 34), an SBC's release that is refused (log entry 28), the sides
of the loop an EDM watches (log entry 35), the end of PULSE (log entry 37), and what a press and the end of a brake test raise (log
entry 38). -/
def Obligations.OperatingTimes : Prop :=
  (∀ (s : State) (ix : Nat) (im : Image) (b : Block) (st : BlockSt), blockInRun ix s = some (im, b, st) →
      let x := isOn st.prev
      let brake := 2 * b.params.brakePort.val + b.params.brakeIx.val
      let leaves (i : Instr) (P : BlockSt → State → Prop) : Prop :=
        Runs i s (fun t => ∃ r, t.en.blocks[ix]? = some r ∧ P r t)
      (b.type = .edm → st.fault = false → (x 0 = true ∧ x 1 = true ∧ lastOut st 0 = 1 ∧ st.armed = true)
          ∨ (x 0 = false ∧ x 1 = false) →
        leaves (.feedbackFault ix) (fun r _ => r.fault = true ∧ r.outs = [0]))
      ∧ (b.type = .sbc → st.active = true → x 3 = false → leaves (.brakeTestEnd ix) (fun r t => r.fault = false
        ∧ r.active = false ∧ r.outs = [if x 1 && !x 0 then 3 else 0, 0, 1, 0] ∧ t.nv.live.brMinutes[brake]? = some 0))
      ∧ (b.type = .sbc → st.active = true → x 3 = true → leaves (.brakeTestEnd ix) (fun r _ => r.fault = true
        ∧ r.outs[0]? = some 0 ∧ r.outs[2]? = some 0))
      ∧ (b.type = .sbc → 0 < b.params.btInt → st.active = false → leaves (.brakeTestDue ix) (fun r t => r.dueRaised = true
        ∧ r.outs[2]? = some 0 ∧ r.outs[3]? = some 1
        ∧ b.params.btInt * 60 ≤ (t.nv.live.brMinutes[brake]?).getD 0))
      ∧ (b.type = .restart → st.active = true → st.t1 ≤ scansOf (periodUs im.scanPer.val) b.params.tMax → x 0 = true →
        st.waitEdge = false → leaves (.restartStuck ix) (fun r _ => r.stuck = true ∧ r.outs = [0, 1]))
      ∧ (b.type = .restart → st.active = false → x 0 = false → st.waitEdge = false →
        leaves (.restartArmed ix) (fun r _ => r.armed = true ∧ r.stuck = false ∧ r.outs = [0, 0])))
  ∧ (∀ (s : State) (ix : Nat) (im : Image) (b : Block) (st : BlockSt), blockInRun ix s = some (im, b, st) →
      st.active = true →
      let x := isOn st.prev
      let leaves (i : Instr) (outs : List Nat) : Prop :=
        Runs i s (fun t => ∃ r, t.en.blocks[ix]? = some r ∧ r.outs = outs)
      (b.type = .ton → x 0 = true → leaves (.tonElapsed ix) [1, b.params.pt])
      ∧ (b.type = .tof → x 0 = false → leaves (.tofElapsed ix) [0, b.params.pt])
      ∧ (b.type = .pulse → leaves (.pulseElapsed ix) [0, if x 0 then b.params.pt else 0]))

/-- The mode selector (R186, R194 to R197): an invalid pattern held for T_SEL is the selector fault, with every mode output but
MODE at 0; a valid one that names another mode requests it, and its grant begins the hand-over; the hand-over ends after its
second scan. With a remote source permitted, the request for AUTO leaves AUTO pending. That a row evaluates the selector once with its
count at the limit is the model's choice (log entry 34), and that a pattern requests once its reading of the rules (log entry 39). -/
def Obligations.ModeRows : Prop :=
  ∀ (s : State) (ix : Nat) (im : Image) (b : Block) (st : BlockSt), modeselIx s = some ix →
    blockInRun ix s = some (im, b, st) → b.type = .modesel → srcAllowed b.params.reqSrc 1 = true → s.en.mode.fault = false →
    let pat := selectorPattern (isOn st.prev 0) (isOn st.prev 1) (isOn st.prev 2)
    let remote := srcAllowed b.params.reqSrc 2 || srcAllowed b.params.reqSrc 3
    let up : Prop := s.en.mode.pattern = pat ∧ s.en.mode.patCount < scansOf (periodUs im.scanPer.val) b.params.tSel
      ∧ s.en.mode.pending = false ∧ s.dev.handover = 0 ∧ pat ≠ s.dev.mode.code
    (pat = 3 → Runs .selectorFault s (fun t => t.en.mode.fault = true ∧ t.dev.mode = s.dev.mode
      ∧ (t.en.blocks[ix]?).map BlockSt.outs = some [s.dev.mode.code, 0, 0, 0, 0]))
    ∧ (up → pat = 1 ∨ pat = 2 ∨ (pat = 0 ∧ remote = false) → Runs .modeRequestPins s (fun t =>
      t.dev.mode = Mode.ofCode pat ∧ t.dev.handover = 2 ∧ t.en.mode.oldMode = s.dev.mode))
    ∧ (up → pat = 0 → remote = true → Runs .modeRequestPins s (fun t => t.dev.mode = s.dev.mode ∧ t.dev.handover = 0
      ∧ t.en.mode.pending = true))
    ∧ (s.dev.handover = 1 → exec .modeHandoverEnd s = .next { s with dev := { s.dev with handover := 0 } })

/-- An enabled output that has not passed an opening test for 720 operating hours is untested, and after 1,440 hours an open one is
refused while a closed one stays under engine control (R128). A pair of shorted sources without a report for two frame periods is
closed, whichever way round it was opened; an unmatched FOREIGN_VOLTAGE becomes SHORT_TO_SUPPLY, once for each episode (R115). -/
def Obligations.PortJudgement : Prop :=
  (∀ (s : State) (p : Fin 8) (c : Fin 6), live s = true → chanEnabled p.val c.val s = true →
      Runs (.outputUntested p c) s (fun t => t.links[p.val].untested.getLsbD c.val = true
        ∧ 43200 ≤ (t.nv.live.chMinutes[6 * p.val + c.val]?).getD 0 ∧ t.links[p.val].refused = s.links[p.val].refused
        ∧ ∀ l : Fin 8, l ≠ p → t.links[l.val] = s.links[l.val])
      ∧ Runs (.outputRefused p c) s (fun t => t.links[p.val].untested.getLsbD c.val = true
        ∧ 86400 ≤ (t.nv.live.chMinutes[6 * p.val + c.val]?).getD 0
        ∧ (s.links[p.val].outNow.getLsbD c.val = false → t.links[p.val].refused.getLsbD c.val = true)
        ∧ (s.links[p.val].outNow.getLsbD c.val = true → t.links[p.val].refused = s.links[p.val].refused)))
  ∧ (∀ (s : State) (p k q j : Fin 8),
      Runs (.crossShortEpisodeEnd p k q j) s (fun t => t = { s with short := { s.short with pairs := t.short.pairs } }
        ∧ ∀ x, x ∈ t.short.pairs ↔ x ∈ s.short.pairs ∧ (isPair p.val (k.val + 1) q.val (j.val + 1) x = true →
          s.clock ≤ x.2.2.2.2 + 2 * framePeriod s))
      ∧ (∀ time, s.short.foreign = [(p.val, k.val + 1, time)] → s.short.supplied = [] → JournalOpen s →
        time + 2 * framePeriod s ≤ s.clock →
        Runs (.shortToSupply p k) s (fun t => t.short.foreign = []
          ∧ t.short.supplied = [(p.val, k.val + 1, time)]
          ∧ Gained [eventOf (176 + p.val) 0x0114 .warning (argOf [(0, k.val + 1)]) s] s t))
      ∧ ((∀ x ∈ s.short.foreign, x.1 = p.val → x.2.1 = k.val + 1 → s.clock < x.2.2 + 2 * framePeriod s) →
        exec (.shortToSupply p k) s = .next s))

/-! ## Svaent frames and entropy -/

/-- The producers (R222, R226, R228, R235): a start draws a CID and numbers from 1 with three NEW frames; a due frame joins the
outbound queue with its CRC, and a full queue loses its oldest frame. The consumers (R229, R231, R232): a take-in outside RUN
judges every waiting frame, and the first frame of an EMPTY connection is adopted as PENDING; a connection whose watchdog runs
out expires, and SFL_CONN_LOST is raised where it was VALID. -/
def Obligations.Connections : Prop :=
  (∀ (s : State) (n : Fin 32),
      (∀ (w : DWord) (pool : List DWord) (q : Producer), s.dev.dvState = .run → prodParams n.val s = some q →
        (getProd n.val s).running = false → (getProd n.val s).drawReq = false → s.ent.state = .healthy →
        s.ent.pool = w :: pool → s.ent.waiting = [] → w.setWidth 32 ≠ (0 : Word) → w.setWidth 32 ≠ (getProd n.val s).cid →
        Runs (.sflProducerStart n) s (fun t => (getProd n.val t).running = true ∧ (getProd n.val t).cid = w.setWidth 32
          ∧ (getProd n.val t).nextSeq = 1 ∧ (getProd n.val t).newLeft = 3 ∧ t.ent.pool = pool))
      ∧ (∀ f : SflFrame, (getProd n.val s).due = some f → s.sf.outq.length < 64 → Runs (.sflProducerSend n) s (fun t =>
        t.sf.outq = s.sf.outq ++ [f.bytes s.fu.site] ∧ (getProd n.val t).due = none
          ∧ (getProd n.val t).nextSeq = (getProd n.val s).nextSeq + 1 ∧ t.sf.txCount = inc32 s.sf.txCount
          ∧ t.sf.outLoss = 0))
      ∧ (∀ f : SflFrame, (getProd n.val s).due = some f → 64 ≤ s.sf.outq.length → Runs (.sflProducerSend n) s (fun t =>
        t.sf.outq = s.sf.outq.drop 1 ++ [f.bytes s.fu.site] ∧ t.sf.outLoss = s.sf.outLoss + 1
          ∧ t.sf.lossOut = inc8 s.sf.lossOut)))
  ∧ (∀ (s : State) (n : Nat) (c : Consumer),
      (∀ b : List Byte, live s = true → s.dev.dvState = .stop ∨ s.dev.dvState = .fault → s.sf.inq = [b] →
        sflCheck1 s.fu.site b = true → (sflFields b).dest = nodeId s → consumerOf (sflFields b).src s = some (n, c) →
        ageApplies (sflFields b) c s = false → (getCons n s).state = .empty → (sflFields b).rr = false → 1 ≤ c.tWd →
        Runs .sflTakeIn s (fun t => t.sf.inq = [] ∧ (getCons n t).state = .pending
          ∧ (getCons n t).cid = (sflFields b).cid ∧ (getCons n t).last = (sflFields b).seq
          ∧ (getCons n t).bits = (sflFields b).bits ∧ t.sf.rxCount = inc32 s.sf.rxCount))
      ∧ (live s = true → s.dev.dvState = .mismatch ∨ s.dev.dvState = .lockout → Runs .sflTakeIn s (fun t =>
        t.sf = { s.sf with inq := [] }))
      ∧ (∀ k : Fin 32, k.val = n → s.dev.dvState ∈ [DvState.stop, .run, .fault] → consParams n s = some c → s.sf.inq = [] →
        (getCons n s).state = .valid → JournalOpen s → Runs (.sflConnLost k) s (fun t =>
          (getCons n t).state = .expired ∧ (getCons n t).lost = true
            ∧ Gained [eventOf 230 0x0805 .warning (argOf [(0, n), (1, 1), (4, (getCons n s).last.toNat)]) s] s t)))

/-- The entropy source (R237 to R240): the raw bits of a healthy source pass both health tests on their way to the conditioner,
which makes a word of each 512 for the pool of 16; a bit that fails a test empties the pool and makes the source unhealthy, the
third failure locks it; the start-up test makes it healthy or counts a failure. -/
def Obligations.EntropyRows : Prop :=
  ∀ (s : State) (raw : List Bool), live s = true → s.nv.chains = [] →
    let x := s.ent.testAll raw
    let bits := s.ent.block ++ raw
    (s.ent.state = .healthy → x.2 = 0 → ∀ i ∈ [Instr.entropyWordReady raw, .entropyHealthFail raw],
      (bits.length < 512 → exec i s = .next { s with ent := { x.1 with block := bits } })
      ∧ (512 ≤ bits.length → s.ent.pool.length < 16 → s.ent.waiting = [] → exec i s = .next { s with ent := { x.1 with
          block := bits.drop 512, pool := s.ent.pool ++ [Config.conditioner (bits.take 512)] } })
      ∧ (512 ≤ bits.length → 16 ≤ s.ent.pool.length → exec i s = .next { s with ent := { x.1 with block := bits.drop 512 } }))
    ∧ (s.ent.state = .healthy → x.2 ≠ 0 → ∀ i ∈ [Instr.entropyWordReady raw, .entropyHealthFail raw],
      Runs i s (fun t => t.ent.pool = [] ∧ t.ent.waiting = []
        ∧ t.ent.failures = s.ent.failures + 1 ∧ t.ent.lastApt = decide (x.2 = 2) ∧ t.ent.lastRct = decide (x.2 = 1)
        ∧ t.ent.state = (if s.ent.failures = 2 then .locked else .unhealthy)))
    ∧ (s.ent.state ∈ [EntState.unhealthy, .locked] → ∀ i ∈ [Instr.entropyWordReady raw, .entropyHealthFail raw,
      .entropyStartupTestDone raw], exec i s = .next s)
    ∧ (s.ent.state = .startup → startupPasses raw = true → Runs (.entropyStartupTestDone raw) s (fun t =>
      t.ent.state = .healthy ∧ t.ent.failures = s.ent.failures))
    ∧ (s.ent.state = .startup → startupPasses raw = false → Runs (.entropyStartupTestDone raw) s (fun t =>
      t.ent.pool = [] ∧ t.ent.failures = s.ent.failures + 1
        ∧ t.ent.state = (if s.ent.failures = 2 then .locked else .unhealthy)))

/-! ## Links, controller side -/

/-- A link cycle sends one frame on every started link, with its CYCLE advanced, and none on a link held low (R76, Table 4-7). A
link that is lost or fails to start is let go and held low until its next start (R94, Table 4-10): every level of it reads 0,
and the loss or the first failure of a run is journalled; a loss in phases 2 to 5 is a failed start too (the model's reading, log entry
13). LINK_START begins phase 1 (R86), with an active image or without (the model's reading, log entry 83). -/
def Obligations.Links : Prop :=
  (∀ s : State, live s = true → Runs .linkCycle s (fun t =>
      (∀ l : Fin 8, s.links[l.val].held = true ∨ s.links[l.val].phase = 0 → t.links[l.val] = s.links[l.val])
        ∧ (∀ l : Fin 8, s.links[l.val].held = false → s.links[l.val].phase ≠ 0 →
          t.links[l.val].cycle = s.links[l.val].cycle + 1 ∧ t.links[l.val].tx = (linkFrame l.val s.links[l.val] s).tx
            ∧ t.links[l.val].phase = s.links[l.val].phase)
        ∧ t.en = s.en ∧ t.dev = s.dev ∧ t.ports = s.ports))
  ∧ (∀ (s : State) (l : Fin 8), s.nv.chains = [] →
      let k := s.links[l.val]
      let startFail := eventOf (184 + l.val) 0x0003 .warning (argOf [(0, k.phase)]) s
      (∀ cause : Fin 4, k.held = false → 2 ≤ k.phase → s.cm.running = none → JournalOpen s →
        let lost := eventOf (184 + l.val) 0x0002 .warning (argOf [(0, cause.val + 1), (1, k.phase)]) s
        Runs (.linkLost l cause) s (fun t =>
          t.links[l.val].phase = 1 ∧ t.links[l.val].held = true ∧ t.links[l.val].levels = 0 ∧ t.links[l.val].outNow = 0
            ∧ (∀ m : Fin 8, m ≠ l → t.links[m.val] = s.links[m.val])
            ∧ t.links[l.val].failed = (if k.phase ≤ 5 then inc8 k.failed else k.failed)
            ∧ (6 ≤ k.phase ∨ k.failShown = true → Gained [lost] s t)
            ∧ (k.phase ≤ 5 → k.failShown = false → s.jr.queue.length < 63 → Gained [lost, startFail] s t)))
      ∧ (∀ cause : Fin 4, k.held = true ∨ k.phase < 2 → exec (.linkLost l cause) s = .next s)
      ∧ (live s = true → k.held = true → k.phase = 1 → l.val < portsFused s →
        s.dev.dvState ≠ .dormantEntry → Runs (.linkStart l) s (fun t => t.links[l.val].phase = 1
          ∧ t.links[l.val].held = false ∧ t.links[l.val].startUs = s.clock ∧ t.links[l.val].inLatched = 0))
      ∧ (k.held = false → 1 ≤ k.phase → k.phase ≤ 5 → (k.phase = 5 → 0 < k.seedSent) → s.cm.running = none →
        Runs (.linkStartFail l) s (fun t => t.links[l.val].phase = 1 ∧ t.links[l.val].held = true
          ∧ t.links[l.val].failed = inc8 k.failed ∧ t.links[l.val].failShown = true
          ∧ (k.failShown = true → t.jr = s.jr) ∧ (k.failShown = false → JournalOpen s → Gained [startFail] s t)))
      ∧ (k.phase = 5 → k.seedSent = 0 → exec (.linkStartFail l) s = .next s))

/-- Uplink frames (R77, R83, R85, R87, R94, R120): in phase 1 a valid IDENT begins the identification, the third identical one ends
phase 2 (identical but for the running ECHO and the CRC, log entry 12), and straps that differ from the link's number hold it in
phase 3; a valid DELTA or REFRESH of a link that is up gives the levels and the output states; each record of the DELTA is
journalled, and the REFRESH gives its supplies and its diagnostic too; an invalid frame is counted, and the fourth in a row loses the
link. -/
def Obligations.Uplinks : Prop :=
  ∀ (s : State) (l : Fin 8) (framing : Bool) (f : Frame) (rt : Nat), s.nv.chains = [] → s.links[l.val].held = false →
    let k := s.links[l.val]
    let advances : Prop := ulEcho f ≠ k.echoLast ∨ k.echoRun < 3
    let src (r : Word) : Nat := 16 * l.val + r.toNat % 16
    let edge (r : Word) : QEvent := { eventOf (src r) (if r.getLsbD 5 then 2 else 1) .info
      (argOf [(0, if r.getLsbD 5 then 0 else (r >>> 14).toNat % 131072), (4, (r.getLsbD 4).toNat), (5, (r.getLsbD 5).toNat)]) s with
      time := edgeTime k f r s }
    (k.phase = 1 → ulValid framing [0] f = true → Runs (.uplinkIdent l framing f rt) s (fun t =>
      t.links[l.val].phase = 2 ∧ t.links[l.val].rev = ulRev f ∧ t.links[l.val].straps = ulStraps f
        ∧ t.links[l.val].badRun = 0))
    ∧ (k.phase = 2 → ulValid framing [0] f = true → advances → k.identRun = 2 → sameIdent f k.lastIdent = true →
      Runs (.uplinkIdent l framing f rt) s (fun t => t.links[l.val].phase = 3 ∧ t.links[l.val].straps = ulStraps f))
    ∧ (k.phase = 3 → ulValid framing [0] f = true → advances → (ulStraps f).toNat ≠ l.val →
      Runs (.uplinkIdent l framing f rt) s (fun t => t.links[l.val].phase = 7 ∧ t.links[l.val].strapErr = true))
    ∧ (k.phase = 6 → ulValid framing [1] f = true → ulEcho f ≠ k.echoLast → ulSeqFault f = false →
      Runs (.uplinkDelta l framing f rt) s (fun t => t.links[l.val].phase = 6 ∧ t.links[l.val].levels = ulLevels f
        ∧ t.links[l.val].outNow = ulOutState f ∧ t.links[l.val].badRun = 0 ∧ t.links[l.val].echoRun = 0
        ∧ (s.nv.live.gap.active = false → noSlot s = false → s.jr.queue.length + (ulRecords f).length ≤ 64 →
          (∀ c : Fin 6, (s.nv.live.chMinutes[6 * l.val + c.val]?).getD 0 < 43200) →
          (∀ r ∈ ulRecords f, evEnabled s (src r) = true) → Gained ((ulRecords f).map edge) s t)))
    ∧ (k.phase = 6 → ulValid framing [2] f = true → ulEcho f ≠ k.echoLast → ulSeqFault f = false → ulDiagCode f = 0 →
      Runs (.uplinkRefresh l framing f rt) s (fun t => t.links[l.val].phase = 6 ∧ t.links[l.val].levels = ulLevels f
        ∧ t.links[l.val].outState = ulOutState f ∧ t.links[l.val].supply = ulSupply f
        ∧ t.links[l.val].uf1V = ulUf1 f ∧ t.links[l.val].uf2V = ulUf2 f ∧ t.links[l.val].temp = ulTemp f
        ∧ t.links[l.val].loadI = ulLoad f))
    ∧ (k.phase = 6 → ulValid framing [2] f = true → ulEcho f ≠ k.echoLast → ulSeqFault f = false → s.cm.running = none →
      let time : Word := s.tb.counter.setWidth 32
      let known (code : Half) (src : Nat) (cls : Cls) (t : State) : Prop :=
        t.links[l.val].diags = ((code, ulDiagArg f, time) :: k.diags).take 32
          ∧ (JournalOpen s → (∀ c : Fin 6, (s.nv.live.chMinutes[6 * l.val + c.val]?).getD 0 < 43200) →
            k.ulOver = true ∨ (recentBad k.cycles k.ulBad).length < 64 →
            k.dlOver = true ∨ (recentBad k.cycles (k.dlBad ++ List.replicate (ulDlErr f - k.dlLast).toNat k.cycles)).length < 64 →
            Gained [eventOf src code cls (argOf [(0, (ulDiagArg f).toNat)]) s] s t)
      (ulDiagCode f = 0x0101 → Runs (.uplinkRefresh l framing f rt) s (fun t =>
        known 0x0101 (16 * l.val + (ulDiagArg f).toNat % 16) .warning t
          ∧ t.links[l.val].inLatched.getLsbD ((ulDiagArg f).toNat % 16) = true))
      ∧ (ulDiagCode f = 0x0204 → (ulDiagArg f).toNat % 8 < 6 → Runs (.uplinkRefresh l framing f rt) s (fun t =>
        known 0x0204 (chanSource l.val ((ulDiagArg f).toNat % 8)) .warning t
          ∧ t.links[l.val].latched.getLsbD ((ulDiagArg f).toNat % 8) = true))
      ∧ (ulDiagCode f = 0x0403 → Runs (.uplinkRefresh l framing f rt) s (known 0x0403 (176 + l.val) .warning)))
    ∧ (∀ x ∈ [(Instr.uplinkIdent l framing f rt, ulValid framing [0] f),
        (.uplinkDelta l framing f rt, decide (k.phase = 6) && ulValid framing [1] f),
        (.uplinkRefresh l framing f rt, decide (k.phase = 6) && ulValid framing [2] f)], x.2 = false → 1 ≤ k.phase →
      (k.badRun < 3 → Runs x.1 s (fun t => t.links[l.val].phase = k.phase ∧ t.links[l.val].badRun = k.badRun + 1
        ∧ t.links[l.val].ulErr = inc16 k.ulErr ∧ t.links[l.val].levels = k.levels))
      ∧ (3 ≤ k.badRun → 2 ≤ k.phase → s.cm.running = none → Runs x.1 s (fun t => t.links[l.val].phase = 1 ∧ t.links[l.val].held = true
        ∧ t.links[l.val].ulErr = inc16 k.ulErr ∧ t.links[l.val].levels = 0)))

/-- What the rows of time, of the engine, of Svaent frames, of entropy, of links, of temperature and of the strip leave
unchanged while no command runs or waits: each changes its own part, events and what those reach; none touches a port, a fuse or
a bank. A row that names a block's time, which evaluates that block once (the model's choice, log entry 34), changes that block and
its words alone, and nothing where no such block runs. -/
def Obligations.RowFrames : Prop :=
  (∀ (s : State) (ix : Nat) (i : Instr),
      i ∈ [Instr.discrepancy ix, .lockNotReached ix, .rundownElapsed ix, .doorOpenWhileLocked ix, .twohandSyncFail ix,
        .contactAntivalence ix, .feedbackFault ix, .brakeTestEnd ix, .brakeTestDue ix, .restartStuck ix, .restartArmed ix,
        .tonElapsed ix, .tofElapsed ix, .pulseElapsed ix] →
      Runs i s (fun t => t = { s with en := t.en, hb := t.hb, jr := t.jr, nv := t.nv }
        ∧ t.en = { s.en with blocks := t.en.blocks, words := t.en.words }
        ∧ (∀ j, j ≠ ix → t.en.blocks[j]? = s.en.blocks[j]?)
        ∧ (blockInRun ix s = none → t = s)))
  ∧ (∀ (s : State) (held n : Nat) (frac : Fin 24) (f : IrigFrame) (x : Bool) (c : Fin 32) (l p : Fin 8) (cause : Fin 4) (framing : Bool)
      (u : Frame) (rt : Nat) (b : Byte) (sensors : BitVec 3) (e : ScanEnv) (w : Word) (raw : List Bool),
      s.nv.chains = [] → s.cm.running = none →
      let own (t : State) : Prop := t.ports = s.ports ∧ t.fu.rows = s.fu.rows ∧ t.nv.bankA = s.nv.bankA ∧ t.nv.bankB = s.nv.bankB
        ∧ t.nv.outcomes = s.nv.outcomes ∧ t.pending = s.pending ∧ t.clock = s.clock ∧ t.sram = s.sram
      (∀ i ∈ [Instr.ppsEdge x held n frac, .ppsFault, .sourceLost x, .irigFrame f frac, .holdoverExpired, .leapSecond], Runs i s (fun t =>
        own t ∧ t = { s with tb := t.tb, dev := t.dev, jr := t.jr, hb := t.hb, nv := t.nv, fresh := t.fresh, links := t.links }
          ∧ t.dev = { s.dev with tsyncOut := t.dev.tsyncOut }))
      ∧ (∀ i ∈ [Instr.lineSlot, .lineRendered, .printerGated sensors, .printerReady, .motorDisable], Runs i s (fun t =>
        own t ∧ t = { s with wp := t.wp, jr := t.jr, hb := t.hb, nv := t.nv, dev := t.dev }
          ∧ t.dev = { s.dev with pins := t.dev.pins }))
      ∧ (∀ i ∈ [Instr.sflProducerSend c, .sflTakeIn, .sflConnLost c], Runs i s (fun t =>
        own t ∧ t = { s with sf := t.sf, jr := t.jr, hb := t.hb, nv := t.nv, fresh := t.fresh, en := t.en }))
      ∧ (∀ i ∈ [Instr.sflProducerStart c, .entropyWordReady raw, .entropyHealthFail raw, .entropyStartupTestDone raw], Runs i s (fun t =>
        own t ∧ t.tb = s.tb ∧ t.set = s.set ∧ t.aorf = s.aorf ∧ t.wp = s.wp ∧ t.dev = s.dev))
      ∧ (∀ i ∈ [Instr.linkLost l cause, .linkStart l, .linkStartFail l], Runs i s (fun t =>
        own t ∧ t = { s with
            links := t.links, jr := t.jr, hb := t.hb, nv := t.nv, short := t.short, en := t.en, fresh := t.fresh, ent := t.ent }
          ∧ ∀ m : Fin 8, m ≠ l → t.links[m.val] = s.links[m.val]))
      ∧ (∀ i ∈ [Instr.uplinkIdent l framing u rt, .uplinkDelta l framing u rt, .uplinkRefresh l framing u rt], Runs i s (fun t =>
        own t ∧ t.tb = s.tb ∧ t.set = s.set ∧ t.wp = s.wp ∧ (t.dev.dvState ≠ .lockout → t.aorf = s.aorf)))
      ∧ (∀ i ∈ [Instr.temperatureMeasurement b, .reverificationComplete x w 0, .selectorFault, .modeRequestPins, .scan e],
        Runs i s (fun t => own t ∧ t.tb = s.tb ∧ t.set = s.set ∧ t.wp = s.wp ∧ t.fu = s.fu ∧ t.db = s.db)))

/-- No command of the host or the probe, no reset and no event of the controller changes anything in a port: a port changes by
its own rows alone (R2; what reaches it comes over its link). -/
def Obligations.PortsApart : Prop := ∀ (i : Instr) (s t : State), portRow i = false → exec i s = .next t → t.ports = s.ports

/-! ## Ports: the side of the link -/

/-- Every row of a port changes that port alone, and the count of free values. -/
def Obligations.PortFrames : Prop :=
  ∀ (s : State) (p k : Fin 8) (i : Fin 16) (c : Fin 6) (sw : Fin 3) (b : Fin 2) (framing : Bool) (f : Frame)
    (samples : List InputRead) (cyc : BitVec 4) (sample : Fin 10) (ticks : List DarkTick) (o : OffSeen) (n : OnSeen)
    (mA : Nat) (v : Byte) (m : BitVec 4) (a : BitVec 7) (w : Half) (up : Bool) (x : Instr),
    x ∈ [Instr.portReset p up, .downlinkSync p framing f, .downlinkStart p framing f, .downlinkSeed p framing f,
        .downlinkRun p framing f, .codeStale p c, .parameterImageWrite p a w, .samplePhase p w, .framePhaseLo p w,
        .framePhaseHi p w, .learnReq p w, .testNow p w, .portLinkLoss p, .portLogicReset p, .yoyoHoldDecay p c sw, .ctTimeout p,
        .inputEdge p i samples cyc sample, .inputSettled p i samples cyc sample, .pulseFrameStart p v]
      ++ [.darkPulseStart p k samples, .darkPulseEnd p k ticks, .blankingWindowEnd p i, .crossShortSeen p k, .sourceShort p k,
        .decayLearned p i, .offTest p c o, .onTest p c n, .switchOffTest p c n, .switchOffTestTimeout p c,
        .brakePullinEnd p b mA, .clampEnd p b mA, .switchNodeMiss p b, .bridgeConflict p b,
        .outputOvercurrent p c framing v, .auxFault p m, .auxRetry p, .portOverload p v, .portOverloadOpen p v,
        .switchThermalLimit p c, .portHot p v, .thermalShutdown p v, .supplyState p framing v] →
    Runs x s (PortFrame p s)

/-- The port's side of the link (R56, R86 to R94): a power-on reset opens every output, and a port that loses its supply holds its
logic in reset; the third SYNC in a row locks the port; a START frame writes its parameter word, and a word that completes a pair on
one source is reported; the third identical SEED is adopted; a RUN frame with the ON code of its scan closes an output or releases a
brake that may close, one with another value opens it, CLAMP clamps a brake, and one whose scan number skips opens every output with
its latch and clears the latches that its non-ON values clear; the fourth invalid frame in a row is link loss; a code older than L
link cycles opens its output, which diagnostic 0x0007 reports with the channel (the model's reading and choice, log entries 76 and
85), and a younger one does not. -/
def Obligations.PortLink : Prop :=
  ∀ (s : State) (p : Fin 8) (framing : Bool) (f : Frame) (c : Fin 6),
    let q := s.ports[p.val]
    let hears : Prop := q.fitted = true ∧ q.powered = true
    let ok (type : Nat) : Prop := hears ∧ dlValid framing q.straps [type] f = true
    let run : Prop := ok 3 ∧ q.phase = .seeded ∧ q.gotRun = true ∧ 128 ≤ (dlParamAddr f).toNat
    let lost (r : PortSt) : Prop := r.phase = .ident ∧ r.seed = 0 ∧ r.aux = q.aux ∧ r.gotRun = false
      ∧ (∀ c : Fin 6, (r.chan c.val).closed = false ∧ (r.chan c.val).portOpen = true)
      ∧ (∀ i : Fin 16, r.level i.val = false) ∧ ∀ k : Fin 8, r.sources[k.val].on = false ∧ r.sources[k.val].dark = false
    let bits := BrState.ofBits (dlBrake f (c.val - 4))
    let carries : Prop := dlCode f c.val = onCode q.seed (q.scanX + 1) c.val
    Runs (.portReset p true) s (fun t => let r := t.ports[p.val]
      r.phase = .silent ∧ r.gotRun = false ∧ r.powered = true ∧ r.aux = (if q.uf2Out then 0 else q.strapped)
        ∧ ∀ c : Fin 6, (r.chan c.val).closed = false ∧ (r.chan c.val).charged = false)
    ∧ Runs (.portReset p false) s (fun t => let r := t.ports[p.val]
      r.phase = .silent ∧ r.gotRun = false ∧ r.powered = false ∧ r.aux = q.aux ∧ r.luLow = true
        ∧ ∀ c : Fin 6, (r.chan c.val).closed = (q.chan c.val).closed ∧ (r.chan c.val).onPassed = false)
    ∧ (¬ hears → ∀ i ∈ [Instr.downlinkSync p framing f, .downlinkStart p framing f, .downlinkSeed p framing f], exec i s = .next s)
    ∧ (ok 0 → q.phase = .locking → q.syncRun = 2 → Runs (.downlinkSync p framing f) s (fun t => let r := t.ports[p.val]
      r.phase = .ident ∧ r.badRun = 0 ∧ r.echo = dlCycle f))
    ∧ (ok 1 → q.phase = .ident → (dlParamAddr f).toNat < 128 → Runs (.downlinkStart p framing f) s (fun t =>
      let r := t.ports[p.val]
      r.phase = .ident ∧ r.echo = dlCycle f ∧ r.words = q.words.set (dlParamAddr f).toNat (dlParamData f)
        ∧ ((dlParamAddr f).toNat < 16 → r.pairShares ((dlParamAddr f).toNat / 2) = true →
          (0x0106, BitVec.ofNat 16 ((dlParamAddr f).toNat / 2)) ∈ r.diagq)))
    ∧ (ok 2 → q.phase = .ident → 2 ≤ q.seedRun → sameSeed f q.seedLast = true → Runs (.downlinkSeed p framing f) s (fun t =>
      let r := t.ports[p.val]
      r.phase = .seeded ∧ r.seed = dlSeed f ∧ r.scanX = dlScanBase f ∧ r.scanPer = dlScanPer f ∧ r.echo = dlCycle f))
    ∧ (run → c.val < 4 → q.chanEn c.val = true → q.scanStep f = 1 →
      (carries → q.mayClose c.val = true →
        Runs (.downlinkRun p framing f) s (fun t => let r := t.ports[p.val]
          (r.chan c.val).closed = true ∧ r.scanX = q.scanX + 1 ∧ r.echo = dlCycle f ∧ r.ctExpired = false))
      ∧ (¬ carries → Runs (.downlinkRun p framing f) s (fun t =>
        let r := t.ports[p.val]
        (r.chan c.val).closed = false ∧ (r.chan c.val).portOpen = false ∧ (r.chan c.val).overcurr = false)))
    ∧ (run → 4 ≤ c.val → q.chanEn c.val = true → q.scanStep f = 1 →
      let leaves (P : ChanSt → Prop) : Prop := Runs (.downlinkRun p framing f) s (fun t => P (t.ports[p.val].chan c.val))
      (bits.energised = true → carries → q.mayClose c.val = true → (q.chan c.val).brake = .off →
        leaves (fun x => x.closed = true ∧ x.brake = .release ∧ x.pullIn = true))
      ∧ (bits.energised = true → ¬ carries → leaves (fun x => x.closed = false ∧ x.portOpen = (q.chan c.val).portOpen))
      ∧ (bits = .off → leaves (fun x => x.closed = false ∧ x.portOpen = false ∧ x.overcurr = false))
      ∧ (bits = .clamp → (q.chan c.val).brake.energised = true →
        leaves (fun x => x.closed = false ∧ x.brake = .clamp ∧ x.portOpen = false)))
    ∧ (run → 1 < (q.scanStep f).toNat → Runs (.downlinkRun p framing f) s (fun t => let r := t.ports[p.val]
      r.seqFault = true ∧ r.seqScans = some (q.scanX + 1, q.scanX + (q.scanStep f).setWidth 32)
        ∧ (∀ c : Fin 6, (r.chan c.val).closed = false ∧ (r.chan c.val).portOpen = true)
        ∧ (c.val < 4 → dlCode f c.val ≠ onCode q.seed (q.scanX + (q.scanStep f).setWidth 32) c.val →
          (r.chan c.val).overcurr = false)))
    ∧ (¬ ok 3 → hears → q.phase = .seeded → q.gotRun = true → q.badRun = 3 →
      Runs (.downlinkRun p framing f) s (fun t => lost t.ports[p.val]))
    ∧ (q.scanAge ≤ q.staleAfter → exec (.codeStale p c) s = .next s)
    ∧ (q.phase = .seeded → q.staleAfter < q.scanAge → (q.chan c.val).closed = true → (q.chan c.val).portOpen = false →
      Runs (.codeStale p c) s (fun t =>
      let r := t.ports[p.val]
      (r.chan c.val).closed = false ∧ (r.chan c.val).portOpen = true ∧ r.seqFault = true
        ∧ r.diagq = q.diagq ++ [(0x0007, BitVec.ofNat 16 c.val)]))
    ∧ (q.phase = .seeded → Runs (.portLinkLoss p) s (fun t => lost t.ports[p.val]))
    ∧ (q.phase ≠ .seeded → exec (.portLinkLoss p) s = .next s)

/-- Parameter words at the port (R48, R81, R110, R118, R127): an image word is kept in phase IDENT and is a link failure once
the port is seeded; run-time words act in a valid RUN frame alone, FRAME_PHASE_HI only after FRAME_PHASE_LO, from sample 0 of the
cycle that carries it (the model's choice, log entry 90). The resets of its logic keep what holds the switches: the holds until they
decay and the AUX outputs until the CT timer expires. The hold of a safe output, of HS and of DS opens its channel, that of FW one in
CLAMP (R93, R95, R131, R135); that the three act each for itself and that a shed AUX output stays off are the model's readings (log
entries 68 and 69). -/
def Obligations.PortWords : Prop :=
  ∀ (s : State) (p : Fin 8) (a : BitVec 7) (w : Half) (c : Fin 6) (sw : Fin 3) (i : Fin 16),
    let q := s.ports[p.val]
    let leaves (x : Instr) (P : PortSt → Prop) : Prop := Runs x s (fun t => P t.ports[p.val])
    (q.phase = .ident → leaves (.parameterImageWrite p a w) (fun r => r.phase = .ident
      ∧ r.words = q.words.set a.toNat w ∧ r.chans = q.chans))
    ∧ (q.phase = .seeded → leaves (.parameterImageWrite p a w) (fun r => r.phase = .ident ∧ r.words = q.words
      ∧ (r.chan c.val).closed = false ∧ (r.chan c.val).portOpen = true))
    ∧ (q.phase = .seeded → q.gotRun = true →
      leaves (.samplePhase p w) (fun r => r = { q with samplePh := w })
      ∧ leaves (.framePhaseLo p w) (fun r => r = { q with phaseLo := some w })
      ∧ (∀ lo, q.phaseLo = some lo →
        leaves (.framePhaseHi p w) (fun r =>
          r = { q with framePhase := some ((w.setWidth 4 : BitVec 4) ++ lo), phaseAt := s.clock }))
      ∧ leaves (.learnReq p w) (fun r => r.learnReq = w.setWidth 8 ∧ r.chans = q.chans
        ∧ (q.used i.val = true → q.srcOf i.val ≠ 0 → (w.setWidth 8).getLsbD (q.srcOf i.val - 1) = true →
          r.inputs[i.val].learning = true ∧ r.inputs[i.val].learnData = []))
      ∧ leaves (.testNow p w) (fun r => r.inputs = q.inputs
        ∧ (r.chan c.val).asked = ((q.chan c.val).asked
          || (w.getLsbD c.val && q.chanEn c.val && (q.chan c.val).brake != .clamp))))
    ∧ (q.phaseLo = none → exec (.framePhaseHi p w) s = .next s)
    ∧ (q.phase ≠ .seeded ∨ q.gotRun = false → ∀ x ∈ [Instr.samplePhase p w, .framePhaseLo p w, .framePhaseHi p w, .learnReq p w,
      .testNow p w], exec x s = .next s)
    ∧ leaves (.portLogicReset p) (fun r => r.phase = .silent ∧ r.seed = 0 ∧ r.aux = q.aux ∧ r.ctExpired = q.ctExpired
      ∧ (r.chan c.val).closed = (q.chan c.val).closed ∧ (r.chan c.val).charged = (q.chan c.val).charged
      ∧ (r.chan c.val).onPassed = false)
    ∧ (let x := q.chan c.val
      leaves (.yoyoHoldDecay p c sw) (fun r => (∀ d : Fin 6, d ≠ c → r.chan d.val = q.chan d.val)
        ∧ (sw = 0 → (r.chan c.val).charged = false) ∧ (sw = 1 → (r.chan c.val).chargedFw = false)
        ∧ (sw = 2 → (r.chan c.val).chargedDs = false)
        ∧ ((sw = 0 ∧ x.brake ≠ .clamp) ∨ (sw = 1 ∧ x.brake = .clamp) ∨ (sw = 2 ∧ 4 ≤ c.val) →
          (r.chan c.val).closed = false ∧ (r.chan c.val).brake = .off)
        ∧ ((sw = 0 ∧ x.brake = .clamp) ∨ (sw = 1 ∧ x.brake ≠ .clamp) ∨ (sw = 2 ∧ c.val < 4) →
          (r.chan c.val).closed = x.closed ∧ (r.chan c.val).brake = x.brake)))
    ∧ leaves (.ctTimeout p) (fun r => r.ctExpired = true ∧ r.chans = q.chans
      ∧ r.aux = if q.uf2Out || q.auxShed || q.shutdown then 0 else q.strapped &&& ~~~q.auxTrip)

/-! ## Ports: inputs and test pulses -/

/-- Inputs and their test pulses (R103, R105, R107, R111 to R119): a level that lasts the debounce time becomes an edge record,
and the first that does after a link start the settling record; a source goes dark in its own sub-window, which blanks its
inputs, and a pin or an input that does not fall latches them; the second clean pulse of a second clean frame clears a latch; a
blanking window ends after its allowance; shorts and foreign current are reported and latch or name the source; 64 pulses give
the median decay. The model's readings in it: which pulse clears a latch and the 64 pulses (log entry 67), that two samples of 0 in a
row are seen at 0 (log entry 88), a latched or paired input's silence (log entry 66), and a result that waits for UF1 (log entry
101). -/
def Obligations.PortInputs : Prop :=
  ∀ (s : State) (p k : Fin 8) (i : Fin 16) (x : Bool) (read : InputRead) (reads : List InputRead) (ticks : List DarkTick)
    (cyc : BitVec 4) (sample : Fin 10) (full : BitVec 8),
    let q := s.ports[p.val]
    let y := q.inputs[i.val]
    let g := q.sources[k.val]
    let n := q.par (0x10 + i.val)
    let type (i : Nat) := q.par i % 4
    let mine := q.onSource (k.val + 1) i.val = true
    let leaves (x : Instr) (P : PortSt → Prop) : Prop := Runs x s (fun t => P t.ports[p.val])
    let sampled : Prop := q.sampling = true ∧ q.used i.val = true ∧ y.skip = 0 ∧ y.blank = false ∧ q.uf1Missing = false
      ∧ y.latch = false ∧ q.pairShares (i.val / 2) = false ∧ q.edges.length < 32 ∧ q.discards = 0
      ∧ ∀ prev : Bool, sampleOf (type i.val) prev read = x
    let record (settle : Bool) (ofs : Nat) := edgeRecord i.val x settle cyc sample.val ofs
    let st (j : Nat) : InputSt := q.inputs[j]?.getD InputSt.new
    let seen (j : Nat) := darkSamples (type j) j q.uf1Missing (st j).rawNow ticks
    let noted := (List.range 16).filter (fun j => q.onSource (k.val + 1) j && (st j).noted)
    let dark : Option Nat := darkEndTick (q.maxDark (k.val + 1)) (noted.map (fun j => firstDark 0 (seen j))) ticks
    let owner := subWindowOwner (q.windowAt (q.framePos s.clock))
    (sampled → y.settling = false → y.accepted = !x → y.rawAge = none → y.runAge = none → y.backAge = none →
      leaves (.inputEdge p i (List.replicate (n + 1) read) cyc sample) (fun r => r.inputs[i.val].accepted = x
        ∧ r.edges = q.edges ++ [record false n]))
    ∧ (sampled → y.settling = true → y.setAge = none →
      leaves (.inputSettled p i (List.replicate (n + 1) read) cyc sample) (fun r => r.inputs[i.val].accepted = x
        ∧ r.inputs[i.val].settling = false ∧ r.edges = q.edges ++ [record true 0]))
    ∧ (q.pulsing = true → leaves (.pulseFrameStart p full) (fun r => r.inputs[i.val].latch = y.latch
      ∧ r.inputs[i.val].cleanNow = 0 ∧ r.inputs[i.val].cleanFrames = if y.cleanNow = 2 then y.cleanFrames + 1 else 0))
    ∧ (q.pulsing = true → g.shorted = true → g.on = true → q.pulsesMute = false → leaves (.pulseFrameStart p full) (fun r =>
      r.sources[k.val].shorted = !full.getLsbD k.val))
    ∧ (q.pulsing = true → g.on = true → (∀ j : Fin 8, q.sources[j.val].dark = false) → q.maxDark (k.val + 1) ≠ 0 →
      (q.windowStarts (k.val + 1) (q.framePos s.clock) = true →
        leaves (.darkPulseStart p k reads) (fun r => r.sources[k.val].dark = true ∧ r.sources[k.val].darkAt = s.clock
          ∧ (mine → r.inputs[i.val].blank = true ∧ (y.blank = false → q.uf1Missing = false →
            r.inputs[i.val].noted = sampleOf (type i.val) y.rawNow (reads[i.val]?.getD InputRead.none)))
          ∧ (¬ mine → r.inputs[i.val] = y)))
      ∧ (q.windowStarts (k.val + 1) (q.framePos s.clock) = false → leaves (.darkPulseStart p k reads) (fun r => r = q)))
    ∧ (g.dark = true → dark = none → leaves (.darkPulseEnd p k ticks) (fun r => r = q))
    ∧ (∀ e, g.dark = true → q.pulsesMute = false → dark = some e →
      let pinLow : Prop := ((ticks[e]?).map DarkTick.pinMilliVolts).getD 0 < 5000
      let decay := firstDark 0 ((seen i.val).take (e + 1))
      let clears : Prop := y.latch = true ∧ 1 ≤ y.cleanFrames ∧ 1 ≤ y.cleanNow
      leaves (.darkPulseEnd p k ticks) (fun r => r.sources[k.val].dark = false
        ∧ (mine → r.inputs[i.val].blankEnd = some (g.darkAt + e + q.allowance i.val))
        ∧ (mine → ¬ pinLow ∨ (y.noted = true ∧ decay = none) → r.inputs[i.val].latch = true)
        ∧ (mine → pinLow → y.noted = true → decay ≠ none →
          (clears → r.inputs[i.val].latch = false)
            ∧ (¬ clears → r.inputs[i.val].latch = y.latch ∧ r.inputs[i.val].cleanNow = y.cleanNow + 1))))
    ∧ (∀ e, y.blankEnd = some e → e ≤ s.clock → leaves (.blankingWindowEnd p i) (fun r =>
      r.inputs[i.val].blank = false ∧ r.sources = q.sources))
    ∧ (∀ e, y.blankEnd = some e → s.clock < e → leaves (.blankingWindowEnd p i) (fun r => r = q))
    ∧ (q.pulsing = true → g.on = true → g.dark = false → q.pulsesMute = false → owner ≠ (p.val, k.val + 1) →
      leaves (.crossShortSeen p k) (fun r => r = { q with diagq := q.diagq ++ [(0x0112, BitVec.ofNat 16
        (k.val + 8 * owner.1 + 64 * (owner.2 - 1)))] }))
    ∧ (q.sampling = true → g.on = true → g.dark = false → leaves (.sourceShort p k) (fun r => r.sources[k.val].on = false
      ∧ r.sources[k.val].shorted = true ∧ (mine → q.pulsesMute = false → r.inputs[i.val].latch = true)))
    ∧ (y.learning = true → y.learnData.length = 64 → q.pulsesMute = false →
      leaves (.decayLearned p i) (fun r => r.inputs[i.val].learning = false ∧ r.diagq = q.diagq ++
        [if y.learnReason ≠ 0 then (0x0104, BitVec.ofNat 16 (i.val + 16 * y.learnReason))
          else (0x0103, BitVec.ofNat 16 (i.val + 16 * satNat 4095 (medianUp y.learnData)))]))

/-! ## Ports: outputs and supplies -/

/-- The output tests and the brake events (R124 to R127, R130, R132, R133): an OFF-test runs where it is asked for or in its
turn; a passed test is reported and leaves the channel, a failed one opens it with its test-fail latch and is reported; pull-in
and CLAMP end as the current says. That the switch-node check runs whatever OFFT_EN holds is the model's choice (log entry 89), and
the precedence of an ON-test's reasons its reading (log entry 68). -/
def Obligations.PortTests : Prop :=
  ∀ (s : State) (p : Fin 8) (c : Fin 6) (b : Fin 2) (o : OffSeen) (n : OnSeen) (mA : Nat),
    let q := s.ports[p.val]
    let x := q.chan c.val
    let y := q.chan (4 + b.val)
    let leaves (i : Instr) (P : PortSt → Prop) : Prop := Runs i s (fun t => P t.ports[p.val])
    let failed (c : Nat) (d : Half × Nat) (r : PortSt) : Prop := (r.chan c).closed = false ∧ (r.chan c).testFail = true
      ∧ (r.chan c).brake = .off ∧ r.diagq = q.diagq ++ [(d.1, BitVec.ofNat 16 d.2)]
    let passed (kind : Nat) (r : PortSt) : Prop := (r.chan c.val).testFail = x.testFail
      ∧ r.diagq = q.diagq ++ [(0x0201, BitVec.ofNat 16 (c.val + 8 * kind))]
    (x.asked = false → q.offTurn s.clock c.val = false → leaves (.offTest p c o) (fun r => r = q))
    ∧ (q.testsRun c.val = true → x.closed = true → x.asked = true ∨ q.offTurn s.clock c.val = true →
      (o.lowOpened = true → o.highOpened = true ∨ x.brake = .holdPwm →
        leaves (.offTest p c o) (fun r => passed 1 r ∧ (r.chan c.val).closed = true))
      ∧ (o.highOpened = false → x.brake ≠ .holdPwm → leaves (.offTest p c o) (failed c.val (0x0202, c.val)))
      ∧ (o.lowOpened = false → o.highOpened = true → leaves (.offTest p c o) (failed c.val (0x0202, c.val + 8))))
    ∧ (q.testsRun c.val = true → q.gotRun = true → x.closed = false → x.brake = .off → x.offPending = false →
      x.onDue = true ∨ x.asked = true ∨ q.onTurn s.clock c.val = true →
      (onReason n = 0 → leaves (.onTest p c n) (fun r => passed 2 r ∧ (r.chan c.val).onPassed = true))
      ∧ (onReason n ≠ 0 → leaves (.onTest p c n) (failed c.val (0x0203, c.val + 16 * onReason n))))
    ∧ (q.testsRun c.val = true → x.offPending = true →
      (onReason n = 0 → leaves (.switchOffTest p c n) (fun r => passed 3 r ∧ (r.chan c.val).offPending = false
        ∧ (r.chan c.val).onPassed = true))
      ∧ (onReason n ≠ 0 → leaves (.switchOffTest p c n) (failed c.val (0x0203, c.val + 16 * onReason n)))
      ∧ leaves (.switchOffTestTimeout p c) (failed c.val (0x0203, c.val + 80)))
    ∧ (q.phase ≠ .silent → y.brake = .release → y.pullIn = true →
      (mA < 20 → leaves (.brakePullinEnd p b mA) (failed (4 + b.val) (0x0302, 4 + b.val + 256 * amps20 mA)))
      ∧ (20 ≤ mA → leaves (.brakePullinEnd p b mA) (fun r => (r.chan (4 + b.val)).pullIn = false
        ∧ (r.chan (4 + b.val)).brake = (if y.wanted = .holdPwm then .holdPwm else .release) ∧ r.diagq = q.diagq)))
    ∧ (q.phase ≠ .silent → y.brake = .clamp → leaves (.clampEnd p b mA) (fun r => (r.chan (4 + b.val)).brake = .off
      ∧ (r.chan (4 + b.val)).offPending = true
      ∧ r.diagq = q.diagq ++ if mA < 20 then [] else [(0x0303, BitVec.ofNat 16 (4 + b.val + 256 * amps20 mA))]))
    ∧ (q.testsRun (4 + b.val) = true → y.brake = .holdPwm → leaves (.switchNodeMiss p b)
      (failed (4 + b.val) (0x0202, 4 + b.val)))
    ∧ (q.phase ≠ .silent → q.chanEn (4 + b.val) = true → leaves (.bridgeConflict p b)
      (failed (4 + b.val) (0x0301, 4 + b.val)))

/-- The current and temperature limits and the supplies (R137 to R141, Table 6-6): each opens what it names with its latch, reports
it, and turns the AUX outputs off where the rule says so, a tripped one whether the port has a clock or not; the way back follows the
same limits (the AUX outputs' way back is the model's reading, log entry 69). -/
def Obligations.PortSupplies : Prop :=
  ∀ (s : State) (p : Fin 8) (c : Fin 6) (sustained : Bool) (v : Byte) (m : BitVec 4),
    let q := s.ports[p.val]
    let leaves (i : Instr) (P : PortSt → Prop) : Prop := Runs i s (fun t => P t.ports[p.val])
    let report (code : Half) (arg : Nat) := q.diagq ++ [(code, BitVec.ofNat 16 arg)]
    let uf2 : BitVec 3 := (q.supply >>> 3).setWidth 3
    (m &&& q.aux ≠ 0 → leaves (.auxFault p m) (fun r => r.aux &&& (m &&& q.aux) = 0 ∧ r.auxTrip = q.auxTrip ||| (m &&& q.aux)
      ∧ r.diagq = if q.phase = .silent then q.diagq else report 0x0405 (m &&& q.aux).toNat))
    ∧ (q.uf2Out = false → q.auxShed = false → q.shutdown = false →
      leaves (.auxRetry p) (fun r => r.auxTrip = 0 ∧ r.aux = if q.ctExpired then q.strapped else q.auxCmd))
    ∧ (q.phase ≠ .silent →
    ((q.chan c.val).closed = true → leaves (.outputOvercurrent p c sustained v) (fun r => (r.chan c.val).closed = false
      ∧ (r.chan c.val).overcurr = true ∧ r.diagq = report 0x0204 (c.val + 8 * sustained.toNat + 256 * v.toNat)))
    ∧ (q.par 0x52 < v.toNat → leaves (.portOverload p v) (fun r => r.overloaded = true ∧ r.aux = 0 ∧ r.loadI = v
      ∧ r.chans = q.chans ∧ r.diagq = report 0x0402 v.toNat))
    ∧ (v.toNat ≤ q.par 0x52 → leaves (.portOverload p v) (fun r => r.overloaded = false ∧ r.auxShed = false
      ∧ r.chans = q.chans ∧ r.diagq = q.diagq))
    ∧ (q.overloaded = true → q.par 0x52 < v.toNat → leaves (.portOverloadOpen p v) (fun r =>
      r.diagq = report 0x0402 (v.toNat + 256)
        ∧ ∀ c : Fin 6, (r.chan c.val).closed = false ∧ (r.chan c.val).overload = true))
    ∧ leaves (.switchThermalLimit p c) (fun r => (r.chan c.val).closed = false ∧ (r.chan c.val).thermal = true
      ∧ ∀ d : Fin 6, d ≠ c → r.chan d.val = q.chan d.val)
    ∧ (204 ≤ v.toNat → q.hot = false → leaves (.portHot p v) (fun r => r.hot = true ∧ r.temp = v ∧ r.chans = q.chans
      ∧ r.diagq = report 0x0403 v.toNat))
    ∧ (v.toNat < 194 → leaves (.portHot p v) (fun r => r.hot = false ∧ r.shutdown = false ∧ r.temp = v ∧ r.diagq = q.diagq))
    ∧ (219 ≤ v.toNat → leaves (.thermalShutdown p v) (fun r => r.shutdown = true ∧ r.aux = 0
      ∧ r.diagq = report 0x0404 (v.toNat + 256 * q.outState)
      ∧ ∀ c : Fin 6, (r.chan c.val).closed = false ∧ (r.chan c.val).thermal = true))
    ∧ (v.toNat < 40 → uf2.getLsbD 0 = false → leaves (.supplyState p true v) (fun r => r.uf2V = v ∧ r.aux = 0
      ∧ r.supply.getLsbD 3 = true ∧ r.supply.getLsbD 4 = true ∧ r.uf1V = q.uf1V
      ∧ ∀ c : Fin 6, (r.chan c.val).closed = false ∧ (r.chan c.val).supply = true))
    ∧ (v.toNat < 40 → q.uf1Missing = false → leaves (.supplyState p false v) (fun r => r.uf1V = v ∧ r.uf2V = q.uf2V
      ∧ r.pulsesMute = true ∧ r.uf1Missing = true))
    ∧ (supplyFlags uf2 v.toNat = uf2 → leaves (.supplyState p true v) (fun r => r = { q with uf2V := v }.setAux)))

/-! ## The witness strip -/

/-- One line slot of an idle printer begins the next line; of a line under way, within the thermal limits, it steps the motor, fires
the line's dots and moves on one dot line; a limit that binds makes it wait; a pause holds what has not begun; a disabled strip stops
(R351 to R355, R361, R364). The core renders the line; while printing is enabled a sensor gates the printer, which reprints the line
whole once every sensor has read 0 (R360); a disabled strip evaluates no sensor. -/
def Obligations.Strip : Prop :=
  ∀ (s : State) (k : LineKind) (sensors : BitVec 3),
    let on : Prop := printing s = true ∧ s.wp.gated = false ∧ s.wp.jamWait = false ∧ s.db.coreHalted = false
      ∧ s.set.paused = false
    let dots := dotsOf s.wp
    let cold := coldDots dots s.wp.lastLines
    let binds := dutyBinds dots s.wp.fired || heatBinds (lineEnergy s.set.dark.toNat dots cold) s.wp.energy
    let firing : Prop := s.wp.line = some k ∧ s.wp.rendered = true ∧ s.wp.late = false ∧ s.wp.motorOn = true ∧ s.wp.warm = 0
      ∧ s.wp.softSkip = false ∧ s.wp.dotLine < 27
    (on → s.wp.line = none → nextLine s = some k → Runs .lineSlot s (fun t => t.wp.line = some k ∧ t.wp.dotLine = 0
      ∧ t.wp.strobe1 = [] ∧ t.nv = s.nv))
    ∧ (on → firing → binds = false → Runs .lineSlot s (fun t => t.wp.stepPin = true ∧ t.wp.strobe1 = dots
      ∧ t.wp.strobe2 = cold ∧ t.wp.dotLine = s.wp.dotLine + 1 ∧ t.wp.throttled = false ∧ t.wp.lines = s.wp.lines))
    ∧ (on → firing → binds = true → Runs .lineSlot s (fun t => t.wp.stepPin = false ∧ t.wp.strobe1 = []
      ∧ t.wp.dotLine = s.wp.dotLine ∧ t.wp.throttled = true ∧ t.nv = s.nv))
    ∧ (live s = true → s.set.printEnable = false → Runs .lineSlot s (fun t => t.wp.line = none ∧ t.wp.motorOn = false
      ∧ t.wp.strobe1 = [] ∧ t.nv = s.nv))
    ∧ (printing s = true → s.wp.gated = false → s.wp.jamWait = false → s.set.paused = true → s.wp.line = some k → s.wp.dotLine = 0 →
      s.wp.late = false → s.wp.reprint = false → Runs .lineSlot s (fun t => t.wp.line = some k ∧ t.wp.dotLine = 0
        ∧ t.wp.strobe1 = [] ∧ t.wp.stepPin = false ∧ t.nv = s.nv))
    ∧ (printing s = true → s.db.coreHalted = false → s.wp.line = some k → s.wp.rendered = false → s.wp.late = false →
      exec .lineRendered s = .next { s with wp := { s.wp with chars := render k s, rendered := true } })
    ∧ (live s = true → s.set.printEnable = true → sensors ≠ 0 → s.wp.gated = false → JournalOpen s →
      Runs (.printerGated sensors) s (fun t => t.wp.gated = true ∧ t.wp.jamWait = (s.wp.jamWait || sensors.getLsbD 2)
        ∧ t.wp.dotLine = 0 ∧ t.wp.line = s.wp.line ∧ t.wp.throttled = false ∧ t.wp.strobe1 = []
        ∧ (s.wp.line = some k → 0 < s.wp.dotLine → t.wp.reprint = true ∧ t.wp.isRepeat = true)
        ∧ t.wp.gateCount = inc16 s.wp.gateCount ∧ Gained [eventOf 232 0x0F02 .warning (argOf [(0, sensors.toNat)]) s] s t))
    ∧ (live s = true → s.set.printEnable = true → s.wp.gated = true → s.wp.jamWait = false → Runs .printerReady s (fun t =>
      t.wp.gated = false ∧ t.wp.sensors = 0 ∧ t.wp.line = s.wp.line))
    ∧ (live s = true → s.set.printEnable = true → s.wp.gated = true → s.wp.jamWait = true → Runs .printerReady s (fun t =>
      t = { s with wp := { s.wp with sensors := 0 } }))
    ∧ (s.set.printEnable = false → exec (.printerGated sensors) s = .next s ∧ exec .printerReady s = .next s)
    ∧ Runs .motorDisable s (fun t => t.wp.motorOn = false ∧ t.wp.line = s.wp.line ∧ t.nv = s.nv)

/-- No element of the strip fires more than 32 times in any 64 consecutive line slots, whatever step is taken: the printer's
record of the latest slots, to which every slot adds what it strobed, keeps to that; a dot line that would break the limit waits
with no step and no strobe (R354). -/
def Obligations.DutyLimit : Prop :=
  (∀ s t : State, DutyFits s.wp → step s = .next t → DutyFits t.wp) ∧ DutyFits State.reset.wp
    ∧ (∀ s : State, live s = true → Runs .lineSlot s (fun t => ∃ l, t.wp.fired = l :: s.wp.fired.take 63
      ∧ ∀ i : Nat, l[i]?.getD false = t.wp.strobe1[i]?.getD false))
    ∧ ∀ (s : State) (k : LineKind), printing s = true → s.wp.gated = false → s.wp.jamWait = false →
      s.db.coreHalted = false → s.set.paused = false → s.wp.line = some k → s.wp.rendered = true → s.wp.late = false →
      s.wp.motorOn = true → s.wp.warm = 0 → s.wp.softSkip = false → dutyBinds (dotsOf s.wp) s.wp.fired = true →
      Runs .lineSlot s (fun t => t.wp.stepPin = false ∧ t.wp.strobe1 = [] ∧ t.wp.strobe2 = []
        ∧ t.wp.dotLine = s.wp.dotLine ∧ t.wp.line = s.wp.line)

/-! ## The marionette port -/

/-- A request with a wrong CRC is refused with reason 1, one that needs the unlock of a locked port with reason 2, and neither does
anything else; a disabled port and a device without firmware leave the line undriven (R367, R368). -/
def Obligations.ProbeRefusals : Prop :=
  ∀ (s : State) (addr data : Word) (crc : Byte) (i : Instr) (cmd : Byte) (d : Option Word) (needs : Bool),
    (i, cmd, d, needs) ∈ [(Instr.idcode addr crc, (0x01 : Byte), (none : Option Word), false),
        (.status addr crc, 0x02, none, false), (.chalNew addr crc, 0x03, none, false), (.chalRead addr crc, 0x04, none, false),
        (.response addr data crc, 0x05, some data, false), (.memRead addr crc, 0x10, none, true),
        (.memWrite addr data crc, 0x11, some data, true)]
      ++ [(.coreHalt addr crc, 0x20, none, true), (.coreResume addr crc, 0x21, none, true), (.coreStep addr crc, 0x22, none, true),
        (.engHalt addr crc, 0x30, none, true), (.engResume addr crc, 0x31, none, true), (.engStep addr crc, 0x32, none, true),
        (.dbgReset addr crc, 0x40, none, true)] →
    (live s = false ∨ debugDisabled s = true → Runs i s (fun t => t.db.respStatus = dbUndriven ∧ t.db.respData = none
      ∧ t.db.respCrc = none ∧ DebugFrame s t))
    ∧ (live s = true → debugDisabled s = false → crc ≠ probeCrc cmd addr d → Runs i s (fun t => t.db.respStatus = dbRefused
      ∧ t.db.lastReason = 1 ∧ DebugFrame s t))
    ∧ (live s = true → debugDisabled s = false → crc = probeCrc cmd addr d → needs = true → probeLocked s = true →
      Runs i s (fun t => t.db.respStatus = dbRefused ∧ t.db.lastReason = 2 ∧ DebugFrame s t))

/-- Requests that are carried out (R69, R327, R367 to R374): identity, status and challenge are read; the eighth response word
unlocks or counts a failure; memory is read and written where Table 18-2 lets it, the engine's image over its 16 KiB; what is read
comes with its CRC-8; the core halts, steps and is released, from RUN into FAULT; the engine's debug mode begins in STOP, steps one block and ends; DBG_RESET asserts the reset. -/
def Obligations.Probe : Prop :=
  ∀ (s : State) (addr data : Word), live s = true → debugDisabled s = false →
    let crc (cmd : Byte) := probeCrc cmd addr none
    let s' : State := { s with db := { s.db with clockUs := 0 } }
    let answers (i : Instr) (w : Option Word) (P : State → Prop) : Prop :=
      Runs i s (fun t => t.db.respStatus = dbDone ∧ t.db.respData = w ∧ t.db.respCrc = w.map (fun x => crc8 (probeBytes x)) ∧ P t)
    let refuses (i : Instr) (reason : BitVec 4) : Prop :=
      Runs i s (fun t => t.db.respStatus = dbRefused ∧ t.db.lastReason = reason ∧ DebugFrame s t)
    answers (.idcode addr (crc 0x01)) (some s.fu.rom.version) (DebugFrame s)
    ∧ Runs (.status addr (crc 0x02)) s (fun t => t.db.respStatus = dbDone ∧ t.db.respData.isSome = true ∧ DebugFrame s t)
    ∧ (∀ c, s.db.challenge = some c → addr.toNat ≤ 1 → answers (.chalRead addr (crc 0x04))
      (some ((c >>> (32 * addr.toNat)).setWidth 32)) (DebugFrame s))
    ∧ (s.db.challenge = none → addr.toNat ≤ 1 → refuses (.chalRead addr (crc 0x04)) 4)
    ∧ (addr.toNat < 7 → answers (.response addr data (probeCrc 0x05 addr (some data))) none (fun t => DebugFrame s t
      ∧ t.db.respWords = s.db.respWords.setIfInBounds addr.toNat data ∧ t.db.challenge = s.db.challenge))
    ∧ (∀ c, s.db.challenge = some c → addr = 7 → JournalOpen s →
      let given := (s.db.respWords.setIfInBounds 7 data).toList.flatMap bytes4
      (given = expectedResponse c s → answers (.response addr data (probeCrc 0x05 addr (some data))) none (fun t =>
        t.db.unlocked = true ∧ t.db.challenge = none
          ∧ Gained [eventOf 236 0x1001 .warning (argOf [(0, s.db.failures.toNat)]) s] s t))
      ∧ (given ≠ expectedResponse c s → answers (.response addr data (probeCrc 0x05 addr (some data))) none (fun t =>
        t.db.unlocked = s.db.unlocked ∧ t.db.challenge = none ∧ t.db.failures = inc8 s.db.failures ∧ t.db.refuseUs = true)))
    ∧ (probeLocked s = false →
      (∀ k : Fin 8, addr = BitVec.ofNat 32 (0x40001020 + 4 * k.val) →
        answers (.memRead addr (crc 0x10)) (some s.aorf.user[k.val]) (DebugFrame s)
        ∧ answers (.memWrite addr data (probeCrc 0x11 addr (some data))) none (fun t =>
          t.aorf = { s.aorf with user := s.aorf.user.set k.val data } ∧ t.nv = s.nv ∧ t.dev = s.dev))
      ∧ (∀ o, o < 4096 → addr = BitVec.ofNat 32 (0x60000000 + 4 * o) →
        answers (.memWrite addr data (probeCrc 0x11 addr (some data))) none (fun t => t.nv = s.nv ∧ t.dev = s.dev
          ∧ t.en = { s.en with words := t.en.words, beyond := t.en.beyond }
          ∧ (List.range 4).map (fun i => imageByte (4 * o + i) t) = (bytes4 data).map some))
      ∧ (addr.toNat % 4 ≠ 0 → refuses (.memRead addr (crc 0x10)) 3
        ∧ refuses (.memWrite addr data (probeCrc 0x11 addr (some data))) 3)
      ∧ (haltAllowed s = true → answers (.coreHalt addr (crc 0x20)) none (fun t => t.db.coreHalted = true
        ∧ t.dev.heldState = s.dev.dvState ∧ t.dev.dvState = .debugHalt ∧ t.db.haltCount = inc16 s.db.haltCount))
      ∧ (s.db.coreHalted = true → s.nv.chains = [] → s.cm.buffer = none →
        (s.dev.heldState = .stop → s.en.haltedRun = false ∨ s.dev.faultCode ≠ 0x01 → answers (.coreResume addr (crc 0x21)) none (fun t => t.db.coreHalted = false
          ∧ t.dev.dvState = .stop))
        ∧ (s.dev.heldState = .run → s.dev.faultCode ≠ 0x01 → answers (.coreResume addr (crc 0x21)) none (fun t =>
          t.db.coreHalted = false ∧ t.dev.dvState = .fault ∧ t.dev.faultCode = 0x07))
        ∧ answers (.coreStep addr (crc 0x22)) none (fun t => t.db.coreHalted = true ∧ t.dev = s.dev ∧ t.en = s.en))
      ∧ (s.db.coreHalted = false → refuses (.coreResume addr (crc 0x21)) 4 ∧ refuses (.coreStep addr (crc 0x22)) 4)
      ∧ (s.dev.dvState = .stop → answers (.engHalt addr (crc 0x30)) none (fun t => t.en.debug = true ∧ t.en.dryStep = 0
        ∧ t.dev = s.dev ∧ t.db.engCount = inc16 s.db.engCount))
      ∧ (s.dev.dvState ≠ .stop → refuses (.engHalt addr (crc 0x30)) 4)
      ∧ answers (.engResume addr (crc 0x31)) none (fun t => t.en = { s.en with debug := false, dryStep := 0 })
      ∧ (∀ im ix b, s.en.debug = true → s.en.image = some im → im.order[s.en.dryStep]? = some ix → im.blocks[ix]? = some b →
        answers (.engStep addr (crc 0x32)) none (fun t => t.en.words = (dryBlock im ix b s').words
          ∧ t.en.blocks = s.en.blocks ∧ t.en.scanNo = s.en.scanNo ∧ t.dev = s.dev))
      ∧ (s.en.debug = false → refuses (.engStep addr (crc 0x32)) 4)
      ∧ (s.dev.phase = .running → answers (.dbgReset addr (crc 0x40)) none (fun t => t.dev.phase = .inReset
        ∧ t.dev.cause = 8 ∧ t.tb.counter = s.tb.counter ∧ t.cm = Cmd.new)))

/-- A breakpoint or watchpoint hit halts the core as CORE_HALT does, and not in BOOT and VERIFY; a watchpoint is hit by an access of its
kind at its word but for the low bits it ignores; only a DEBUG reset keeps what is armed (R371). A transfer that times out leaves the
line undriven; a protocol reset shows the clock, and a request with a command that does not exist is refused with reason 5 (that it
comes with that row is the model's choice, log entry 50); a challenge expires; the second of refusals ends (R327, R366, R369). -/
def Obligations.DebugEvents : Prop :=
  ∀ (s : State) (access : Option (Word × Bool)) (pc : Word) (tear : Tear) (why : BitVec 3) (byNrst : Bool),
    let halts (t : State) : Prop := t.db.coreHalted = true ∧ t.dev.dvState = .debugHalt ∧ t.dev.heldState = s.dev.dvState
      ∧ t.db.haltCount = inc16 s.db.haltCount ∧ t.db.haltUs = s.clock ∧ t.ports = s.ports ∧ t.set = s.set ∧ t.cm = s.cm
    (haltAllowed s = true → debugDisabled s = false → breakArmed access pc s = true →
      Runs (.breakpointHit access pc) s (fun t => halts t ∧ t.db.haltAddr = pc)
      ∧ (probeLocked s = false → Runs (.coreHalt 0 (probeCrc 0x20 0 none)) s halts))
    ∧ (inBoot s = true ∨ breakArmed access pc s = false → exec (.breakpointHit access pc) s = .next s)
    ∧ (∀ (j : Fin 4) (addr : Word) (write : Bool), haltAllowed s = true → debugDisabled s = false →
      s.db.wpAddr[j.val] >>> 2 = addr >>> 2 → s.db.wpCtrl[j.val] = (if write then 5 else 3) →
      Runs (.breakpointHit (some (addr, write)) pc) s halts)
    ∧ (∀ (addr : Word) (write : Bool), (∀ j : Fin 4, (s.db.wpCtrl[j.val]).getLsbD (if write then 2 else 1) = false) →
      exec (.breakpointHit (some (addr, write)) pc) s = .next s)
    ∧ (inBoot s = true → live s = true → debugDisabled s = false → probeLocked s = false →
      Runs (.coreHalt 0 (probeCrc 0x20 0 none)) s (fun t => t.db.respStatus = dbRefused ∧ t.db.lastReason = 4
        ∧ DebugFrame s t))
    ∧ (∀ i ∈ [Instr.powerOn tear, .brownOut tear, .pin, .clockWindowTrip why tear], s.dev.phase = .running →
      Runs i s (fun t => t.db = Debug.new))
    ∧ (s.dev.phase = .running → s.db.coreHalted = false → Runs .watchdog s (fun t => t.db = Debug.new))
    ∧ (s.dev.phase = .dormant → Runs (.dormantWake byNrst) s (fun t => t.db = Debug.new))
    ∧ (s.dev.phase = .running → debugDisabled s = false → probeLocked s = false →
      Runs (.dbgReset 0 (probeCrc 0x40 0 none)) s (fun t => t.db.bps = s.db.bps ∧ t.db.wpAddr = s.db.wpAddr
        ∧ t.db.wpCtrl = s.db.wpCtrl))
    ∧ (live s = true → debugDisabled s = false →
      Runs .debugTransferTimeout s (fun t => t.db.respStatus = dbUndriven ∧ 10000 ≤ t.db.clockUs ∧ DebugFrame s t)
      ∧ Runs (.debugProtocolReset none) s (fun t => t.db.respStatus = dbUndriven ∧ t.db.clockUs = 0 ∧ DebugFrame s t)
      ∧ ∀ (cmd : Byte) (addr : Word), knownCmd cmd = false →
        Runs (.debugProtocolReset (some (cmd, addr, probeCrc cmd addr none))) s (fun t => t.db.respStatus = dbRefused
          ∧ t.db.lastReason = 5 ∧ DebugFrame s t))
    ∧ Runs .debugChallengeExpiry s (fun t => t.db.challenge = none ∧ t.db.failures = s.db.failures ∧ DebugFrame s t)
    ∧ Runs .unlockRefusalEnd s (fun t => t = { s with db := { s.db with refuseUs := false } })
end

