-- ==== Sys2Proof/Laws/Coded.lean ====
section
/-! SUPPORT. The self-tests of a scan pass on every D_k: the coder test, the canary and the sixteen operator vectors (R154). -/

namespace Sys2Proof.Machine

/-- A word is taken apart into the code of its value (R152). -/
@[simp] theorem uOf_encodeWord (x : Nat) (b d : Word) : uOf (encodeWord x b d) b d = BitVec.ofNat 32 (codeA * x) := by
  unfold uOf encodeWord; bv_omega

theorem encodeWord_sub (x : Nat) (b d : Word) : encodeWord x b d - d - b = BitVec.ofNat 32 (codeA * x) := uOf_encodeWord x b d

theorem coderPasses_always (d : Word) : coderPasses d = true := by
  unfold coderPasses; rw [uOf_encodeWord, uOf_encodeWord]; decide

theorem canaryRejected_always : canaryRejected = true := by decide

theorem opVector_passes (n : BitVec 4) (d : Word) : (opVector n).passes d = true := by
  obtain ⟨n⟩ := n
  unfold OpVector.passes
  rw [beq_iff_eq]
  fin_cases n <;> simp only [opVector, CodedOp.word, uOf_encodeWord, encodeWord_sub] <;>
    simp [encodeWord, CodedOp.plain, codeA, quotU, remU, decideU] <;> bv_omega

end Sys2Proof.Machine
end

