-- ==== Sys2Proof/Laws/State.lean ====
section
/-! SUPPORT. What each shared operation over the state can change: one equation that names the parts it writes, and from it one
lemma for each part that it leaves as it was. -/

namespace Sys2Proof.Machine

variable (time : DWord) (src : Nat) (code : Half) (c : Cls) (arg : DWord) (f : Params → Params)

/-! ### raiseCause -/

theorem raiseCause_eq (bit : Nat) (s : State) :
    raiseCause bit s = { s with hb := (raiseCause bit s).hb } := by
  unfold raiseCause; split <;> rfl
@[simp] theorem raiseCause_pending (bit : Nat) (s : State) : (raiseCause bit s).pending = s.pending := by rw [raiseCause_eq]
@[simp] theorem raiseCause_clock (bit : Nat) (s : State) : (raiseCause bit s).clock = s.clock := by rw [raiseCause_eq]
@[simp] theorem raiseCause_fresh (bit : Nat) (s : State) : (raiseCause bit s).fresh = s.fresh := by rw [raiseCause_eq]
@[simp] theorem raiseCause_dev (bit : Nat) (s : State) : (raiseCause bit s).dev = s.dev := by rw [raiseCause_eq]
@[simp] theorem raiseCause_aorf (bit : Nat) (s : State) : (raiseCause bit s).aorf = s.aorf := by rw [raiseCause_eq]
@[simp] theorem raiseCause_tb (bit : Nat) (s : State) : (raiseCause bit s).tb = s.tb := by rw [raiseCause_eq]
@[simp] theorem raiseCause_set (bit : Nat) (s : State) : (raiseCause bit s).set = s.set := by rw [raiseCause_eq]
@[simp] theorem raiseCause_nv (bit : Nat) (s : State) : (raiseCause bit s).nv = s.nv := by rw [raiseCause_eq]
@[simp] theorem raiseCause_jr (bit : Nat) (s : State) : (raiseCause bit s).jr = s.jr := by rw [raiseCause_eq]
@[simp] theorem raiseCause_cm (bit : Nat) (s : State) : (raiseCause bit s).cm = s.cm := by rw [raiseCause_eq]
@[simp] theorem raiseCause_en (bit : Nat) (s : State) : (raiseCause bit s).en = s.en := by rw [raiseCause_eq]
@[simp] theorem raiseCause_sf (bit : Nat) (s : State) : (raiseCause bit s).sf = s.sf := by rw [raiseCause_eq]
@[simp] theorem raiseCause_ent (bit : Nat) (s : State) : (raiseCause bit s).ent = s.ent := by rw [raiseCause_eq]
@[simp] theorem raiseCause_links (bit : Nat) (s : State) : (raiseCause bit s).links = s.links := by rw [raiseCause_eq]
@[simp] theorem raiseCause_ports (bit : Nat) (s : State) : (raiseCause bit s).ports = s.ports := by rw [raiseCause_eq]
@[simp] theorem raiseCause_short (bit : Nat) (s : State) : (raiseCause bit s).short = s.short := by rw [raiseCause_eq]
@[simp] theorem raiseCause_wp (bit : Nat) (s : State) : (raiseCause bit s).wp = s.wp := by rw [raiseCause_eq]
@[simp] theorem raiseCause_fu (bit : Nat) (s : State) : (raiseCause bit s).fu = s.fu := by rw [raiseCause_eq]
@[simp] theorem raiseCause_db (bit : Nat) (s : State) : (raiseCause bit s).db = s.db := by rw [raiseCause_eq]
@[simp] theorem raiseCause_sram (bit : Nat) (s : State) : (raiseCause bit s).sram = s.sram := by rw [raiseCause_eq]

/-! ### setItem -/

theorem setItem_eq (s : State) :
    setItem f s = { s with nv := (setItem f s).nv } := rfl
@[simp] theorem setItem_pending (s : State) : (setItem f s).pending = s.pending := by rw [setItem_eq]
@[simp] theorem setItem_clock (s : State) : (setItem f s).clock = s.clock := by rw [setItem_eq]
@[simp] theorem setItem_fresh (s : State) : (setItem f s).fresh = s.fresh := by rw [setItem_eq]
@[simp] theorem setItem_dev (s : State) : (setItem f s).dev = s.dev := by rw [setItem_eq]
@[simp] theorem setItem_aorf (s : State) : (setItem f s).aorf = s.aorf := by rw [setItem_eq]
@[simp] theorem setItem_tb (s : State) : (setItem f s).tb = s.tb := by rw [setItem_eq]
@[simp] theorem setItem_set (s : State) : (setItem f s).set = s.set := by rw [setItem_eq]
@[simp] theorem setItem_jr (s : State) : (setItem f s).jr = s.jr := by rw [setItem_eq]
@[simp] theorem setItem_hb (s : State) : (setItem f s).hb = s.hb := by rw [setItem_eq]
@[simp] theorem setItem_cm (s : State) : (setItem f s).cm = s.cm := by rw [setItem_eq]
@[simp] theorem setItem_en (s : State) : (setItem f s).en = s.en := by rw [setItem_eq]
@[simp] theorem setItem_sf (s : State) : (setItem f s).sf = s.sf := by rw [setItem_eq]
@[simp] theorem setItem_ent (s : State) : (setItem f s).ent = s.ent := by rw [setItem_eq]
@[simp] theorem setItem_links (s : State) : (setItem f s).links = s.links := by rw [setItem_eq]
@[simp] theorem setItem_ports (s : State) : (setItem f s).ports = s.ports := by rw [setItem_eq]
@[simp] theorem setItem_short (s : State) : (setItem f s).short = s.short := by rw [setItem_eq]
@[simp] theorem setItem_wp (s : State) : (setItem f s).wp = s.wp := by rw [setItem_eq]
@[simp] theorem setItem_fu (s : State) : (setItem f s).fu = s.fu := by rw [setItem_eq]
@[simp] theorem setItem_db (s : State) : (setItem f s).db = s.db := by rw [setItem_eq]
@[simp] theorem setItem_sram (s : State) : (setItem f s).sram = s.sram := by rw [setItem_eq]

/-! ### queueEvent -/

theorem queueEvent_eq (s : State) :
    queueEvent time src code c arg s = { s with nv := (queueEvent time src code c arg s).nv, jr := (queueEvent time src code c arg s).jr, hb := (queueEvent time src code c arg s).hb } := by
  unfold queueEvent; split; · rfl
  split
  · dsimp only; split
    · rw [raiseCause_eq, setItem_eq]
    · rfl
  · rfl
@[simp] theorem queueEvent_pending (s : State) : (queueEvent time src code c arg s).pending = s.pending := by rw [queueEvent_eq]
@[simp] theorem queueEvent_clock (s : State) : (queueEvent time src code c arg s).clock = s.clock := by rw [queueEvent_eq]
@[simp] theorem queueEvent_fresh (s : State) : (queueEvent time src code c arg s).fresh = s.fresh := by rw [queueEvent_eq]
@[simp] theorem queueEvent_dev (s : State) : (queueEvent time src code c arg s).dev = s.dev := by rw [queueEvent_eq]
@[simp] theorem queueEvent_aorf (s : State) : (queueEvent time src code c arg s).aorf = s.aorf := by rw [queueEvent_eq]
@[simp] theorem queueEvent_tb (s : State) : (queueEvent time src code c arg s).tb = s.tb := by rw [queueEvent_eq]
@[simp] theorem queueEvent_set (s : State) : (queueEvent time src code c arg s).set = s.set := by rw [queueEvent_eq]
@[simp] theorem queueEvent_cm (s : State) : (queueEvent time src code c arg s).cm = s.cm := by rw [queueEvent_eq]
@[simp] theorem queueEvent_en (s : State) : (queueEvent time src code c arg s).en = s.en := by rw [queueEvent_eq]
@[simp] theorem queueEvent_sf (s : State) : (queueEvent time src code c arg s).sf = s.sf := by rw [queueEvent_eq]
@[simp] theorem queueEvent_ent (s : State) : (queueEvent time src code c arg s).ent = s.ent := by rw [queueEvent_eq]
@[simp] theorem queueEvent_links (s : State) : (queueEvent time src code c arg s).links = s.links := by rw [queueEvent_eq]
@[simp] theorem queueEvent_ports (s : State) : (queueEvent time src code c arg s).ports = s.ports := by rw [queueEvent_eq]
@[simp] theorem queueEvent_short (s : State) : (queueEvent time src code c arg s).short = s.short := by rw [queueEvent_eq]
@[simp] theorem queueEvent_wp (s : State) : (queueEvent time src code c arg s).wp = s.wp := by rw [queueEvent_eq]
@[simp] theorem queueEvent_fu (s : State) : (queueEvent time src code c arg s).fu = s.fu := by rw [queueEvent_eq]
@[simp] theorem queueEvent_db (s : State) : (queueEvent time src code c arg s).db = s.db := by rw [queueEvent_eq]
@[simp] theorem queueEvent_sram (s : State) : (queueEvent time src code c arg s).sram = s.sram := by rw [queueEvent_eq]

/-! ### setPending -/

theorem setPending_eq (s : State) :
    setPending src s = { s with jr := (setPending src s).jr, hb := (setPending src s).hb } := by
  unfold setPending; dsimp only; split; · rfl
  rw [raiseCause_eq]
@[simp] theorem setPending_pending (s : State) : (setPending src s).pending = s.pending := by rw [setPending_eq]
@[simp] theorem setPending_clock (s : State) : (setPending src s).clock = s.clock := by rw [setPending_eq]
@[simp] theorem setPending_fresh (s : State) : (setPending src s).fresh = s.fresh := by rw [setPending_eq]
@[simp] theorem setPending_dev (s : State) : (setPending src s).dev = s.dev := by rw [setPending_eq]
@[simp] theorem setPending_aorf (s : State) : (setPending src s).aorf = s.aorf := by rw [setPending_eq]
@[simp] theorem setPending_tb (s : State) : (setPending src s).tb = s.tb := by rw [setPending_eq]
@[simp] theorem setPending_set (s : State) : (setPending src s).set = s.set := by rw [setPending_eq]
@[simp] theorem setPending_nv (s : State) : (setPending src s).nv = s.nv := by rw [setPending_eq]
@[simp] theorem setPending_cm (s : State) : (setPending src s).cm = s.cm := by rw [setPending_eq]
@[simp] theorem setPending_en (s : State) : (setPending src s).en = s.en := by rw [setPending_eq]
@[simp] theorem setPending_sf (s : State) : (setPending src s).sf = s.sf := by rw [setPending_eq]
@[simp] theorem setPending_ent (s : State) : (setPending src s).ent = s.ent := by rw [setPending_eq]
@[simp] theorem setPending_links (s : State) : (setPending src s).links = s.links := by rw [setPending_eq]
@[simp] theorem setPending_ports (s : State) : (setPending src s).ports = s.ports := by rw [setPending_eq]
@[simp] theorem setPending_short (s : State) : (setPending src s).short = s.short := by rw [setPending_eq]
@[simp] theorem setPending_wp (s : State) : (setPending src s).wp = s.wp := by rw [setPending_eq]
@[simp] theorem setPending_fu (s : State) : (setPending src s).fu = s.fu := by rw [setPending_eq]
@[simp] theorem setPending_db (s : State) : (setPending src s).db = s.db := by rw [setPending_eq]
@[simp] theorem setPending_sram (s : State) : (setPending src s).sram = s.sram := by rw [setPending_eq]

/-! ### noteUnreached and commitRecord -/

theorem noteUnreached_eq (r : Option Record) (s : State) : noteUnreached r s = { s with nv := (noteUnreached r s).nv } := by
  unfold noteUnreached; split
  · split <;> rfl
  · rfl

theorem commitRecord_eq (r : Record) (s : State) :
    commitRecord r s = { s with nv := (commitRecord r s).nv } := by
  unfold commitRecord; dsimp only; rw [noteUnreached_eq]; split <;> rfl
@[simp] theorem commitRecord_pending (r : Record) (s : State) : (commitRecord r s).pending = s.pending := by rw [commitRecord_eq]
@[simp] theorem commitRecord_clock (r : Record) (s : State) : (commitRecord r s).clock = s.clock := by rw [commitRecord_eq]
@[simp] theorem commitRecord_fresh (r : Record) (s : State) : (commitRecord r s).fresh = s.fresh := by rw [commitRecord_eq]
@[simp] theorem commitRecord_dev (r : Record) (s : State) : (commitRecord r s).dev = s.dev := by rw [commitRecord_eq]
@[simp] theorem commitRecord_aorf (r : Record) (s : State) : (commitRecord r s).aorf = s.aorf := by rw [commitRecord_eq]
@[simp] theorem commitRecord_tb (r : Record) (s : State) : (commitRecord r s).tb = s.tb := by rw [commitRecord_eq]
@[simp] theorem commitRecord_set (r : Record) (s : State) : (commitRecord r s).set = s.set := by rw [commitRecord_eq]
@[simp] theorem commitRecord_jr (r : Record) (s : State) : (commitRecord r s).jr = s.jr := by rw [commitRecord_eq]
@[simp] theorem commitRecord_hb (r : Record) (s : State) : (commitRecord r s).hb = s.hb := by rw [commitRecord_eq]
@[simp] theorem commitRecord_cm (r : Record) (s : State) : (commitRecord r s).cm = s.cm := by rw [commitRecord_eq]
@[simp] theorem commitRecord_en (r : Record) (s : State) : (commitRecord r s).en = s.en := by rw [commitRecord_eq]
@[simp] theorem commitRecord_sf (r : Record) (s : State) : (commitRecord r s).sf = s.sf := by rw [commitRecord_eq]
@[simp] theorem commitRecord_ent (r : Record) (s : State) : (commitRecord r s).ent = s.ent := by rw [commitRecord_eq]
@[simp] theorem commitRecord_links (r : Record) (s : State) : (commitRecord r s).links = s.links := by rw [commitRecord_eq]
@[simp] theorem commitRecord_ports (r : Record) (s : State) : (commitRecord r s).ports = s.ports := by rw [commitRecord_eq]
@[simp] theorem commitRecord_short (r : Record) (s : State) : (commitRecord r s).short = s.short := by rw [commitRecord_eq]
@[simp] theorem commitRecord_wp (r : Record) (s : State) : (commitRecord r s).wp = s.wp := by rw [commitRecord_eq]
@[simp] theorem commitRecord_fu (r : Record) (s : State) : (commitRecord r s).fu = s.fu := by rw [commitRecord_eq]
@[simp] theorem commitRecord_db (r : Record) (s : State) : (commitRecord r s).db = s.db := by rw [commitRecord_eq]
@[simp] theorem commitRecord_sram (r : Record) (s : State) : (commitRecord r s).sram = s.sram := by rw [commitRecord_eq]

/-! ### loseMacro -/

theorem loseMacro_eq (b : Bool) (kind : Nat) (addr : Word) (spoilt : Option (Nat × Nat)) (s : State) :
    loseMacro b kind addr spoilt s = { s with nv := (loseMacro b kind addr spoilt s).nv, jr := (loseMacro b kind addr spoilt s).jr, hb := (loseMacro b kind addr spoilt s).hb } := by
  unfold loseMacro; split; · rfl
  dsimp only; rw [raiseCause_eq, queueEvent_eq, setItem_eq]

/-! ### countRetries -/

theorem countRetries_eq (b : Bool) (addr len : Nat) (s : State) :
    countRetries b addr len s = { s with nv := (countRetries b addr len s).nv, jr := (countRetries b addr len s).jr } := by
  unfold countRetries; split <;> rfl

/-! ### writeFailed -/

theorem writeFailed_eq (b : Bool) (word addr len : Nat) (s : State) :
    writeFailed b word addr len s = { s with nv := (writeFailed b word addr len s).nv, jr := (writeFailed b word addr len s).jr, hb := (writeFailed b word addr len s).hb } := by
  unfold writeFailed; rw [loseMacro_eq, countRetries_eq]

/-! ### tryParams -/

theorem tryParams_eq (s : State) :
    tryParams s = { s with nv := (tryParams s).nv, jr := (tryParams s).jr, hb := (tryParams s).hb } := by
  unfold tryParams; split; · rfl
  dsimp only; split
  · exact writeFailed_eq _ _ _ _ s
  · rw [countRetries_eq]

/-! ### writeParams -/

theorem writeParams_eq (s : State) :
    writeParams s = { s with nv := (writeParams s).nv, jr := (writeParams s).jr, hb := (writeParams s).hb } := by
  unfold writeParams; dsimp only
  have h := tryParams_eq { s with nv := { s.nv with due := true } }
  split
  · rw [tryParams_eq, h]
  · exact h
@[simp] theorem writeParams_pending (s : State) : (writeParams s).pending = s.pending := by rw [writeParams_eq]
@[simp] theorem writeParams_clock (s : State) : (writeParams s).clock = s.clock := by rw [writeParams_eq]
@[simp] theorem writeParams_fresh (s : State) : (writeParams s).fresh = s.fresh := by rw [writeParams_eq]
@[simp] theorem writeParams_dev (s : State) : (writeParams s).dev = s.dev := by rw [writeParams_eq]
@[simp] theorem writeParams_aorf (s : State) : (writeParams s).aorf = s.aorf := by rw [writeParams_eq]
@[simp] theorem writeParams_tb (s : State) : (writeParams s).tb = s.tb := by rw [writeParams_eq]
@[simp] theorem writeParams_set (s : State) : (writeParams s).set = s.set := by rw [writeParams_eq]
@[simp] theorem writeParams_cm (s : State) : (writeParams s).cm = s.cm := by rw [writeParams_eq]
@[simp] theorem writeParams_en (s : State) : (writeParams s).en = s.en := by rw [writeParams_eq]
@[simp] theorem writeParams_sf (s : State) : (writeParams s).sf = s.sf := by rw [writeParams_eq]
@[simp] theorem writeParams_ent (s : State) : (writeParams s).ent = s.ent := by rw [writeParams_eq]
@[simp] theorem writeParams_links (s : State) : (writeParams s).links = s.links := by rw [writeParams_eq]
@[simp] theorem writeParams_ports (s : State) : (writeParams s).ports = s.ports := by rw [writeParams_eq]
@[simp] theorem writeParams_short (s : State) : (writeParams s).short = s.short := by rw [writeParams_eq]
@[simp] theorem writeParams_wp (s : State) : (writeParams s).wp = s.wp := by rw [writeParams_eq]
@[simp] theorem writeParams_fu (s : State) : (writeParams s).fu = s.fu := by rw [writeParams_eq]
@[simp] theorem writeParams_db (s : State) : (writeParams s).db = s.db := by rw [writeParams_eq]
@[simp] theorem writeParams_sram (s : State) : (writeParams s).sram = s.sram := by rw [writeParams_eq]

/-! ### storeItem -/

theorem storeItem_eq (s : State) :
    storeItem f s = { s with nv := (storeItem f s).nv, jr := (storeItem f s).jr, hb := (storeItem f s).hb } := by
  unfold storeItem; rw [writeParams_eq, setItem_eq]
@[simp] theorem storeItem_pending (s : State) : (storeItem f s).pending = s.pending := by rw [storeItem_eq]
@[simp] theorem storeItem_clock (s : State) : (storeItem f s).clock = s.clock := by rw [storeItem_eq]
@[simp] theorem storeItem_fresh (s : State) : (storeItem f s).fresh = s.fresh := by rw [storeItem_eq]
@[simp] theorem storeItem_dev (s : State) : (storeItem f s).dev = s.dev := by rw [storeItem_eq]
@[simp] theorem storeItem_aorf (s : State) : (storeItem f s).aorf = s.aorf := by rw [storeItem_eq]
@[simp] theorem storeItem_tb (s : State) : (storeItem f s).tb = s.tb := by rw [storeItem_eq]
@[simp] theorem storeItem_set (s : State) : (storeItem f s).set = s.set := by rw [storeItem_eq]
@[simp] theorem storeItem_cm (s : State) : (storeItem f s).cm = s.cm := by rw [storeItem_eq]
@[simp] theorem storeItem_en (s : State) : (storeItem f s).en = s.en := by rw [storeItem_eq]
@[simp] theorem storeItem_sf (s : State) : (storeItem f s).sf = s.sf := by rw [storeItem_eq]
@[simp] theorem storeItem_ent (s : State) : (storeItem f s).ent = s.ent := by rw [storeItem_eq]
@[simp] theorem storeItem_links (s : State) : (storeItem f s).links = s.links := by rw [storeItem_eq]
@[simp] theorem storeItem_ports (s : State) : (storeItem f s).ports = s.ports := by rw [storeItem_eq]
@[simp] theorem storeItem_short (s : State) : (storeItem f s).short = s.short := by rw [storeItem_eq]
@[simp] theorem storeItem_wp (s : State) : (storeItem f s).wp = s.wp := by rw [storeItem_eq]
@[simp] theorem storeItem_fu (s : State) : (storeItem f s).fu = s.fu := by rw [storeItem_eq]
@[simp] theorem storeItem_db (s : State) : (storeItem f s).db = s.db := by rw [storeItem_eq]
@[simp] theorem storeItem_sram (s : State) : (storeItem f s).sram = s.sram := by rw [storeItem_eq]

/-! ### macroFail -/

theorem macroFail_eq (b : Bool) (kind : Nat) (addr : Word) (spoilt : Option (Nat × Nat)) (s : State) :
    macroFail b kind addr spoilt s = { s with nv := (macroFail b kind addr spoilt s).nv, jr := (macroFail b kind addr spoilt s).jr, hb := (macroFail b kind addr spoilt s).hb } := by
  unfold macroFail; split; · rfl
  rw [writeParams_eq, loseMacro_eq]
@[simp] theorem macroFail_pending (b : Bool) (kind : Nat) (addr : Word) (spoilt : Option (Nat × Nat)) (s : State) : (macroFail b kind addr spoilt s).pending = s.pending := by rw [macroFail_eq]
@[simp] theorem macroFail_clock (b : Bool) (kind : Nat) (addr : Word) (spoilt : Option (Nat × Nat)) (s : State) : (macroFail b kind addr spoilt s).clock = s.clock := by rw [macroFail_eq]
@[simp] theorem macroFail_fresh (b : Bool) (kind : Nat) (addr : Word) (spoilt : Option (Nat × Nat)) (s : State) : (macroFail b kind addr spoilt s).fresh = s.fresh := by rw [macroFail_eq]
@[simp] theorem macroFail_dev (b : Bool) (kind : Nat) (addr : Word) (spoilt : Option (Nat × Nat)) (s : State) : (macroFail b kind addr spoilt s).dev = s.dev := by rw [macroFail_eq]
@[simp] theorem macroFail_aorf (b : Bool) (kind : Nat) (addr : Word) (spoilt : Option (Nat × Nat)) (s : State) : (macroFail b kind addr spoilt s).aorf = s.aorf := by rw [macroFail_eq]
@[simp] theorem macroFail_tb (b : Bool) (kind : Nat) (addr : Word) (spoilt : Option (Nat × Nat)) (s : State) : (macroFail b kind addr spoilt s).tb = s.tb := by rw [macroFail_eq]
@[simp] theorem macroFail_set (b : Bool) (kind : Nat) (addr : Word) (spoilt : Option (Nat × Nat)) (s : State) : (macroFail b kind addr spoilt s).set = s.set := by rw [macroFail_eq]
@[simp] theorem macroFail_cm (b : Bool) (kind : Nat) (addr : Word) (spoilt : Option (Nat × Nat)) (s : State) : (macroFail b kind addr spoilt s).cm = s.cm := by rw [macroFail_eq]
@[simp] theorem macroFail_en (b : Bool) (kind : Nat) (addr : Word) (spoilt : Option (Nat × Nat)) (s : State) : (macroFail b kind addr spoilt s).en = s.en := by rw [macroFail_eq]
@[simp] theorem macroFail_sf (b : Bool) (kind : Nat) (addr : Word) (spoilt : Option (Nat × Nat)) (s : State) : (macroFail b kind addr spoilt s).sf = s.sf := by rw [macroFail_eq]
@[simp] theorem macroFail_ent (b : Bool) (kind : Nat) (addr : Word) (spoilt : Option (Nat × Nat)) (s : State) : (macroFail b kind addr spoilt s).ent = s.ent := by rw [macroFail_eq]
@[simp] theorem macroFail_links (b : Bool) (kind : Nat) (addr : Word) (spoilt : Option (Nat × Nat)) (s : State) : (macroFail b kind addr spoilt s).links = s.links := by rw [macroFail_eq]
@[simp] theorem macroFail_ports (b : Bool) (kind : Nat) (addr : Word) (spoilt : Option (Nat × Nat)) (s : State) : (macroFail b kind addr spoilt s).ports = s.ports := by rw [macroFail_eq]
@[simp] theorem macroFail_short (b : Bool) (kind : Nat) (addr : Word) (spoilt : Option (Nat × Nat)) (s : State) : (macroFail b kind addr spoilt s).short = s.short := by rw [macroFail_eq]
@[simp] theorem macroFail_wp (b : Bool) (kind : Nat) (addr : Word) (spoilt : Option (Nat × Nat)) (s : State) : (macroFail b kind addr spoilt s).wp = s.wp := by rw [macroFail_eq]
@[simp] theorem macroFail_fu (b : Bool) (kind : Nat) (addr : Word) (spoilt : Option (Nat × Nat)) (s : State) : (macroFail b kind addr spoilt s).fu = s.fu := by rw [macroFail_eq]
@[simp] theorem macroFail_db (b : Bool) (kind : Nat) (addr : Word) (spoilt : Option (Nat × Nat)) (s : State) : (macroFail b kind addr spoilt s).db = s.db := by rw [macroFail_eq]
@[simp] theorem macroFail_sram (b : Bool) (kind : Nat) (addr : Word) (spoilt : Option (Nat × Nat)) (s : State) : (macroFail b kind addr spoilt s).sram = s.sram := by rw [macroFail_eq]

/-! ### writeOne -/

theorem writeOne_eq (b : Bool) (addr len : Nat) (s : State) :
    writeOne b addr len s = { s with nv := (writeOne b addr len s).nv, jr := (writeOne b addr len s).jr, hb := (writeOne b addr len s).hb } := by
  unfold writeOne; split; · rfl
  split
  · rw [writeParams_eq, writeFailed_eq]
  · rw [countRetries_eq]
@[simp] theorem writeOne_pending (b : Bool) (addr len : Nat) (s : State) : (writeOne b addr len s).pending = s.pending := by rw [writeOne_eq]
@[simp] theorem writeOne_clock (b : Bool) (addr len : Nat) (s : State) : (writeOne b addr len s).clock = s.clock := by rw [writeOne_eq]
@[simp] theorem writeOne_fresh (b : Bool) (addr len : Nat) (s : State) : (writeOne b addr len s).fresh = s.fresh := by rw [writeOne_eq]
@[simp] theorem writeOne_dev (b : Bool) (addr len : Nat) (s : State) : (writeOne b addr len s).dev = s.dev := by rw [writeOne_eq]
@[simp] theorem writeOne_aorf (b : Bool) (addr len : Nat) (s : State) : (writeOne b addr len s).aorf = s.aorf := by rw [writeOne_eq]
@[simp] theorem writeOne_tb (b : Bool) (addr len : Nat) (s : State) : (writeOne b addr len s).tb = s.tb := by rw [writeOne_eq]
@[simp] theorem writeOne_set (b : Bool) (addr len : Nat) (s : State) : (writeOne b addr len s).set = s.set := by rw [writeOne_eq]
@[simp] theorem writeOne_cm (b : Bool) (addr len : Nat) (s : State) : (writeOne b addr len s).cm = s.cm := by rw [writeOne_eq]
@[simp] theorem writeOne_en (b : Bool) (addr len : Nat) (s : State) : (writeOne b addr len s).en = s.en := by rw [writeOne_eq]
@[simp] theorem writeOne_sf (b : Bool) (addr len : Nat) (s : State) : (writeOne b addr len s).sf = s.sf := by rw [writeOne_eq]
@[simp] theorem writeOne_ent (b : Bool) (addr len : Nat) (s : State) : (writeOne b addr len s).ent = s.ent := by rw [writeOne_eq]
@[simp] theorem writeOne_links (b : Bool) (addr len : Nat) (s : State) : (writeOne b addr len s).links = s.links := by rw [writeOne_eq]
@[simp] theorem writeOne_ports (b : Bool) (addr len : Nat) (s : State) : (writeOne b addr len s).ports = s.ports := by rw [writeOne_eq]
@[simp] theorem writeOne_short (b : Bool) (addr len : Nat) (s : State) : (writeOne b addr len s).short = s.short := by rw [writeOne_eq]
@[simp] theorem writeOne_wp (b : Bool) (addr len : Nat) (s : State) : (writeOne b addr len s).wp = s.wp := by rw [writeOne_eq]
@[simp] theorem writeOne_fu (b : Bool) (addr len : Nat) (s : State) : (writeOne b addr len s).fu = s.fu := by rw [writeOne_eq]
@[simp] theorem writeOne_db (b : Bool) (addr len : Nat) (s : State) : (writeOne b addr len s).db = s.db := by rw [writeOne_eq]
@[simp] theorem writeOne_sram (b : Bool) (addr len : Nat) (s : State) : (writeOne b addr len s).sram = s.sram := by rw [writeOne_eq]

/-! ### mirror -/

theorem mirror_eq (addr len : Nat) (s : State) :
    mirror addr len s = { s with nv := (mirror addr len s).nv, jr := (mirror addr len s).jr, hb := (mirror addr len s).hb } := by
  unfold mirror; rw [writeOne_eq, writeOne_eq false]
@[simp] theorem mirror_pending (addr len : Nat) (s : State) : (mirror addr len s).pending = s.pending := by rw [mirror_eq]
@[simp] theorem mirror_clock (addr len : Nat) (s : State) : (mirror addr len s).clock = s.clock := by rw [mirror_eq]
@[simp] theorem mirror_fresh (addr len : Nat) (s : State) : (mirror addr len s).fresh = s.fresh := by rw [mirror_eq]
@[simp] theorem mirror_dev (addr len : Nat) (s : State) : (mirror addr len s).dev = s.dev := by rw [mirror_eq]
@[simp] theorem mirror_aorf (addr len : Nat) (s : State) : (mirror addr len s).aorf = s.aorf := by rw [mirror_eq]
@[simp] theorem mirror_tb (addr len : Nat) (s : State) : (mirror addr len s).tb = s.tb := by rw [mirror_eq]
@[simp] theorem mirror_set (addr len : Nat) (s : State) : (mirror addr len s).set = s.set := by rw [mirror_eq]
@[simp] theorem mirror_cm (addr len : Nat) (s : State) : (mirror addr len s).cm = s.cm := by rw [mirror_eq]
@[simp] theorem mirror_en (addr len : Nat) (s : State) : (mirror addr len s).en = s.en := by rw [mirror_eq]
@[simp] theorem mirror_sf (addr len : Nat) (s : State) : (mirror addr len s).sf = s.sf := by rw [mirror_eq]
@[simp] theorem mirror_ent (addr len : Nat) (s : State) : (mirror addr len s).ent = s.ent := by rw [mirror_eq]
@[simp] theorem mirror_links (addr len : Nat) (s : State) : (mirror addr len s).links = s.links := by rw [mirror_eq]
@[simp] theorem mirror_ports (addr len : Nat) (s : State) : (mirror addr len s).ports = s.ports := by rw [mirror_eq]
@[simp] theorem mirror_short (addr len : Nat) (s : State) : (mirror addr len s).short = s.short := by rw [mirror_eq]
@[simp] theorem mirror_wp (addr len : Nat) (s : State) : (mirror addr len s).wp = s.wp := by rw [mirror_eq]
@[simp] theorem mirror_fu (addr len : Nat) (s : State) : (mirror addr len s).fu = s.fu := by rw [mirror_eq]
@[simp] theorem mirror_db (addr len : Nat) (s : State) : (mirror addr len s).db = s.db := by rw [mirror_eq]
@[simp] theorem mirror_sram (addr len : Nat) (s : State) : (mirror addr len s).sram = s.sram := by rw [mirror_eq]

/-! ### enqueue -/

theorem enqueue_eq (s : State) :
    enqueue time src code c arg s = { s with nv := (enqueue time src code c arg s).nv, jr := (enqueue time src code c arg s).jr, hb := (enqueue time src code c arg s).hb } := by
  unfold enqueue; dsimp only; split
  · rw [writeParams_eq, queueEvent_eq]
  · exact queueEvent_eq _ _ _ _ _ s
@[simp] theorem enqueue_pending (s : State) : (enqueue time src code c arg s).pending = s.pending := by rw [enqueue_eq]
@[simp] theorem enqueue_clock (s : State) : (enqueue time src code c arg s).clock = s.clock := by rw [enqueue_eq]
@[simp] theorem enqueue_fresh (s : State) : (enqueue time src code c arg s).fresh = s.fresh := by rw [enqueue_eq]
@[simp] theorem enqueue_dev (s : State) : (enqueue time src code c arg s).dev = s.dev := by rw [enqueue_eq]
@[simp] theorem enqueue_aorf (s : State) : (enqueue time src code c arg s).aorf = s.aorf := by rw [enqueue_eq]
@[simp] theorem enqueue_tb (s : State) : (enqueue time src code c arg s).tb = s.tb := by rw [enqueue_eq]
@[simp] theorem enqueue_set (s : State) : (enqueue time src code c arg s).set = s.set := by rw [enqueue_eq]
@[simp] theorem enqueue_cm (s : State) : (enqueue time src code c arg s).cm = s.cm := by rw [enqueue_eq]
@[simp] theorem enqueue_en (s : State) : (enqueue time src code c arg s).en = s.en := by rw [enqueue_eq]
@[simp] theorem enqueue_sf (s : State) : (enqueue time src code c arg s).sf = s.sf := by rw [enqueue_eq]
@[simp] theorem enqueue_ent (s : State) : (enqueue time src code c arg s).ent = s.ent := by rw [enqueue_eq]
@[simp] theorem enqueue_links (s : State) : (enqueue time src code c arg s).links = s.links := by rw [enqueue_eq]
@[simp] theorem enqueue_ports (s : State) : (enqueue time src code c arg s).ports = s.ports := by rw [enqueue_eq]
@[simp] theorem enqueue_short (s : State) : (enqueue time src code c arg s).short = s.short := by rw [enqueue_eq]
@[simp] theorem enqueue_wp (s : State) : (enqueue time src code c arg s).wp = s.wp := by rw [enqueue_eq]
@[simp] theorem enqueue_fu (s : State) : (enqueue time src code c arg s).fu = s.fu := by rw [enqueue_eq]
@[simp] theorem enqueue_db (s : State) : (enqueue time src code c arg s).db = s.db := by rw [enqueue_eq]
@[simp] theorem enqueue_sram (s : State) : (enqueue time src code c arg s).sram = s.sram := by rw [enqueue_eq]

/-! ### check75 -/

theorem check75_eq (s : State) :
    check75 s = { s with nv := (check75 s).nv, jr := (check75 s).jr, hb := (check75 s).hb } := by
  unfold check75; dsimp only; split
  · rw [raiseCause_eq, enqueue_eq]
  · rfl
@[simp] theorem check75_pending (s : State) : (check75 s).pending = s.pending := by rw [check75_eq]
@[simp] theorem check75_clock (s : State) : (check75 s).clock = s.clock := by rw [check75_eq]
@[simp] theorem check75_fresh (s : State) : (check75 s).fresh = s.fresh := by rw [check75_eq]
@[simp] theorem check75_dev (s : State) : (check75 s).dev = s.dev := by rw [check75_eq]
@[simp] theorem check75_aorf (s : State) : (check75 s).aorf = s.aorf := by rw [check75_eq]
@[simp] theorem check75_tb (s : State) : (check75 s).tb = s.tb := by rw [check75_eq]
@[simp] theorem check75_set (s : State) : (check75 s).set = s.set := by rw [check75_eq]
@[simp] theorem check75_cm (s : State) : (check75 s).cm = s.cm := by rw [check75_eq]
@[simp] theorem check75_en (s : State) : (check75 s).en = s.en := by rw [check75_eq]
@[simp] theorem check75_sf (s : State) : (check75 s).sf = s.sf := by rw [check75_eq]
@[simp] theorem check75_ent (s : State) : (check75 s).ent = s.ent := by rw [check75_eq]
@[simp] theorem check75_links (s : State) : (check75 s).links = s.links := by rw [check75_eq]
@[simp] theorem check75_ports (s : State) : (check75 s).ports = s.ports := by rw [check75_eq]
@[simp] theorem check75_short (s : State) : (check75 s).short = s.short := by rw [check75_eq]
@[simp] theorem check75_wp (s : State) : (check75 s).wp = s.wp := by rw [check75_eq]
@[simp] theorem check75_fu (s : State) : (check75 s).fu = s.fu := by rw [check75_eq]
@[simp] theorem check75_db (s : State) : (check75 s).db = s.db := by rw [check75_eq]
@[simp] theorem check75_sram (s : State) : (check75 s).sram = s.sram := by rw [check75_eq]

/-! ### Changes of the store, the journal and the host bus alone -/

/-- `t` is `s` but for the store, the journal's registers and the host bus. -/
def StoreApart (s t : State) : Prop := t = { s with nv := t.nv, jr := t.jr, hb := t.hb }

theorem StoreApart.refl (s : State) : StoreApart s s := rfl
theorem StoreApart.trans {s t u : State} (h : StoreApart s t) (k : StoreApart t u) : StoreApart s u := by
  unfold StoreApart at *; rw [k, h]

theorem mirror_apart (addr len : Nat) (s : State) : StoreApart s (mirror addr len s) := mirror_eq addr len s
theorem storeItem_apart (f : Params → Params) (s : State) : StoreApart s (storeItem f s) := storeItem_eq f s
theorem check75_apart (s : State) : StoreApart s (check75 s) := check75_eq s
theorem commitRecord_apart (r : Record) (s : State) : StoreApart s (commitRecord r s) := by
  generalize h : commitRecord r s = t
  have e := commitRecord_eq r s; rw [h] at e; unfold StoreApart; rw [e]
theorem setPending_apart (src : Nat) (s : State) : StoreApart s (setPending src s) := by
  generalize h : setPending src s = t
  have e := setPending_eq src s; rw [h] at e; unfold StoreApart; rw [e]

/-! ### commitNext -/

theorem commitNext_eq (s : State) :
    commitNext s = { s with nv := (commitNext s).nv, jr := (commitNext s).jr, hb := (commitNext s).hb } := by
  change StoreApart s (commitNext s)
  unfold commitNext; split; · exact .refl s
  split; · exact .refl s
  dsimp only
  have h := mirror_apart (slotOffset (seqNext s.nv.head)) 32 s
  generalize mirror _ 32 s = t at h ⊢
  split; · exact h
  have k (r : Record) := h.trans ((show StoreApart t { t with jr := { t.jr with queue := t.jr.queue.drop 1 } } from rfl).trans
    (commitRecord_apart r _))
  refine .trans ?_ (check75_apart _)
  split
  · exact (k _).trans (setPending_apart _ _)
  · exact k _
@[simp] theorem commitNext_pending (s : State) : (commitNext s).pending = s.pending := by rw [commitNext_eq]
@[simp] theorem commitNext_clock (s : State) : (commitNext s).clock = s.clock := by rw [commitNext_eq]
@[simp] theorem commitNext_fresh (s : State) : (commitNext s).fresh = s.fresh := by rw [commitNext_eq]
@[simp] theorem commitNext_dev (s : State) : (commitNext s).dev = s.dev := by rw [commitNext_eq]
@[simp] theorem commitNext_aorf (s : State) : (commitNext s).aorf = s.aorf := by rw [commitNext_eq]
@[simp] theorem commitNext_tb (s : State) : (commitNext s).tb = s.tb := by rw [commitNext_eq]
@[simp] theorem commitNext_set (s : State) : (commitNext s).set = s.set := by rw [commitNext_eq]
@[simp] theorem commitNext_cm (s : State) : (commitNext s).cm = s.cm := by rw [commitNext_eq]
@[simp] theorem commitNext_en (s : State) : (commitNext s).en = s.en := by rw [commitNext_eq]
@[simp] theorem commitNext_sf (s : State) : (commitNext s).sf = s.sf := by rw [commitNext_eq]
@[simp] theorem commitNext_ent (s : State) : (commitNext s).ent = s.ent := by rw [commitNext_eq]
@[simp] theorem commitNext_links (s : State) : (commitNext s).links = s.links := by rw [commitNext_eq]
@[simp] theorem commitNext_ports (s : State) : (commitNext s).ports = s.ports := by rw [commitNext_eq]
@[simp] theorem commitNext_short (s : State) : (commitNext s).short = s.short := by rw [commitNext_eq]
@[simp] theorem commitNext_wp (s : State) : (commitNext s).wp = s.wp := by rw [commitNext_eq]
@[simp] theorem commitNext_fu (s : State) : (commitNext s).fu = s.fu := by rw [commitNext_eq]
@[simp] theorem commitNext_db (s : State) : (commitNext s).db = s.db := by rw [commitNext_eq]
@[simp] theorem commitNext_sram (s : State) : (commitNext s).sram = s.sram := by rw [commitNext_eq]

/-! ### commitGap -/

theorem commitGap_eq (s : State) :
    commitGap s = { s with nv := (commitGap s).nv, jr := (commitGap s).jr, hb := (commitGap s).hb } := by
  change StoreApart s (commitGap s)
  unfold commitGap; split
  · dsimp only
    have h := mirror_apart (slotOffset (seqNext s.nv.head)) 32 s
    generalize mirror _ 32 s = t at h ⊢
    split; · exact h
    have k (r : Record) (f : Params → Params) := h.trans ((commitRecord_apart r t).trans (storeItem_apart f _))
    refine .trans ?_ (check75_apart _)
    split
    · exact (k _ _).trans (setPending_apart _ _)
    · exact k _ _
  · exact .refl s
@[simp] theorem commitGap_pending (s : State) : (commitGap s).pending = s.pending := by rw [commitGap_eq]
@[simp] theorem commitGap_clock (s : State) : (commitGap s).clock = s.clock := by rw [commitGap_eq]
@[simp] theorem commitGap_fresh (s : State) : (commitGap s).fresh = s.fresh := by rw [commitGap_eq]
@[simp] theorem commitGap_dev (s : State) : (commitGap s).dev = s.dev := by rw [commitGap_eq]
@[simp] theorem commitGap_aorf (s : State) : (commitGap s).aorf = s.aorf := by rw [commitGap_eq]
@[simp] theorem commitGap_tb (s : State) : (commitGap s).tb = s.tb := by rw [commitGap_eq]
@[simp] theorem commitGap_set (s : State) : (commitGap s).set = s.set := by rw [commitGap_eq]
@[simp] theorem commitGap_cm (s : State) : (commitGap s).cm = s.cm := by rw [commitGap_eq]
@[simp] theorem commitGap_en (s : State) : (commitGap s).en = s.en := by rw [commitGap_eq]
@[simp] theorem commitGap_sf (s : State) : (commitGap s).sf = s.sf := by rw [commitGap_eq]
@[simp] theorem commitGap_ent (s : State) : (commitGap s).ent = s.ent := by rw [commitGap_eq]
@[simp] theorem commitGap_links (s : State) : (commitGap s).links = s.links := by rw [commitGap_eq]
@[simp] theorem commitGap_ports (s : State) : (commitGap s).ports = s.ports := by rw [commitGap_eq]
@[simp] theorem commitGap_short (s : State) : (commitGap s).short = s.short := by rw [commitGap_eq]
@[simp] theorem commitGap_wp (s : State) : (commitGap s).wp = s.wp := by rw [commitGap_eq]
@[simp] theorem commitGap_fu (s : State) : (commitGap s).fu = s.fu := by rw [commitGap_eq]
@[simp] theorem commitGap_db (s : State) : (commitGap s).db = s.db := by rw [commitGap_eq]
@[simp] theorem commitGap_sram (s : State) : (commitGap s).sram = s.sram := by rw [commitGap_eq]

/-! ### writeNext -/

theorem writeNext_eq (s : State) :
    writeNext s = { s with nv := (writeNext s).nv, jr := (writeNext s).jr, hb := (writeNext s).hb } := by
  unfold writeNext; split; · exact commitGap_eq s
  exact commitNext_eq s
@[simp] theorem writeNext_pending (s : State) : (writeNext s).pending = s.pending := by rw [writeNext_eq]
@[simp] theorem writeNext_clock (s : State) : (writeNext s).clock = s.clock := by rw [writeNext_eq]
@[simp] theorem writeNext_fresh (s : State) : (writeNext s).fresh = s.fresh := by rw [writeNext_eq]
@[simp] theorem writeNext_dev (s : State) : (writeNext s).dev = s.dev := by rw [writeNext_eq]
@[simp] theorem writeNext_aorf (s : State) : (writeNext s).aorf = s.aorf := by rw [writeNext_eq]
@[simp] theorem writeNext_tb (s : State) : (writeNext s).tb = s.tb := by rw [writeNext_eq]
@[simp] theorem writeNext_set (s : State) : (writeNext s).set = s.set := by rw [writeNext_eq]
@[simp] theorem writeNext_cm (s : State) : (writeNext s).cm = s.cm := by rw [writeNext_eq]
@[simp] theorem writeNext_en (s : State) : (writeNext s).en = s.en := by rw [writeNext_eq]
@[simp] theorem writeNext_sf (s : State) : (writeNext s).sf = s.sf := by rw [writeNext_eq]
@[simp] theorem writeNext_ent (s : State) : (writeNext s).ent = s.ent := by rw [writeNext_eq]
@[simp] theorem writeNext_links (s : State) : (writeNext s).links = s.links := by rw [writeNext_eq]
@[simp] theorem writeNext_ports (s : State) : (writeNext s).ports = s.ports := by rw [writeNext_eq]
@[simp] theorem writeNext_short (s : State) : (writeNext s).short = s.short := by rw [writeNext_eq]
@[simp] theorem writeNext_wp (s : State) : (writeNext s).wp = s.wp := by rw [writeNext_eq]
@[simp] theorem writeNext_fu (s : State) : (writeNext s).fu = s.fu := by rw [writeNext_eq]
@[simp] theorem writeNext_db (s : State) : (writeNext s).db = s.db := by rw [writeNext_eq]
@[simp] theorem writeNext_sram (s : State) : (writeNext s).sram = s.sram := by rw [writeNext_eq]

/-! ### raiseAt -/

theorem raiseAt_eq (s : State) :
    raiseAt time src code c arg s = { s with nv := (raiseAt time src code c arg s).nv, jr := (raiseAt time src code c arg s).jr, hb := (raiseAt time src code c arg s).hb } := by
  unfold raiseAt; rw [enqueue_eq, commitGap_eq]
@[simp] theorem raiseAt_pending (s : State) : (raiseAt time src code c arg s).pending = s.pending := by rw [raiseAt_eq]
@[simp] theorem raiseAt_clock (s : State) : (raiseAt time src code c arg s).clock = s.clock := by rw [raiseAt_eq]
@[simp] theorem raiseAt_fresh (s : State) : (raiseAt time src code c arg s).fresh = s.fresh := by rw [raiseAt_eq]
@[simp] theorem raiseAt_dev (s : State) : (raiseAt time src code c arg s).dev = s.dev := by rw [raiseAt_eq]
@[simp] theorem raiseAt_aorf (s : State) : (raiseAt time src code c arg s).aorf = s.aorf := by rw [raiseAt_eq]
@[simp] theorem raiseAt_tb (s : State) : (raiseAt time src code c arg s).tb = s.tb := by rw [raiseAt_eq]
@[simp] theorem raiseAt_set (s : State) : (raiseAt time src code c arg s).set = s.set := by rw [raiseAt_eq]
@[simp] theorem raiseAt_cm (s : State) : (raiseAt time src code c arg s).cm = s.cm := by rw [raiseAt_eq]
@[simp] theorem raiseAt_en (s : State) : (raiseAt time src code c arg s).en = s.en := by rw [raiseAt_eq]
@[simp] theorem raiseAt_sf (s : State) : (raiseAt time src code c arg s).sf = s.sf := by rw [raiseAt_eq]
@[simp] theorem raiseAt_ent (s : State) : (raiseAt time src code c arg s).ent = s.ent := by rw [raiseAt_eq]
@[simp] theorem raiseAt_links (s : State) : (raiseAt time src code c arg s).links = s.links := by rw [raiseAt_eq]
@[simp] theorem raiseAt_ports (s : State) : (raiseAt time src code c arg s).ports = s.ports := by rw [raiseAt_eq]
@[simp] theorem raiseAt_short (s : State) : (raiseAt time src code c arg s).short = s.short := by rw [raiseAt_eq]
@[simp] theorem raiseAt_wp (s : State) : (raiseAt time src code c arg s).wp = s.wp := by rw [raiseAt_eq]
@[simp] theorem raiseAt_fu (s : State) : (raiseAt time src code c arg s).fu = s.fu := by rw [raiseAt_eq]
@[simp] theorem raiseAt_db (s : State) : (raiseAt time src code c arg s).db = s.db := by rw [raiseAt_eq]
@[simp] theorem raiseAt_sram (s : State) : (raiseAt time src code c arg s).sram = s.sram := by rw [raiseAt_eq]

/-! ### raise -/

theorem raise_eq (s : State) :
    raise src code c arg s = { s with nv := (raise src code c arg s).nv, jr := (raise src code c arg s).jr, hb := (raise src code c arg s).hb } := by
  exact raiseAt_eq _ _ _ _ _ s
@[simp] theorem raise_pending (s : State) : (raise src code c arg s).pending = s.pending := by rw [raise_eq]
@[simp] theorem raise_clock (s : State) : (raise src code c arg s).clock = s.clock := by rw [raise_eq]
@[simp] theorem raise_fresh (s : State) : (raise src code c arg s).fresh = s.fresh := by rw [raise_eq]
@[simp] theorem raise_dev (s : State) : (raise src code c arg s).dev = s.dev := by rw [raise_eq]
@[simp] theorem raise_aorf (s : State) : (raise src code c arg s).aorf = s.aorf := by rw [raise_eq]
@[simp] theorem raise_tb (s : State) : (raise src code c arg s).tb = s.tb := by rw [raise_eq]
@[simp] theorem raise_set (s : State) : (raise src code c arg s).set = s.set := by rw [raise_eq]
@[simp] theorem raise_cm (s : State) : (raise src code c arg s).cm = s.cm := by rw [raise_eq]
@[simp] theorem raise_en (s : State) : (raise src code c arg s).en = s.en := by rw [raise_eq]
@[simp] theorem raise_sf (s : State) : (raise src code c arg s).sf = s.sf := by rw [raise_eq]
@[simp] theorem raise_ent (s : State) : (raise src code c arg s).ent = s.ent := by rw [raise_eq]
@[simp] theorem raise_links (s : State) : (raise src code c arg s).links = s.links := by rw [raise_eq]
@[simp] theorem raise_ports (s : State) : (raise src code c arg s).ports = s.ports := by rw [raise_eq]
@[simp] theorem raise_short (s : State) : (raise src code c arg s).short = s.short := by rw [raise_eq]
@[simp] theorem raise_wp (s : State) : (raise src code c arg s).wp = s.wp := by rw [raise_eq]
@[simp] theorem raise_fu (s : State) : (raise src code c arg s).fu = s.fu := by rw [raise_eq]
@[simp] theorem raise_db (s : State) : (raise src code c arg s).db = s.db := by rw [raise_eq]
@[simp] theorem raise_sram (s : State) : (raise src code c arg s).sram = s.sram := by rw [raise_eq]

/-! ### pushReply -/

theorem pushReply_eq (r : Reply) (s : State) :
    pushReply r s = { s with cm := (pushReply r s).cm, hb := (pushReply r s).hb } := by
  unfold pushReply; dsimp only; rw [raiseCause_eq]
@[simp] theorem pushReply_pending (r : Reply) (s : State) : (pushReply r s).pending = s.pending := by rw [pushReply_eq]
@[simp] theorem pushReply_clock (r : Reply) (s : State) : (pushReply r s).clock = s.clock := by rw [pushReply_eq]
@[simp] theorem pushReply_fresh (r : Reply) (s : State) : (pushReply r s).fresh = s.fresh := by rw [pushReply_eq]
@[simp] theorem pushReply_dev (r : Reply) (s : State) : (pushReply r s).dev = s.dev := by rw [pushReply_eq]
@[simp] theorem pushReply_aorf (r : Reply) (s : State) : (pushReply r s).aorf = s.aorf := by rw [pushReply_eq]
@[simp] theorem pushReply_tb (r : Reply) (s : State) : (pushReply r s).tb = s.tb := by rw [pushReply_eq]
@[simp] theorem pushReply_set (r : Reply) (s : State) : (pushReply r s).set = s.set := by rw [pushReply_eq]
@[simp] theorem pushReply_nv (r : Reply) (s : State) : (pushReply r s).nv = s.nv := by rw [pushReply_eq]
@[simp] theorem pushReply_jr (r : Reply) (s : State) : (pushReply r s).jr = s.jr := by rw [pushReply_eq]
@[simp] theorem pushReply_en (r : Reply) (s : State) : (pushReply r s).en = s.en := by rw [pushReply_eq]
@[simp] theorem pushReply_sf (r : Reply) (s : State) : (pushReply r s).sf = s.sf := by rw [pushReply_eq]
@[simp] theorem pushReply_ent (r : Reply) (s : State) : (pushReply r s).ent = s.ent := by rw [pushReply_eq]
@[simp] theorem pushReply_links (r : Reply) (s : State) : (pushReply r s).links = s.links := by rw [pushReply_eq]
@[simp] theorem pushReply_ports (r : Reply) (s : State) : (pushReply r s).ports = s.ports := by rw [pushReply_eq]
@[simp] theorem pushReply_short (r : Reply) (s : State) : (pushReply r s).short = s.short := by rw [pushReply_eq]
@[simp] theorem pushReply_wp (r : Reply) (s : State) : (pushReply r s).wp = s.wp := by rw [pushReply_eq]
@[simp] theorem pushReply_fu (r : Reply) (s : State) : (pushReply r s).fu = s.fu := by rw [pushReply_eq]
@[simp] theorem pushReply_db (r : Reply) (s : State) : (pushReply r s).db = s.db := by rw [pushReply_eq]
@[simp] theorem pushReply_sram (r : Reply) (s : State) : (pushReply r s).sram = s.sram := by rw [pushReply_eq]

/-! ### putOutcome -/

theorem putOutcome_eq (o : OutcomeEntry) (s : State) :
    putOutcome o s = { s with nv := (putOutcome o s).nv, jr := (putOutcome o s).jr, hb := (putOutcome o s).hb, cm := (putOutcome o s).cm } := by
  unfold putOutcome; dsimp only; split
  · rw [mirror_eq]
  · rw [mirror_eq]
@[simp] theorem putOutcome_pending (o : OutcomeEntry) (s : State) : (putOutcome o s).pending = s.pending := by rw [putOutcome_eq]
@[simp] theorem putOutcome_clock (o : OutcomeEntry) (s : State) : (putOutcome o s).clock = s.clock := by rw [putOutcome_eq]
@[simp] theorem putOutcome_fresh (o : OutcomeEntry) (s : State) : (putOutcome o s).fresh = s.fresh := by rw [putOutcome_eq]
@[simp] theorem putOutcome_dev (o : OutcomeEntry) (s : State) : (putOutcome o s).dev = s.dev := by rw [putOutcome_eq]
@[simp] theorem putOutcome_aorf (o : OutcomeEntry) (s : State) : (putOutcome o s).aorf = s.aorf := by rw [putOutcome_eq]
@[simp] theorem putOutcome_tb (o : OutcomeEntry) (s : State) : (putOutcome o s).tb = s.tb := by rw [putOutcome_eq]
@[simp] theorem putOutcome_set (o : OutcomeEntry) (s : State) : (putOutcome o s).set = s.set := by rw [putOutcome_eq]
@[simp] theorem putOutcome_en (o : OutcomeEntry) (s : State) : (putOutcome o s).en = s.en := by rw [putOutcome_eq]
@[simp] theorem putOutcome_sf (o : OutcomeEntry) (s : State) : (putOutcome o s).sf = s.sf := by rw [putOutcome_eq]
@[simp] theorem putOutcome_ent (o : OutcomeEntry) (s : State) : (putOutcome o s).ent = s.ent := by rw [putOutcome_eq]
@[simp] theorem putOutcome_links (o : OutcomeEntry) (s : State) : (putOutcome o s).links = s.links := by rw [putOutcome_eq]
@[simp] theorem putOutcome_ports (o : OutcomeEntry) (s : State) : (putOutcome o s).ports = s.ports := by rw [putOutcome_eq]
@[simp] theorem putOutcome_short (o : OutcomeEntry) (s : State) : (putOutcome o s).short = s.short := by rw [putOutcome_eq]
@[simp] theorem putOutcome_wp (o : OutcomeEntry) (s : State) : (putOutcome o s).wp = s.wp := by rw [putOutcome_eq]
@[simp] theorem putOutcome_fu (o : OutcomeEntry) (s : State) : (putOutcome o s).fu = s.fu := by rw [putOutcome_eq]
@[simp] theorem putOutcome_db (o : OutcomeEntry) (s : State) : (putOutcome o s).db = s.db := by rw [putOutcome_eq]
@[simp] theorem putOutcome_sram (o : OutcomeEntry) (s : State) : (putOutcome o s).sram = s.sram := by rw [putOutcome_eq]

/-! ### commitOutcome -/

theorem commitOutcome_eq (c : Chain) (status : Byte) (data : List Byte) (s : State) :
    commitOutcome c status data s = { s with nv := (commitOutcome c status data s).nv, jr := (commitOutcome c status data s).jr, hb := (commitOutcome c status data s).hb, cm := (commitOutcome c status data s).cm } := by
  unfold commitOutcome; dsimp only; split
  · rw [putOutcome_eq]
  · rw [pushReply_eq]; split
    · rw [raise_eq, putOutcome_eq]
    · rw [putOutcome_eq]
@[simp] theorem commitOutcome_pending (c : Chain) (status : Byte) (data : List Byte) (s : State) : (commitOutcome c status data s).pending = s.pending := by rw [commitOutcome_eq]
@[simp] theorem commitOutcome_clock (c : Chain) (status : Byte) (data : List Byte) (s : State) : (commitOutcome c status data s).clock = s.clock := by rw [commitOutcome_eq]
@[simp] theorem commitOutcome_fresh (c : Chain) (status : Byte) (data : List Byte) (s : State) : (commitOutcome c status data s).fresh = s.fresh := by rw [commitOutcome_eq]
@[simp] theorem commitOutcome_dev (c : Chain) (status : Byte) (data : List Byte) (s : State) : (commitOutcome c status data s).dev = s.dev := by rw [commitOutcome_eq]
@[simp] theorem commitOutcome_aorf (c : Chain) (status : Byte) (data : List Byte) (s : State) : (commitOutcome c status data s).aorf = s.aorf := by rw [commitOutcome_eq]
@[simp] theorem commitOutcome_tb (c : Chain) (status : Byte) (data : List Byte) (s : State) : (commitOutcome c status data s).tb = s.tb := by rw [commitOutcome_eq]
@[simp] theorem commitOutcome_set (c : Chain) (status : Byte) (data : List Byte) (s : State) : (commitOutcome c status data s).set = s.set := by rw [commitOutcome_eq]
@[simp] theorem commitOutcome_en (c : Chain) (status : Byte) (data : List Byte) (s : State) : (commitOutcome c status data s).en = s.en := by rw [commitOutcome_eq]
@[simp] theorem commitOutcome_sf (c : Chain) (status : Byte) (data : List Byte) (s : State) : (commitOutcome c status data s).sf = s.sf := by rw [commitOutcome_eq]
@[simp] theorem commitOutcome_ent (c : Chain) (status : Byte) (data : List Byte) (s : State) : (commitOutcome c status data s).ent = s.ent := by rw [commitOutcome_eq]
@[simp] theorem commitOutcome_links (c : Chain) (status : Byte) (data : List Byte) (s : State) : (commitOutcome c status data s).links = s.links := by rw [commitOutcome_eq]
@[simp] theorem commitOutcome_ports (c : Chain) (status : Byte) (data : List Byte) (s : State) : (commitOutcome c status data s).ports = s.ports := by rw [commitOutcome_eq]
@[simp] theorem commitOutcome_short (c : Chain) (status : Byte) (data : List Byte) (s : State) : (commitOutcome c status data s).short = s.short := by rw [commitOutcome_eq]
@[simp] theorem commitOutcome_wp (c : Chain) (status : Byte) (data : List Byte) (s : State) : (commitOutcome c status data s).wp = s.wp := by rw [commitOutcome_eq]
@[simp] theorem commitOutcome_fu (c : Chain) (status : Byte) (data : List Byte) (s : State) : (commitOutcome c status data s).fu = s.fu := by rw [commitOutcome_eq]
@[simp] theorem commitOutcome_db (c : Chain) (status : Byte) (data : List Byte) (s : State) : (commitOutcome c status data s).db = s.db := by rw [commitOutcome_eq]
@[simp] theorem commitOutcome_sram (c : Chain) (status : Byte) (data : List Byte) (s : State) : (commitOutcome c status data s).sram = s.sram := by rw [commitOutcome_eq]

/-! ### holdOutcome -/

theorem holdOutcome_eq (status : Byte) (data : List Byte) (s : State) :
    holdOutcome status data s = { s with cm := (holdOutcome status data s).cm } := by
  unfold holdOutcome; split <;> rfl
@[simp] theorem holdOutcome_pending (status : Byte) (data : List Byte) (s : State) : (holdOutcome status data s).pending = s.pending := by rw [holdOutcome_eq]
@[simp] theorem holdOutcome_clock (status : Byte) (data : List Byte) (s : State) : (holdOutcome status data s).clock = s.clock := by rw [holdOutcome_eq]
@[simp] theorem holdOutcome_fresh (status : Byte) (data : List Byte) (s : State) : (holdOutcome status data s).fresh = s.fresh := by rw [holdOutcome_eq]
@[simp] theorem holdOutcome_dev (status : Byte) (data : List Byte) (s : State) : (holdOutcome status data s).dev = s.dev := by rw [holdOutcome_eq]
@[simp] theorem holdOutcome_aorf (status : Byte) (data : List Byte) (s : State) : (holdOutcome status data s).aorf = s.aorf := by rw [holdOutcome_eq]
@[simp] theorem holdOutcome_tb (status : Byte) (data : List Byte) (s : State) : (holdOutcome status data s).tb = s.tb := by rw [holdOutcome_eq]
@[simp] theorem holdOutcome_set (status : Byte) (data : List Byte) (s : State) : (holdOutcome status data s).set = s.set := by rw [holdOutcome_eq]
@[simp] theorem holdOutcome_nv (status : Byte) (data : List Byte) (s : State) : (holdOutcome status data s).nv = s.nv := by rw [holdOutcome_eq]
@[simp] theorem holdOutcome_jr (status : Byte) (data : List Byte) (s : State) : (holdOutcome status data s).jr = s.jr := by rw [holdOutcome_eq]
@[simp] theorem holdOutcome_hb (status : Byte) (data : List Byte) (s : State) : (holdOutcome status data s).hb = s.hb := by rw [holdOutcome_eq]
@[simp] theorem holdOutcome_en (status : Byte) (data : List Byte) (s : State) : (holdOutcome status data s).en = s.en := by rw [holdOutcome_eq]
@[simp] theorem holdOutcome_sf (status : Byte) (data : List Byte) (s : State) : (holdOutcome status data s).sf = s.sf := by rw [holdOutcome_eq]
@[simp] theorem holdOutcome_ent (status : Byte) (data : List Byte) (s : State) : (holdOutcome status data s).ent = s.ent := by rw [holdOutcome_eq]
@[simp] theorem holdOutcome_links (status : Byte) (data : List Byte) (s : State) : (holdOutcome status data s).links = s.links := by rw [holdOutcome_eq]
@[simp] theorem holdOutcome_ports (status : Byte) (data : List Byte) (s : State) : (holdOutcome status data s).ports = s.ports := by rw [holdOutcome_eq]
@[simp] theorem holdOutcome_short (status : Byte) (data : List Byte) (s : State) : (holdOutcome status data s).short = s.short := by rw [holdOutcome_eq]
@[simp] theorem holdOutcome_wp (status : Byte) (data : List Byte) (s : State) : (holdOutcome status data s).wp = s.wp := by rw [holdOutcome_eq]
@[simp] theorem holdOutcome_fu (status : Byte) (data : List Byte) (s : State) : (holdOutcome status data s).fu = s.fu := by rw [holdOutcome_eq]
@[simp] theorem holdOutcome_db (status : Byte) (data : List Byte) (s : State) : (holdOutcome status data s).db = s.db := by rw [holdOutcome_eq]
@[simp] theorem holdOutcome_sram (status : Byte) (data : List Byte) (s : State) : (holdOutcome status data s).sram = s.sram := by rw [holdOutcome_eq]

/-! ### finishRunning -/

theorem finishRunning_eq (status : Byte) (data : List Byte) (s : State) :
    finishRunning status data s = { s with nv := (finishRunning status data s).nv, jr := (finishRunning status data s).jr, hb := (finishRunning status data s).hb, cm := (finishRunning status data s).cm } := by
  unfold finishRunning; split
  · rw [holdOutcome_eq]
  · split
    · exact commitOutcome_eq _ _ _ s
    · rfl
@[simp] theorem finishRunning_pending (status : Byte) (data : List Byte) (s : State) : (finishRunning status data s).pending = s.pending := by rw [finishRunning_eq]
@[simp] theorem finishRunning_clock (status : Byte) (data : List Byte) (s : State) : (finishRunning status data s).clock = s.clock := by rw [finishRunning_eq]
@[simp] theorem finishRunning_fresh (status : Byte) (data : List Byte) (s : State) : (finishRunning status data s).fresh = s.fresh := by rw [finishRunning_eq]
@[simp] theorem finishRunning_dev (status : Byte) (data : List Byte) (s : State) : (finishRunning status data s).dev = s.dev := by rw [finishRunning_eq]
@[simp] theorem finishRunning_aorf (status : Byte) (data : List Byte) (s : State) : (finishRunning status data s).aorf = s.aorf := by rw [finishRunning_eq]
@[simp] theorem finishRunning_tb (status : Byte) (data : List Byte) (s : State) : (finishRunning status data s).tb = s.tb := by rw [finishRunning_eq]
@[simp] theorem finishRunning_set (status : Byte) (data : List Byte) (s : State) : (finishRunning status data s).set = s.set := by rw [finishRunning_eq]
@[simp] theorem finishRunning_en (status : Byte) (data : List Byte) (s : State) : (finishRunning status data s).en = s.en := by rw [finishRunning_eq]
@[simp] theorem finishRunning_sf (status : Byte) (data : List Byte) (s : State) : (finishRunning status data s).sf = s.sf := by rw [finishRunning_eq]
@[simp] theorem finishRunning_ent (status : Byte) (data : List Byte) (s : State) : (finishRunning status data s).ent = s.ent := by rw [finishRunning_eq]
@[simp] theorem finishRunning_links (status : Byte) (data : List Byte) (s : State) : (finishRunning status data s).links = s.links := by rw [finishRunning_eq]
@[simp] theorem finishRunning_ports (status : Byte) (data : List Byte) (s : State) : (finishRunning status data s).ports = s.ports := by rw [finishRunning_eq]
@[simp] theorem finishRunning_short (status : Byte) (data : List Byte) (s : State) : (finishRunning status data s).short = s.short := by rw [finishRunning_eq]
@[simp] theorem finishRunning_wp (status : Byte) (data : List Byte) (s : State) : (finishRunning status data s).wp = s.wp := by rw [finishRunning_eq]
@[simp] theorem finishRunning_fu (status : Byte) (data : List Byte) (s : State) : (finishRunning status data s).fu = s.fu := by rw [finishRunning_eq]
@[simp] theorem finishRunning_db (status : Byte) (data : List Byte) (s : State) : (finishRunning status data s).db = s.db := by rw [finishRunning_eq]
@[simp] theorem finishRunning_sram (status : Byte) (data : List Byte) (s : State) : (finishRunning status data s).sram = s.sram := by rw [finishRunning_eq]

/-! ### setState -/

theorem setState_eq (new : DvState) (why : Nat) (s : State) :
    setState new why s = { s with dev := (setState new why s).dev, nv := (setState new why s).nv, jr := (setState new why s).jr, hb := (setState new why s).hb } := by
  unfold setState; split; · rfl
  dsimp only; rw [raiseCause_eq, raise_eq]
@[simp] theorem setState_pending (new : DvState) (why : Nat) (s : State) : (setState new why s).pending = s.pending := by rw [setState_eq]
@[simp] theorem setState_clock (new : DvState) (why : Nat) (s : State) : (setState new why s).clock = s.clock := by rw [setState_eq]
@[simp] theorem setState_fresh (new : DvState) (why : Nat) (s : State) : (setState new why s).fresh = s.fresh := by rw [setState_eq]
@[simp] theorem setState_aorf (new : DvState) (why : Nat) (s : State) : (setState new why s).aorf = s.aorf := by rw [setState_eq]
@[simp] theorem setState_tb (new : DvState) (why : Nat) (s : State) : (setState new why s).tb = s.tb := by rw [setState_eq]
@[simp] theorem setState_set (new : DvState) (why : Nat) (s : State) : (setState new why s).set = s.set := by rw [setState_eq]
@[simp] theorem setState_cm (new : DvState) (why : Nat) (s : State) : (setState new why s).cm = s.cm := by rw [setState_eq]
@[simp] theorem setState_en (new : DvState) (why : Nat) (s : State) : (setState new why s).en = s.en := by rw [setState_eq]
@[simp] theorem setState_sf (new : DvState) (why : Nat) (s : State) : (setState new why s).sf = s.sf := by rw [setState_eq]
@[simp] theorem setState_ent (new : DvState) (why : Nat) (s : State) : (setState new why s).ent = s.ent := by rw [setState_eq]
@[simp] theorem setState_links (new : DvState) (why : Nat) (s : State) : (setState new why s).links = s.links := by rw [setState_eq]
@[simp] theorem setState_ports (new : DvState) (why : Nat) (s : State) : (setState new why s).ports = s.ports := by rw [setState_eq]
@[simp] theorem setState_short (new : DvState) (why : Nat) (s : State) : (setState new why s).short = s.short := by rw [setState_eq]
@[simp] theorem setState_wp (new : DvState) (why : Nat) (s : State) : (setState new why s).wp = s.wp := by rw [setState_eq]
@[simp] theorem setState_fu (new : DvState) (why : Nat) (s : State) : (setState new why s).fu = s.fu := by rw [setState_eq]
@[simp] theorem setState_db (new : DvState) (why : Nat) (s : State) : (setState new why s).db = s.db := by rw [setState_eq]
@[simp] theorem setState_sram (new : DvState) (why : Nat) (s : State) : (setState new why s).sram = s.sram := by rw [setState_eq]

/-! ### noteSettings -/

theorem noteSettings_eq (s : State) :
    noteSettings s = { s with aorf := (noteSettings s).aorf } := rfl
@[simp] theorem noteSettings_pending (s : State) : (noteSettings s).pending = s.pending := by rw [noteSettings_eq]
@[simp] theorem noteSettings_clock (s : State) : (noteSettings s).clock = s.clock := by rw [noteSettings_eq]
@[simp] theorem noteSettings_fresh (s : State) : (noteSettings s).fresh = s.fresh := by rw [noteSettings_eq]
@[simp] theorem noteSettings_dev (s : State) : (noteSettings s).dev = s.dev := by rw [noteSettings_eq]
@[simp] theorem noteSettings_tb (s : State) : (noteSettings s).tb = s.tb := by rw [noteSettings_eq]
@[simp] theorem noteSettings_set (s : State) : (noteSettings s).set = s.set := by rw [noteSettings_eq]
@[simp] theorem noteSettings_nv (s : State) : (noteSettings s).nv = s.nv := by rw [noteSettings_eq]
@[simp] theorem noteSettings_jr (s : State) : (noteSettings s).jr = s.jr := by rw [noteSettings_eq]
@[simp] theorem noteSettings_hb (s : State) : (noteSettings s).hb = s.hb := by rw [noteSettings_eq]
@[simp] theorem noteSettings_cm (s : State) : (noteSettings s).cm = s.cm := by rw [noteSettings_eq]
@[simp] theorem noteSettings_en (s : State) : (noteSettings s).en = s.en := by rw [noteSettings_eq]
@[simp] theorem noteSettings_sf (s : State) : (noteSettings s).sf = s.sf := by rw [noteSettings_eq]
@[simp] theorem noteSettings_ent (s : State) : (noteSettings s).ent = s.ent := by rw [noteSettings_eq]
@[simp] theorem noteSettings_links (s : State) : (noteSettings s).links = s.links := by rw [noteSettings_eq]
@[simp] theorem noteSettings_ports (s : State) : (noteSettings s).ports = s.ports := by rw [noteSettings_eq]
@[simp] theorem noteSettings_short (s : State) : (noteSettings s).short = s.short := by rw [noteSettings_eq]
@[simp] theorem noteSettings_wp (s : State) : (noteSettings s).wp = s.wp := by rw [noteSettings_eq]
@[simp] theorem noteSettings_fu (s : State) : (noteSettings s).fu = s.fu := by rw [noteSettings_eq]
@[simp] theorem noteSettings_db (s : State) : (noteSettings s).db = s.db := by rw [noteSettings_eq]
@[simp] theorem noteSettings_sram (s : State) : (noteSettings s).sram = s.sram := by rw [noteSettings_eq]

/-! ### touchBus -/

theorem touchBus_eq (s : State) :
    touchBus s = { s with nv := (touchBus s).nv, jr := (touchBus s).jr, hb := (touchBus s).hb } := by
  unfold touchBus; dsimp only; split
  · rw [raise_eq]
  · rfl
@[simp] theorem touchBus_pending (s : State) : (touchBus s).pending = s.pending := by rw [touchBus_eq]
@[simp] theorem touchBus_clock (s : State) : (touchBus s).clock = s.clock := by rw [touchBus_eq]
@[simp] theorem touchBus_fresh (s : State) : (touchBus s).fresh = s.fresh := by rw [touchBus_eq]
@[simp] theorem touchBus_dev (s : State) : (touchBus s).dev = s.dev := by rw [touchBus_eq]
@[simp] theorem touchBus_aorf (s : State) : (touchBus s).aorf = s.aorf := by rw [touchBus_eq]
@[simp] theorem touchBus_tb (s : State) : (touchBus s).tb = s.tb := by rw [touchBus_eq]
@[simp] theorem touchBus_set (s : State) : (touchBus s).set = s.set := by rw [touchBus_eq]
@[simp] theorem touchBus_cm (s : State) : (touchBus s).cm = s.cm := by rw [touchBus_eq]
@[simp] theorem touchBus_en (s : State) : (touchBus s).en = s.en := by rw [touchBus_eq]
@[simp] theorem touchBus_sf (s : State) : (touchBus s).sf = s.sf := by rw [touchBus_eq]
@[simp] theorem touchBus_ent (s : State) : (touchBus s).ent = s.ent := by rw [touchBus_eq]
@[simp] theorem touchBus_links (s : State) : (touchBus s).links = s.links := by rw [touchBus_eq]
@[simp] theorem touchBus_ports (s : State) : (touchBus s).ports = s.ports := by rw [touchBus_eq]
@[simp] theorem touchBus_short (s : State) : (touchBus s).short = s.short := by rw [touchBus_eq]
@[simp] theorem touchBus_wp (s : State) : (touchBus s).wp = s.wp := by rw [touchBus_eq]
@[simp] theorem touchBus_fu (s : State) : (touchBus s).fu = s.fu := by rw [touchBus_eq]
@[simp] theorem touchBus_db (s : State) : (touchBus s).db = s.db := by rw [touchBus_eq]
@[simp] theorem touchBus_sram (s : State) : (touchBus s).sram = s.sram := by rw [touchBus_eq]

/-! ### putRead -/

theorem putRead_eq (n : Nat) (bytes : List Byte) (s : State) :
    putRead n bytes s = { s with hb := (putRead n bytes s).hb } := rfl
@[simp] theorem putRead_pending (n : Nat) (bytes : List Byte) (s : State) : (putRead n bytes s).pending = s.pending := by rw [putRead_eq]
@[simp] theorem putRead_clock (n : Nat) (bytes : List Byte) (s : State) : (putRead n bytes s).clock = s.clock := by rw [putRead_eq]
@[simp] theorem putRead_fresh (n : Nat) (bytes : List Byte) (s : State) : (putRead n bytes s).fresh = s.fresh := by rw [putRead_eq]
@[simp] theorem putRead_dev (n : Nat) (bytes : List Byte) (s : State) : (putRead n bytes s).dev = s.dev := by rw [putRead_eq]
@[simp] theorem putRead_aorf (n : Nat) (bytes : List Byte) (s : State) : (putRead n bytes s).aorf = s.aorf := by rw [putRead_eq]
@[simp] theorem putRead_tb (n : Nat) (bytes : List Byte) (s : State) : (putRead n bytes s).tb = s.tb := by rw [putRead_eq]
@[simp] theorem putRead_set (n : Nat) (bytes : List Byte) (s : State) : (putRead n bytes s).set = s.set := by rw [putRead_eq]
@[simp] theorem putRead_nv (n : Nat) (bytes : List Byte) (s : State) : (putRead n bytes s).nv = s.nv := by rw [putRead_eq]
@[simp] theorem putRead_jr (n : Nat) (bytes : List Byte) (s : State) : (putRead n bytes s).jr = s.jr := by rw [putRead_eq]
@[simp] theorem putRead_cm (n : Nat) (bytes : List Byte) (s : State) : (putRead n bytes s).cm = s.cm := by rw [putRead_eq]
@[simp] theorem putRead_en (n : Nat) (bytes : List Byte) (s : State) : (putRead n bytes s).en = s.en := by rw [putRead_eq]
@[simp] theorem putRead_sf (n : Nat) (bytes : List Byte) (s : State) : (putRead n bytes s).sf = s.sf := by rw [putRead_eq]
@[simp] theorem putRead_ent (n : Nat) (bytes : List Byte) (s : State) : (putRead n bytes s).ent = s.ent := by rw [putRead_eq]
@[simp] theorem putRead_links (n : Nat) (bytes : List Byte) (s : State) : (putRead n bytes s).links = s.links := by rw [putRead_eq]
@[simp] theorem putRead_ports (n : Nat) (bytes : List Byte) (s : State) : (putRead n bytes s).ports = s.ports := by rw [putRead_eq]
@[simp] theorem putRead_short (n : Nat) (bytes : List Byte) (s : State) : (putRead n bytes s).short = s.short := by rw [putRead_eq]
@[simp] theorem putRead_wp (n : Nat) (bytes : List Byte) (s : State) : (putRead n bytes s).wp = s.wp := by rw [putRead_eq]
@[simp] theorem putRead_fu (n : Nat) (bytes : List Byte) (s : State) : (putRead n bytes s).fu = s.fu := by rw [putRead_eq]
@[simp] theorem putRead_db (n : Nat) (bytes : List Byte) (s : State) : (putRead n bytes s).db = s.db := by rw [putRead_eq]
@[simp] theorem putRead_sram (n : Nat) (bytes : List Byte) (s : State) : (putRead n bytes s).sram = s.sram := by rw [putRead_eq]

/-! ### removeReply -/

theorem removeReply_eq (r : Reply) (rest : List Reply) (s : State) :
    removeReply r rest s = { s with cm := (removeReply r rest s).cm } := rfl
@[simp] theorem removeReply_pending (r : Reply) (rest : List Reply) (s : State) : (removeReply r rest s).pending = s.pending := by rw [removeReply_eq]
@[simp] theorem removeReply_clock (r : Reply) (rest : List Reply) (s : State) : (removeReply r rest s).clock = s.clock := by rw [removeReply_eq]
@[simp] theorem removeReply_fresh (r : Reply) (rest : List Reply) (s : State) : (removeReply r rest s).fresh = s.fresh := by rw [removeReply_eq]
@[simp] theorem removeReply_dev (r : Reply) (rest : List Reply) (s : State) : (removeReply r rest s).dev = s.dev := by rw [removeReply_eq]
@[simp] theorem removeReply_aorf (r : Reply) (rest : List Reply) (s : State) : (removeReply r rest s).aorf = s.aorf := by rw [removeReply_eq]
@[simp] theorem removeReply_tb (r : Reply) (rest : List Reply) (s : State) : (removeReply r rest s).tb = s.tb := by rw [removeReply_eq]
@[simp] theorem removeReply_set (r : Reply) (rest : List Reply) (s : State) : (removeReply r rest s).set = s.set := by rw [removeReply_eq]
@[simp] theorem removeReply_nv (r : Reply) (rest : List Reply) (s : State) : (removeReply r rest s).nv = s.nv := by rw [removeReply_eq]
@[simp] theorem removeReply_jr (r : Reply) (rest : List Reply) (s : State) : (removeReply r rest s).jr = s.jr := by rw [removeReply_eq]
@[simp] theorem removeReply_hb (r : Reply) (rest : List Reply) (s : State) : (removeReply r rest s).hb = s.hb := by rw [removeReply_eq]
@[simp] theorem removeReply_en (r : Reply) (rest : List Reply) (s : State) : (removeReply r rest s).en = s.en := by rw [removeReply_eq]
@[simp] theorem removeReply_sf (r : Reply) (rest : List Reply) (s : State) : (removeReply r rest s).sf = s.sf := by rw [removeReply_eq]
@[simp] theorem removeReply_ent (r : Reply) (rest : List Reply) (s : State) : (removeReply r rest s).ent = s.ent := by rw [removeReply_eq]
@[simp] theorem removeReply_links (r : Reply) (rest : List Reply) (s : State) : (removeReply r rest s).links = s.links := by rw [removeReply_eq]
@[simp] theorem removeReply_ports (r : Reply) (rest : List Reply) (s : State) : (removeReply r rest s).ports = s.ports := by rw [removeReply_eq]
@[simp] theorem removeReply_short (r : Reply) (rest : List Reply) (s : State) : (removeReply r rest s).short = s.short := by rw [removeReply_eq]
@[simp] theorem removeReply_wp (r : Reply) (rest : List Reply) (s : State) : (removeReply r rest s).wp = s.wp := by rw [removeReply_eq]
@[simp] theorem removeReply_fu (r : Reply) (rest : List Reply) (s : State) : (removeReply r rest s).fu = s.fu := by rw [removeReply_eq]
@[simp] theorem removeReply_db (r : Reply) (rest : List Reply) (s : State) : (removeReply r rest s).db = s.db := by rw [removeReply_eq]
@[simp] theorem removeReply_sram (r : Reply) (rest : List Reply) (s : State) : (removeReply r rest s).sram = s.sram := by rw [removeReply_eq]

/-! ### takeTag -/

theorem takeTag_eq (p : Packet) (s : State) :
    takeTag p s = { s with cm := (takeTag p s).cm } := rfl
@[simp] theorem takeTag_pending (p : Packet) (s : State) : (takeTag p s).pending = s.pending := by rw [takeTag_eq]
@[simp] theorem takeTag_clock (p : Packet) (s : State) : (takeTag p s).clock = s.clock := by rw [takeTag_eq]
@[simp] theorem takeTag_fresh (p : Packet) (s : State) : (takeTag p s).fresh = s.fresh := by rw [takeTag_eq]
@[simp] theorem takeTag_dev (p : Packet) (s : State) : (takeTag p s).dev = s.dev := by rw [takeTag_eq]
@[simp] theorem takeTag_aorf (p : Packet) (s : State) : (takeTag p s).aorf = s.aorf := by rw [takeTag_eq]
@[simp] theorem takeTag_tb (p : Packet) (s : State) : (takeTag p s).tb = s.tb := by rw [takeTag_eq]
@[simp] theorem takeTag_set (p : Packet) (s : State) : (takeTag p s).set = s.set := by rw [takeTag_eq]
@[simp] theorem takeTag_nv (p : Packet) (s : State) : (takeTag p s).nv = s.nv := by rw [takeTag_eq]
@[simp] theorem takeTag_jr (p : Packet) (s : State) : (takeTag p s).jr = s.jr := by rw [takeTag_eq]
@[simp] theorem takeTag_hb (p : Packet) (s : State) : (takeTag p s).hb = s.hb := by rw [takeTag_eq]
@[simp] theorem takeTag_en (p : Packet) (s : State) : (takeTag p s).en = s.en := by rw [takeTag_eq]
@[simp] theorem takeTag_sf (p : Packet) (s : State) : (takeTag p s).sf = s.sf := by rw [takeTag_eq]
@[simp] theorem takeTag_ent (p : Packet) (s : State) : (takeTag p s).ent = s.ent := by rw [takeTag_eq]
@[simp] theorem takeTag_links (p : Packet) (s : State) : (takeTag p s).links = s.links := by rw [takeTag_eq]
@[simp] theorem takeTag_ports (p : Packet) (s : State) : (takeTag p s).ports = s.ports := by rw [takeTag_eq]
@[simp] theorem takeTag_short (p : Packet) (s : State) : (takeTag p s).short = s.short := by rw [takeTag_eq]
@[simp] theorem takeTag_wp (p : Packet) (s : State) : (takeTag p s).wp = s.wp := by rw [takeTag_eq]
@[simp] theorem takeTag_fu (p : Packet) (s : State) : (takeTag p s).fu = s.fu := by rw [takeTag_eq]
@[simp] theorem takeTag_db (p : Packet) (s : State) : (takeTag p s).db = s.db := by rw [takeTag_eq]
@[simp] theorem takeTag_sram (p : Packet) (s : State) : (takeTag p s).sram = s.sram := by rw [takeTag_eq]

/-! ### updLink -/

theorem updLink_eq (l : Nat) (g : Link → Link) (s : State) :
    updLink l g s = { s with links := (updLink l g s).links } := rfl
@[simp] theorem updLink_pending (l : Nat) (g : Link → Link) (s : State) : (updLink l g s).pending = s.pending := by rw [updLink_eq]
@[simp] theorem updLink_clock (l : Nat) (g : Link → Link) (s : State) : (updLink l g s).clock = s.clock := by rw [updLink_eq]
@[simp] theorem updLink_fresh (l : Nat) (g : Link → Link) (s : State) : (updLink l g s).fresh = s.fresh := by rw [updLink_eq]
@[simp] theorem updLink_dev (l : Nat) (g : Link → Link) (s : State) : (updLink l g s).dev = s.dev := by rw [updLink_eq]
@[simp] theorem updLink_aorf (l : Nat) (g : Link → Link) (s : State) : (updLink l g s).aorf = s.aorf := by rw [updLink_eq]
@[simp] theorem updLink_tb (l : Nat) (g : Link → Link) (s : State) : (updLink l g s).tb = s.tb := by rw [updLink_eq]
@[simp] theorem updLink_set (l : Nat) (g : Link → Link) (s : State) : (updLink l g s).set = s.set := by rw [updLink_eq]
@[simp] theorem updLink_nv (l : Nat) (g : Link → Link) (s : State) : (updLink l g s).nv = s.nv := by rw [updLink_eq]
@[simp] theorem updLink_jr (l : Nat) (g : Link → Link) (s : State) : (updLink l g s).jr = s.jr := by rw [updLink_eq]
@[simp] theorem updLink_hb (l : Nat) (g : Link → Link) (s : State) : (updLink l g s).hb = s.hb := by rw [updLink_eq]
@[simp] theorem updLink_cm (l : Nat) (g : Link → Link) (s : State) : (updLink l g s).cm = s.cm := by rw [updLink_eq]
@[simp] theorem updLink_en (l : Nat) (g : Link → Link) (s : State) : (updLink l g s).en = s.en := by rw [updLink_eq]
@[simp] theorem updLink_sf (l : Nat) (g : Link → Link) (s : State) : (updLink l g s).sf = s.sf := by rw [updLink_eq]
@[simp] theorem updLink_ent (l : Nat) (g : Link → Link) (s : State) : (updLink l g s).ent = s.ent := by rw [updLink_eq]
@[simp] theorem updLink_ports (l : Nat) (g : Link → Link) (s : State) : (updLink l g s).ports = s.ports := by rw [updLink_eq]
@[simp] theorem updLink_short (l : Nat) (g : Link → Link) (s : State) : (updLink l g s).short = s.short := by rw [updLink_eq]
@[simp] theorem updLink_wp (l : Nat) (g : Link → Link) (s : State) : (updLink l g s).wp = s.wp := by rw [updLink_eq]
@[simp] theorem updLink_fu (l : Nat) (g : Link → Link) (s : State) : (updLink l g s).fu = s.fu := by rw [updLink_eq]
@[simp] theorem updLink_db (l : Nat) (g : Link → Link) (s : State) : (updLink l g s).db = s.db := by rw [updLink_eq]
@[simp] theorem updLink_sram (l : Nat) (g : Link → Link) (s : State) : (updLink l g s).sram = s.sram := by rw [updLink_eq]

/-! ### updProd -/

theorem updProd_eq (n : Nat) (k : ProdSt → ProdSt) (s : State) :
    updProd n k s = { s with sf := (updProd n k s).sf } := rfl
@[simp] theorem updProd_pending (n : Nat) (k : ProdSt → ProdSt) (s : State) : (updProd n k s).pending = s.pending := by rw [updProd_eq]
@[simp] theorem updProd_clock (n : Nat) (k : ProdSt → ProdSt) (s : State) : (updProd n k s).clock = s.clock := by rw [updProd_eq]
@[simp] theorem updProd_fresh (n : Nat) (k : ProdSt → ProdSt) (s : State) : (updProd n k s).fresh = s.fresh := by rw [updProd_eq]
@[simp] theorem updProd_dev (n : Nat) (k : ProdSt → ProdSt) (s : State) : (updProd n k s).dev = s.dev := by rw [updProd_eq]
@[simp] theorem updProd_aorf (n : Nat) (k : ProdSt → ProdSt) (s : State) : (updProd n k s).aorf = s.aorf := by rw [updProd_eq]
@[simp] theorem updProd_tb (n : Nat) (k : ProdSt → ProdSt) (s : State) : (updProd n k s).tb = s.tb := by rw [updProd_eq]
@[simp] theorem updProd_set (n : Nat) (k : ProdSt → ProdSt) (s : State) : (updProd n k s).set = s.set := by rw [updProd_eq]
@[simp] theorem updProd_nv (n : Nat) (k : ProdSt → ProdSt) (s : State) : (updProd n k s).nv = s.nv := by rw [updProd_eq]
@[simp] theorem updProd_jr (n : Nat) (k : ProdSt → ProdSt) (s : State) : (updProd n k s).jr = s.jr := by rw [updProd_eq]
@[simp] theorem updProd_hb (n : Nat) (k : ProdSt → ProdSt) (s : State) : (updProd n k s).hb = s.hb := by rw [updProd_eq]
@[simp] theorem updProd_cm (n : Nat) (k : ProdSt → ProdSt) (s : State) : (updProd n k s).cm = s.cm := by rw [updProd_eq]
@[simp] theorem updProd_en (n : Nat) (k : ProdSt → ProdSt) (s : State) : (updProd n k s).en = s.en := by rw [updProd_eq]
@[simp] theorem updProd_ent (n : Nat) (k : ProdSt → ProdSt) (s : State) : (updProd n k s).ent = s.ent := by rw [updProd_eq]
@[simp] theorem updProd_links (n : Nat) (k : ProdSt → ProdSt) (s : State) : (updProd n k s).links = s.links := by rw [updProd_eq]
@[simp] theorem updProd_ports (n : Nat) (k : ProdSt → ProdSt) (s : State) : (updProd n k s).ports = s.ports := by rw [updProd_eq]
@[simp] theorem updProd_short (n : Nat) (k : ProdSt → ProdSt) (s : State) : (updProd n k s).short = s.short := by rw [updProd_eq]
@[simp] theorem updProd_wp (n : Nat) (k : ProdSt → ProdSt) (s : State) : (updProd n k s).wp = s.wp := by rw [updProd_eq]
@[simp] theorem updProd_fu (n : Nat) (k : ProdSt → ProdSt) (s : State) : (updProd n k s).fu = s.fu := by rw [updProd_eq]
@[simp] theorem updProd_db (n : Nat) (k : ProdSt → ProdSt) (s : State) : (updProd n k s).db = s.db := by rw [updProd_eq]
@[simp] theorem updProd_sram (n : Nat) (k : ProdSt → ProdSt) (s : State) : (updProd n k s).sram = s.sram := by rw [updProd_eq]

/-! ### updCons -/

theorem updCons_eq (n : Nat) (m : ConsSt → ConsSt) (s : State) :
    updCons n m s = { s with sf := (updCons n m s).sf } := rfl
@[simp] theorem updCons_pending (n : Nat) (m : ConsSt → ConsSt) (s : State) : (updCons n m s).pending = s.pending := by rw [updCons_eq]
@[simp] theorem updCons_clock (n : Nat) (m : ConsSt → ConsSt) (s : State) : (updCons n m s).clock = s.clock := by rw [updCons_eq]
@[simp] theorem updCons_fresh (n : Nat) (m : ConsSt → ConsSt) (s : State) : (updCons n m s).fresh = s.fresh := by rw [updCons_eq]
@[simp] theorem updCons_dev (n : Nat) (m : ConsSt → ConsSt) (s : State) : (updCons n m s).dev = s.dev := by rw [updCons_eq]
@[simp] theorem updCons_aorf (n : Nat) (m : ConsSt → ConsSt) (s : State) : (updCons n m s).aorf = s.aorf := by rw [updCons_eq]
@[simp] theorem updCons_tb (n : Nat) (m : ConsSt → ConsSt) (s : State) : (updCons n m s).tb = s.tb := by rw [updCons_eq]
@[simp] theorem updCons_set (n : Nat) (m : ConsSt → ConsSt) (s : State) : (updCons n m s).set = s.set := by rw [updCons_eq]
@[simp] theorem updCons_nv (n : Nat) (m : ConsSt → ConsSt) (s : State) : (updCons n m s).nv = s.nv := by rw [updCons_eq]
@[simp] theorem updCons_jr (n : Nat) (m : ConsSt → ConsSt) (s : State) : (updCons n m s).jr = s.jr := by rw [updCons_eq]
@[simp] theorem updCons_hb (n : Nat) (m : ConsSt → ConsSt) (s : State) : (updCons n m s).hb = s.hb := by rw [updCons_eq]
@[simp] theorem updCons_cm (n : Nat) (m : ConsSt → ConsSt) (s : State) : (updCons n m s).cm = s.cm := by rw [updCons_eq]
@[simp] theorem updCons_en (n : Nat) (m : ConsSt → ConsSt) (s : State) : (updCons n m s).en = s.en := by rw [updCons_eq]
@[simp] theorem updCons_ent (n : Nat) (m : ConsSt → ConsSt) (s : State) : (updCons n m s).ent = s.ent := by rw [updCons_eq]
@[simp] theorem updCons_links (n : Nat) (m : ConsSt → ConsSt) (s : State) : (updCons n m s).links = s.links := by rw [updCons_eq]
@[simp] theorem updCons_ports (n : Nat) (m : ConsSt → ConsSt) (s : State) : (updCons n m s).ports = s.ports := by rw [updCons_eq]
@[simp] theorem updCons_short (n : Nat) (m : ConsSt → ConsSt) (s : State) : (updCons n m s).short = s.short := by rw [updCons_eq]
@[simp] theorem updCons_wp (n : Nat) (m : ConsSt → ConsSt) (s : State) : (updCons n m s).wp = s.wp := by rw [updCons_eq]
@[simp] theorem updCons_fu (n : Nat) (m : ConsSt → ConsSt) (s : State) : (updCons n m s).fu = s.fu := by rw [updCons_eq]
@[simp] theorem updCons_db (n : Nat) (m : ConsSt → ConsSt) (s : State) : (updCons n m s).db = s.db := by rw [updCons_eq]
@[simp] theorem updCons_sram (n : Nat) (m : ConsSt → ConsSt) (s : State) : (updCons n m s).sram = s.sram := by rw [updCons_eq]

end Sys2Proof.Machine
end

