-- ==== Sys2Proof/Laws/Events.lean ====
section
/-! SUPPORT. Laws of writing the store and of raising events: what an event may change of the store, what a write does while no word
fails its read-back, and what an event does while the journal takes it. -/

namespace Sys2Proof.Machine

/-! ## The store under the event operations -/

theorem EventStore.refl (s : State) : EventStore s s := ⟨rfl, fun hw => ⟨hw, rfl, rfl, rfl, rfl, rfl⟩⟩

theorem EventStore.worn {s t : State} (h : EventStore s t) (hw : s.nv.worn = []) : t.nv.worn = [] := (h.2 hw).1

theorem EventStore.trans {s t u : State} (h1 : EventStore s t) (h2 : EventStore t u) : EventStore s u := by
  refine ⟨by rw [h2.1, h1.1], fun hw => ?_⟩
  obtain ⟨a0, a1, a2, a3, a4, a5⟩ := h1.2 hw
  obtain ⟨b0, b1, b2, b3, b4, b5⟩ := h2.2 a0
  exact ⟨b0, b1.trans a1, b2.trans a2, b3.trans a3, b4.trans a4, b5.trans a5⟩

/-- Nothing but the journal writer and the bus was touched. -/
theorem EventStore.of_nv {s t : State} (h : t.nv = s.nv) : EventStore s t := by
  refine ⟨by rw [h], fun hw => ?_⟩
  rw [h]
  exact ⟨hw, rfl, rfl, rfl, rfl, rfl⟩

/-- Where some word fails its read-back, the parts named are all that a write can change. -/
theorem EventStore.of_worn {s t : State} (h : s.nv.worn ≠ [])
    (h1 : t.nv = { s.nv with
      live := { s.nv.live with
        gap := t.nv.live.gap, headCheck := t.nv.live.headCheck, degraded := t.nv.live.degraded, nvaOut := t.nv.live.nvaOut,
        nvbOut := t.nv.live.nvbOut },
      due := t.nv.due, records := t.nv.records, head := t.nv.head, stored := t.nv.stored, paramSeq := t.nv.paramSeq,
      slots := t.nv.slots, unreached := t.nv.unreached, worn := t.nv.worn, lostA := t.nv.lostA, lostB := t.nv.lostB }) :
    EventStore s t := ⟨h1, fun hw => absurd hw h⟩

theorem raiseCause_store (bit : Nat) (s : State) : EventStore s (raiseCause bit s) := .of_nv (by rw [raiseCause_nv])

theorem setGap_store (g : Gap → Gap) (s : State) : EventStore s (setItem (fun p => { p with gap := g p.gap }) s) :=
  ⟨rfl, fun hw => ⟨hw, rfl, rfl, rfl, rfl, rfl⟩⟩

theorem queueEvent_store (time : DWord) (src : Nat) (code : Half) (c : Cls) (arg : DWord) (s : State) :
    EventStore s (queueEvent time src code c arg s) := by
  unfold queueEvent
  split
  · exact .refl s
  · split
    · dsimp only
      split
      · exact (setGap_store (·.count c) s).trans (raiseCause_store _ _)
      · exact setGap_store (·.count c) s
    · exact .of_nv rfl

/-! ## Writes and their read-back (R243, R250) -/

theorem wornAt_none {s : State} (h : s.nv.worn = []) (b : Bool) (addr len : Nat) : wornAt b addr len s = none := by
  unfold wornAt; rw [h]; rfl

theorem wornAt_some {s : State} {b : Bool} {addr len w : Nat} (h : wornAt b addr len s = some w) : s.nv.worn ≠ [] :=
  fun h0 => by rw [wornAt_none h0] at h; cases h

theorem countRetries_none {s : State} (h : s.nv.worn = []) (b : Bool) (addr len : Nat) : countRetries b addr len s = s := by
  unfold countRetries; rw [h]; rfl

theorem countRetries_store (b : Bool) (addr len : Nat) (s : State) : EventStore s (countRetries b addr len s) := by
  by_cases h : s.nv.worn = []
  · rw [countRetries_none h]; exact .refl s
  · refine .of_worn h ?_
    unfold countRetries
    split <;> rfl

theorem writeFailed_store (b : Bool) (word addr len : Nat) (s : State) (h : s.nv.worn ≠ []) :
    EventStore s (writeFailed b word addr len s) := by
  have h0 := countRetries_store b addr len s
  unfold writeFailed loseMacro
  generalize countRetries b addr len s = m at h0 ⊢
  split
  · exact h0
  · dsimp only
    refine .trans (.trans ?_ (queueEvent_store _ _ _ _ _ _)) (raiseCause_store _ _)
    refine .of_worn h ?_
    simp only [setItem]
    rw [h0.1]

theorem tryParams_store (s : State) : EventStore s (tryParams s) := by
  unfold tryParams
  split
  · exact .refl s
  · dsimp only
    split
    · rename_i h; exact writeFailed_store _ _ _ _ s (wornAt_some h)
    · exact (countRetries_store _ _ _ s).trans ⟨rfl, fun hw => ⟨hw, rfl, rfl, rfl, rfl, rfl⟩⟩

theorem writeParams_store (s : State) : EventStore s (writeParams s) := by
  have h0 : EventStore s { s with nv := { s.nv with due := true } } := ⟨rfl, fun hw => ⟨hw, rfl, rfl, rfl, rfl, rfl⟩⟩
  have h1 := h0.trans (tryParams_store _)
  unfold writeParams
  dsimp only
  split
  · exact h1.trans (tryParams_store _)
  · exact h1

theorem writeOne_store (b : Bool) (addr len : Nat) (s : State) : EventStore s (writeOne b addr len s) := by
  unfold writeOne
  split
  · exact .refl s
  · split
    · rename_i h; exact (writeFailed_store _ _ _ _ s (wornAt_some h)).trans (writeParams_store _)
    · exact countRetries_store _ _ _ s

theorem mirror_store (addr len : Nat) (s : State) : EventStore s (mirror addr len s) :=
  (writeOne_store _ _ _ s).trans (writeOne_store _ _ _ _)

/-- While every word passes its read-back, a mirrored write leaves the macros as they are. -/
theorem mirror_sound {s : State} (h : s.nv.worn = []) (addr len : Nat) : mirror addr len s = s := by
  have h1 (b : Bool) : writeOne b addr len s = s := by
    unfold writeOne; rw [wornAt_none h]
    split
    · rfl
    · exact countRetries_none h _ _ _
  unfold mirror; rw [h1, h1]

/-- While the store takes what is written, a parameter record holds the live items (R247). -/
theorem writeParams_sound {s : State} (h : StoreTakes s) :
    writeParams s = { s with nv := { s.nv with
      stored := s.nv.live, paramSeq := s.nv.paramSeq + 1, due := false,
      slots := putSlot { inB := paramInB (s.nv.paramSeq + 1) s, slot := paramSlot (s.nv.paramSeq + 1) s,
                         seq := s.nv.paramSeq + 1, items := s.nv.live } s.nv.slots } } := by
  have hb : nvBothOut { s with nv := { s.nv with due := true } } = false := h.2
  have hw : ∀ b addr len, wornAt b addr len { s with nv := { s.nv with due := true } } = none := fun b addr len => wornAt_none h.1 b addr len
  have hc : ∀ b addr len, countRetries b addr len { s with nv := { s.nv with due := true } } = { s with nv := { s.nv with due := true } } :=
    fun b addr len => countRetries_none (s := { s with nv := { s.nv with due := true } }) h.1 b addr len
  unfold writeParams tryParams
  simp only [hb, hw, hc]
  rfl

/-- While the store takes what is written, an item stored is live and in the record. -/
theorem storeItem_sound (f : Params → Params) {s : State} (h : StoreTakes s)
    (hf : (f s.nv.live).nvaOut = s.nv.live.nvaOut ∧ (f s.nv.live).nvbOut = s.nv.live.nvbOut) :
    (storeItem f s).nv.live = f s.nv.live ∧ (storeItem f s).nv.stored = f s.nv.live := by
  have h' : StoreTakes (setItem f s) := by
    refine ⟨h.1, ?_⟩
    have := h.2
    unfold nvBothOut at *
    rw [show (setItem f s).nv.live = f s.nv.live from rfl, hf.1, hf.2]
    exact this
  unfold storeItem
  rw [writeParams_sound h']
  exact ⟨rfl, rfl⟩

/-! ## Events -/

theorem enqueue_store (time : DWord) (src : Nat) (code : Half) (c : Cls) (arg : DWord) (s : State) :
    EventStore s (enqueue time src code c arg s) := by
  unfold enqueue
  dsimp only
  split
  · exact (queueEvent_store _ _ _ _ _ s).trans (writeParams_store _)
  · exact queueEvent_store _ _ _ _ _ s

theorem check75_store (s : State) : EventStore s (check75 s) := by
  unfold check75
  split
  · refine EventStore.trans (t := { s with jr := { s.jr with full75 := true } }) (.of_nv rfl) (.trans ?_ (raiseCause_store _ _))
    exact enqueue_store _ _ _ _ _ _
  · exact .refl s

theorem setPending_store (src : Nat) (s : State) : EventStore s (setPending src s) := by
  unfold setPending
  dsimp only
  split
  · exact .refl s
  · exact .of_nv (raiseCause_nv _ _)

theorem noteUnreached_store (r : Option Record) (s : State) : EventStore s (noteUnreached r s) := by
  unfold noteUnreached
  split
  · split
    · exact ⟨rfl, fun hw => ⟨hw, rfl, rfl, rfl, rfl, rfl⟩⟩
    · exact .refl s
  · exact .refl s

theorem commitRecord_store (r : Record) (s : State) : EventStore s (commitRecord r s) := by
  have h := noteUnreached_store (recordInSlot (slotOf r.seq) s.nv.records) s
  unfold commitRecord
  generalize noteUnreached _ s = m at h ⊢
  refine h.trans ?_
  dsimp only
  split <;> exact ⟨rfl, fun hw => ⟨hw, rfl, rfl, rfl, rfl, rfl⟩⟩

theorem setPendingIf_store (b : Bool) (src : Nat) (s : State) : EventStore s (if b then setPending src s else s) := by
  split
  · exact setPending_store _ _
  · exact .refl s

theorem commitGap_store (s : State) : EventStore s (commitGap s) := by
  unfold commitGap
  split
  · dsimp only
    have h0 := mirror_store (slotOffset (seqNext s.nv.head)) 32 s
    generalize mirror (slotOffset (seqNext s.nv.head)) 32 s = m at h0 ⊢
    split
    · exact h0
    · refine h0.trans (.trans (.trans (commitRecord_store (gapRecord m) m) (.trans (setGap_store (fun _ => Gap.none) _) (writeParams_store _))) ?_)
      exact .trans (setPendingIf_store _ _ _) (check75_store _)
  · exact .refl s

theorem commitNext_store (s : State) : EventStore s (commitNext s) := by
  unfold commitNext
  split
  · exact .refl s
  · split
    · exact .refl s
    · dsimp only
      have h0 := mirror_store (slotOffset (seqNext s.nv.head)) 32 s
      generalize mirror (slotOffset (seqNext s.nv.head)) 32 s = m at h0 ⊢
      split
      · exact h0
      · rename_i e _ _ _ _
        refine h0.trans (.trans (.trans (.of_nv (t := { m with jr := { m.jr with queue := m.jr.queue.drop 1 } }) rfl)
          (commitRecord_store (nextRecord e m) _)) ?_)
        exact .trans (setPendingIf_store _ _ _) (check75_store _)

/-- All that raising an event changes of the store. -/
theorem raise_store (src : Nat) (code : Half) (c : Cls) (arg : DWord) (s : State) : EventStore s (raise src code c arg s) :=
  (commitGap_store s).trans (enqueue_store _ _ _ _ _ _)

/-- All that raising an event changes of the block. -/
theorem raise_frame (src : Nat) (code : Half) (c : Cls) (arg : DWord) (s : State) : EventFrame s (raise src code c arg s) :=
  ⟨by conv => lhs; rw [raise_eq], raise_store src code c arg s⟩

theorem touchBus_store (s : State) : EventStore s (touchBus s) := by
  unfold touchBus
  dsimp only
  split
  · refine .trans (.of_nv ?_) (raise_store _ _ _ _ _)
    rfl
  · exact .of_nv rfl

/-! ## What that leaves of the command layer's part -/

theorem EventStore.chains {s t : State} (h : EventStore s t) : t.nv.chains = s.nv.chains := by rw [h.1]

theorem EventStore.lastE {s t : State} (h : EventStore s t) : t.nv.lastE = s.nv.lastE := by rw [h.1]

theorem EventStore.outcomes {s t : State} (h : EventStore s t) : t.nv.outcomes = s.nv.outcomes := by rw [h.1]

theorem EventStore.headChain {s t : State} (h : EventStore s t) : headChain t = headChain s := by
  unfold Machine.headChain; rw [h.chains, h.lastE]

/-- A store that takes what is written goes on taking it through every event. -/
theorem EventStore.takes {s t : State} (h : EventStore s t) (hs : StoreTakes s) : StoreTakes t := by
  obtain ⟨hw, -, -, -, ha, hb⟩ := h.2 hs.1
  refine ⟨hw, ?_⟩
  have := hs.2
  unfold nvBothOut at *
  rw [ha, hb]
  exact this

/-! ## While the journal takes events -/

theorem commitGap_inactive (s : State) (h : s.nv.live.gap.active = false) : commitGap s = s := by
  unfold commitGap gapEnds; simp [h]

/-- An event of an enabled source, or of a class that no enable drops, enters the queue and changes nothing else. -/
theorem raise_open (src : Nat) (code : Half) (c : Cls) (arg : DWord) (s : State) (h : JournalOpen s)
    (he : 2 ≤ c.code ∨ evEnabled s src = true) :
    raise src code c arg s = { s with jr := { s.jr with queue := s.jr.queue ++ [eventOf src code c arg s] } } := by
  have hn : dropsEvent src c s = false := by
    unfold dropsEvent
    rcases he with he | he
    · simp; omega
    · simp [he]
  have hm : meetsGap s = false := by unfold meetsGap; rw [h.1, h.2.1, h.2.2]; rfl
  unfold raise raiseAt
  rw [commitGap_inactive s h.1]
  unfold enqueue queueEvent
  simp only [hn, hm]
  rfl

/-- An event of a disabled source and of class INFO or NOTICE is dropped (R329). -/
theorem raise_dropped (src : Nat) (code : Half) (c : Cls) (arg : DWord) (s : State) (h : s.nv.live.gap.active = false)
    (hc : c.code ≤ 1) (he : evEnabled s src = false) : raise src code c arg s = s := by
  have hn : dropsEvent src c s = true := by unfold dropsEvent; simp [hc, he]
  unfold raise raiseAt
  rw [commitGap_inactive s h]
  unfold enqueue queueEvent
  simp only [hn]
  simp

/-! ## The queue stays within its 64 entries (R249) -/

theorem raiseCause_queue (bit : Nat) (s : State) : (raiseCause bit s).jr.queue = s.jr.queue := by rw [raiseCause_jr]

theorem queueEvent_queue (time : DWord) (src : Nat) (code : Half) (c : Cls) (arg : DWord) (s : State)
    (h : s.jr.queue.length ≤ 64) : (queueEvent time src code c arg s).jr.queue.length ≤ 64 := by
  unfold queueEvent
  split
  · exact h
  · split
    · dsimp only
      split
      · rw [raiseCause_queue]; exact h
      · exact h
    · rename_i hf
      have : ¬ 64 ≤ s.jr.queue.length := fun hq => hf (by simp [meetsGap, queueFull, hq])
      simp
      omega

theorem countRetries_queue (b : Bool) (addr len : Nat) (s : State) : (countRetries b addr len s).jr.queue = s.jr.queue := by
  unfold countRetries; split <;> rfl

theorem writeFailed_queue (b : Bool) (word addr len : Nat) (s : State) (h : s.jr.queue.length ≤ 64) :
    (writeFailed b word addr len s).jr.queue.length ≤ 64 := by
  have h : (countRetries b addr len s).jr.queue.length ≤ 64 := by rw [countRetries_queue]; exact h
  unfold writeFailed loseMacro
  split
  · exact h
  · dsimp only
    rw [raiseCause_queue]
    exact queueEvent_queue _ _ _ _ _ _ h

theorem tryParams_queue (s : State) (h : s.jr.queue.length ≤ 64) : (tryParams s).jr.queue.length ≤ 64 := by
  unfold tryParams
  split
  · exact h
  · dsimp only
    split
    · exact writeFailed_queue _ _ _ _ s h
    · rw [show ∀ (m : State) (n : Nv), ({ m with nv := n } : State).jr = m.jr from fun _ _ => rfl, countRetries_queue]; exact h

theorem writeParams_queue (s : State) (h : s.jr.queue.length ≤ 64) : (writeParams s).jr.queue.length ≤ 64 := by
  have h1 := tryParams_queue { s with nv := { s.nv with due := true } } h
  unfold writeParams
  dsimp only
  split
  · exact tryParams_queue _ h1
  · exact h1

theorem writeOne_queue (b : Bool) (addr len : Nat) (s : State) (h : s.jr.queue.length ≤ 64) :
    (writeOne b addr len s).jr.queue.length ≤ 64 := by
  unfold writeOne
  split
  · exact h
  · split
    · exact writeParams_queue _ (writeFailed_queue _ _ _ _ s h)
    · rw [countRetries_queue]; exact h

theorem mirror_queue (addr len : Nat) (s : State) (h : s.jr.queue.length ≤ 64) : (mirror addr len s).jr.queue.length ≤ 64 :=
  writeOne_queue _ _ _ _ (writeOne_queue _ _ _ s h)

theorem enqueue_queue (time : DWord) (src : Nat) (code : Half) (c : Cls) (arg : DWord) (s : State)
    (h : s.jr.queue.length ≤ 64) : (enqueue time src code c arg s).jr.queue.length ≤ 64 := by
  unfold enqueue
  dsimp only
  split
  · exact writeParams_queue _ (queueEvent_queue _ _ _ _ _ s h)
  · exact queueEvent_queue _ _ _ _ _ s h

theorem check75_queue (s : State) (h : s.jr.queue.length ≤ 64) : (check75 s).jr.queue.length ≤ 64 := by
  unfold check75
  split
  · rw [raiseCause_queue]; exact enqueue_queue _ _ _ _ _ _ h
  · exact h

theorem setPending_queue (src : Nat) (s : State) : (setPending src s).jr.queue = s.jr.queue := by
  unfold setPending
  dsimp only
  split
  · rfl
  · rw [raiseCause_queue]

theorem commitRecord_queue (r : Record) (s : State) : (commitRecord r s).jr.queue = s.jr.queue := by
  rw [commitRecord_jr]

theorem commitGap_queue (s : State) (h : s.jr.queue.length ≤ 64) : (commitGap s).jr.queue.length ≤ 64 := by
  unfold commitGap
  split
  · dsimp only
    have h1 := mirror_queue (slotOffset (seqNext s.nv.head)) 32 s h
    generalize mirror (slotOffset (seqNext s.nv.head)) 32 s = m at h1 ⊢
    split
    · exact h1
    · have h2 (g : Params → Params) (r : Record) : (storeItem g (commitRecord r m)).jr.queue.length ≤ 64 := by
        refine writeParams_queue _ ?_
        rw [setItem_jr, commitRecord_queue]
        exact h1
      apply check75_queue
      split
      · rw [setPending_queue]; exact h2 _ _
      · exact h2 _ _
  · exact h

theorem raise_queue (src : Nat) (code : Half) (c : Cls) (arg : DWord) (s : State) (h : s.jr.queue.length ≤ 64) :
    (raise src code c arg s).jr.queue.length ≤ 64 := enqueue_queue _ _ _ _ _ _ (commitGap_queue s h)

theorem touchBus_queue (s : State) (h : s.jr.queue.length ≤ 64) : (touchBus s).jr.queue.length ≤ 64 := by
  unfold touchBus
  dsimp only
  split
  · exact raise_queue _ _ _ _ _ h
  · exact h

end Sys2Proof.Machine
end

