-- ==== Sys2Proof/Laws/Command.lean ====
section
/-! SUPPORT. Laws of the command layer: what becomes of a packet that the host may give, up to the execution of its opcode and the
commitment of its outcome. -/

namespace Sys2Proof.Machine

/-! ## Sequence values (R285) -/

theorem seqNext_ne_zero (a : Word) : seqNext a ≠ 0 := by
  unfold seqNext
  split
  · decide
  · rename_i h; intro h0; exact h (by bv_omega)

theorem seqDist_next (a : Word) : seqDist a (seqNext a) = 1 := by
  unfold seqDist seqNext
  have := a.isLt
  split
  · rename_i h; subst h; rfl
  · rename_i h
    have h1 : (a + 1).toNat = a.toNat + 1 := by bv_omega
    rw [h1, show a.toNat + 1 + 0xFFFFFFFF - a.toNat = 0x100000000 by omega]

theorem seqDist_next_back (a : Word) : ¬ seqDist (seqNext a) a ≤ 63 := by
  unfold seqDist seqNext
  have := a.isLt
  split
  · rename_i h; subst h; decide
  · rename_i h
    have h1 : (a + 1).toNat = a.toNat + 1 := by bv_omega
    rw [h1, show a.toNat + 0xFFFFFFFF - (a.toNat + 1) = 0xFFFFFFFE by omega]
    decide

/-! ## The fields of a packet of the host -/

theorem tagOf_plain (tag : BitVec 3) : tagOf (tag.setWidth 8) = tag.toNat := by
  revert tag; decide

theorem tagOf_seq (tag : BitVec 3) : tagOf (tag.setWidth 8 ||| 0x08) = tag.toNat := by
  revert tag; decide

theorem fieldsOk_plain (op : Byte) (tag : BitVec 3) (params : List Byte) (n : Nat) :
    fieldsOk (plainPacket op tag params) n false = true := by
  have h : ∀ tag : BitVec 3, ((tag.setWidth 8 : Byte) &&& 0xF0 == 0 && (tag.setWidth 8 : Byte).getLsbD 3 == false) = true := by decide
  simpa [fieldsOk, plainPacket] using h tag

theorem fieldsOk_seq (op : Byte) (tag : BitVec 3) (csn : Word) (params : List Byte) (n : Nat) (h : csn ≠ 0) (hn : 4 ≤ n) :
    fieldsOk (seqPacket op tag csn params) n true = true := by
  have ht : ∀ tag : BitVec 3, ((tag.setWidth 8 ||| 0x08 : Byte) &&& 0xF0 == 0 && (tag.setWidth 8 ||| 0x08 : Byte).getLsbD 3 == true) = true := by
    decide
  unfold fieldsOk
  rw [show (seqPacket op tag csn params).ctrl = tag.setWidth 8 ||| 0x08 from rfl, ht tag]
  simpa [seqPacket, hn] using h

theorem len_plain (op : Byte) (tag : BitVec 3) (params : List Byte) : (plainPacket op tag params).len = params.length := by
  simp [Packet.len, plainPacket]

theorem len_seq (op : Byte) (tag : BitVec 3) (csn : Word) (params : List Byte) :
    (seqPacket op tag csn params).len = params.length + 4 := by
  simp [Packet.len, seqPacket]

/-! ## A packet in a state that takes it -/

theorem stateAll_not_boot (s : State) (h : stateAll s = true) : s.dev.dvState ≠ .dormantEntry ∧ inBoot s = false := by
  unfold stateAll at h
  unfold inBoot
  cases hd : s.dev.dvState <;> simp_all

theorem receivePacket_accepts (p : Packet) (s : State) (h1 : busServes s = true) (h2 : stateAll s = true)
    (h3 : s.db.coreHalted = false) (h4 : s.cm.inFlight.getLsbD (tagOf p.ctrl) = false) (hl : p.len ≤ 512) :
    receivePacket p s = match opSequenced p.opcode with
      | none => pushReply (finalReply p stUnknown 0 []) (heard p s)
      | some seq =>
        if !fieldsOk p p.len seq then pushReply (finalReply p stBadParam 0 []) (heard p s)
        else if seq then judgeSequenced p (heard p s) else runUnsequenced p (heard p s) := by
  have hn := stateAll_not_boot s h2
  have hd : (heard p s).dev = s.dev := by rw [show (heard p s).dev = (touchBus s).dev from rfl, touchBus_dev]
  have hb : inBoot (heard p s) = false := by unfold inBoot at *; rw [hd]; exact hn.2
  have ht : tagBusy p (touchBus s) = false := by unfold tagBusy; rw [touchBus_cm]; exact h4
  unfold receivePacket receive judge
  rw [h1, h3, ht]
  simp only [Bool.not_true, Bool.false_eq_true, if_false, Nat.not_lt.2 hl]
  unfold judgeWhole
  rw [show takeTag p (touchBus s) = heard p s from rfl]
  cases opSequenced p.opcode with
  | none => rfl
  | some seq => simp [hd, hn.1, hb]

/-- An unsequenced packet: executed where its length is one of the opcode's, else BAD_PARAM (checks 5 and 7, R297). -/
theorem receivePacket_plain {op : Byte} {tag : BitVec 3} {params : List Byte} {s : State} (h : Accepts tag s)
    (ho : opSequenced op = some false) (hl : params.length ≤ 512) :
    receivePacket (plainPacket op tag params) s
      = runUnsequenced (plainPacket op tag params) (heard (plainPacket op tag params) s) := by
  rw [receivePacket_accepts _ s h.1 h.2.1 h.2.2.1 (by rw [show (plainPacket op tag params).ctrl = tag.setWidth 8 from rfl, tagOf_plain]; exact h.2.2.2)
    (by rw [len_plain]; exact hl)]
  rw [show (plainPacket op tag params).opcode = op from rfl, ho]
  simp [fieldsOk_plain]

theorem runUnsequenced_plain {op : Byte} {tag : BitVec 3} {params : List Byte} (s : State) (hA : op ≠ 0xA0)
    (hk : lengthOk op params.length = true) :
    runUnsequenced (plainPacket op tag params) s = pushReply
      (finalReply (plainPacket op tag params) (execPlain op params s).1 0 (execPlain op params s).2.1)
      (execPlain op params s).2.2 := by
  unfold runUnsequenced
  rw [show (plainPacket op tag params).opcode = op from rfl, show (plainPacket op tag params).params = params from rfl, hk, if_neg hA]
  rfl

theorem runUnsequenced_badParam {op : Byte} {tag : BitVec 3} {params : List Byte} (s : State)
    (hk : lengthOk op params.length = false) :
    runUnsequenced (plainPacket op tag params) s = pushReply (finalReply (plainPacket op tag params) stBadParam 0 []) s := by
  unfold runUnsequenced
  simp [plainPacket, hk]

/-! ## Execution in CSN order (R288) -/

theorem drain_none (n : Nat) (s : State) (h : s.nv.chains = []) : drain n s = s := by
  cases n with
  | zero => rfl
  | succ n => unfold drain; simp [headChain, h]

theorem settle_none (s : State) (h : s.nv.chains = []) : settle s = s := by unfold settle; simp [h]

/-- The store and the command layer of a packet that the block has heard. -/
theorem heard_chains (p : Packet) (s : State) : (heard p s).nv.chains = s.nv.chains := (touchBus_store s).chains

theorem heard_lastE (p : Packet) (s : State) : (heard p s).nv.lastE = s.nv.lastE := (touchBus_store s).lastE

theorem heard_takes (p : Packet) {s : State} (h : StoreTakes s) : StoreTakes (heard p s) := (touchBus_store s).takes h

theorem heard_outcomes (p : Packet) (s : State) : (heard p s).nv.outcomes = s.nv.outcomes := (touchBus_store s).outcomes

/-! ## The ACCEPT chain (R287) -/

/-- While the store takes what is written, an entry goes to its place in the ring. -/
theorem writeEntry_sound (c : Chain) (part : Nat) {s : State} (h : StoreTakes s) :
    writeEntry c part s = { s with nv := { s.nv with
      ring := putEntry { place := s.nv.ringPos, part := part, chain := c } s.nv.ring, ringPos := nextPlace s.nv.ringPos } } := by
  have hb : nvBothOut s = false := h.2
  unfold writeEntry
  rw [mirror_sound h.1]
  simp only [hb]
  rfl

theorem writeEntries_sound (c : Chain) (l : List Nat) (s : State) (h : StoreTakes s) :
    let t := l.foldl (fun s k => writeEntry c k s) s
    t = { s with nv := { s.nv with ring := t.nv.ring, ringPos := t.nv.ringPos } } := by
  induction l generalizing s with
  | nil => rfl
  | cons k r ih =>
    have ht : StoreTakes (writeEntry c k s) := by rw [writeEntry_sound c k h]; exact h
    have := ih (writeEntry c k s) ht
    dsimp only at this ⊢
    rw [List.foldl_cons, this, writeEntry_sound c k h]

/-- While the store takes what is written, the chain of a packet changes the ring alone. -/
theorem writeChain_sound (c : Chain) {s : State} (h : StoreTakes s) :
    writeChain c s = { s with nv := { s.nv with ring := (writeChain c s).nv.ring, ringPos := (writeChain c s).nv.ringPos } } :=
  writeEntries_sound c c.order s h

/-- A packet accepted in a store that takes its chain. -/
theorem accept_sound (p : Packet) {s : State} (h : StoreTakes s) :
    ∃ ring pos, accept p s = pushReply (acceptedReply p)
      { s with
        nv := { s.nv with ring := ring, ringPos := pos, chains := s.nv.chains ++ [p.chain] },
        cm := { s.cm with accepted := inc16 s.cm.accepted, waits := s.cm.waits ++ [(p.csn, 0)] } } := by
  refine ⟨(writeChain p.chain s).nv.ring, (writeChain p.chain s).nv.ringPos, ?_⟩
  have hb : nvBothOut s = false := h.2
  unfold accept
  rw [writeChain_sound p.chain h]
  have : nvBothOut { s with nv := { s.nv with
      ring := (writeChain p.chain s).nv.ring, ringPos := (writeChain p.chain s).nv.ringPos } } = false := hb
  simp only [this]
  rfl

/-- A sequenced packet in order is accepted and, with nothing before it, executed at once. -/
theorem receivePacket_seq {op : Byte} {tag : BitVec 3} {csn : Word} {params : List Byte} {s : State} (h : Accepts tag s)
    (hi : InOrder csn s) (ho : opSequenced op = some true) (hl : params.length ≤ 508) :
    let p := seqPacket op tag csn params
    receivePacket p s = drain 8 (runChain p.chain (accept p (heard p s))) := by
  dsimp only
  obtain ⟨hc, hr, he, hn⟩ := hi
  have h0 : csn ≠ 0 := he ▸ seqNext_ne_zero _
  generalize hp : seqPacket op tag csn params = p
  have pcsn : p.csn = csn := hp ▸ rfl
  have pctrl : p.ctrl = tag.setWidth 8 ||| 0x08 := hp ▸ rfl
  have pop : p.opcode = op := hp ▸ rfl
  rw [receivePacket_accepts p s h.1 h.2.1 h.2.2.1 (by rw [pctrl, tagOf_seq]; exact h.2.2.2)
    (by rw [← hp, len_seq]; omega), pop, ho]
  have hf : fieldsOk p p.len true = true := by
    rw [← hp]; exact fieldsOk_seq op tag csn params _ h0 (by rw [len_seq]; omega)
  simp only [hf, Bool.not_true, Bool.false_eq_true, if_false, if_true]
  unfold judgeSequenced
  have g1 : chainOf p.csn (heard p s) = none := by unfold chainOf; rw [heard_chains, hc]; rfl
  have g2 : seqDist (heard p s).nv.lastE p.csn = 1 := by rw [heard_lastE, pcsn, he, seqDist_next]
  have g3 : ¬ seqDist p.csn (heard p s).nv.lastE ≤ 63 := by rw [heard_lastE, pcsn, he]; exact seqDist_next_back _
  have ht := heard_takes p hn
  have hb : nvBothOut (heard p s) = false := ht.2
  simp only [hb, g1, g2, g3]
  obtain ⟨ring, pos, hacc⟩ := accept_sound p ht
  have ha : (accept p (heard p s)).nv.chains = [p.chain] := by
    rw [hacc, pushReply_nv]
    show (heard p s).nv.chains ++ _ = _
    rw [heard_chains, hc]
    rfl
  have hE : (accept p (heard p s)).nv.lastE = s.nv.lastE := by
    rw [hacc, pushReply_nv]; exact heard_lastE p s
  have hhead : headChain (accept p (heard p s)) = some p.chain := by
    unfold headChain
    rw [ha, hE]
    simp [Packet.chain, pcsn, he]
  have hdev : (accept p (heard p s)).dev = s.dev := by
    rw [hacc, pushReply_dev]
    show (touchBus s).dev = s.dev
    rw [touchBus_dev]
  have hdb : (accept p (heard p s)).db = s.db := by
    rw [hacc, pushReply_db]
    show (touchBus s).db = s.db
    rw [touchBus_db]
  have hrun : (accept p (heard p s)).cm.running = none := by
    rw [hacc]
    unfold pushReply raiseCause
    dsimp only
    split <;> exact (by show (touchBus s).cm.running = none; rw [touchBus_cm]; exact hr)
  have hout : nvBothOut (accept p (heard p s)) = false := by
    have h2 := ht.2
    rw [hacc]
    unfold nvBothOut at h2 ⊢
    rw [pushReply_nv]
    exact h2
  have hfree : coreFree (accept p (heard p s)) = true := by
    have hl' : live s = true := by have := h.1; unfold busServes at this; simp_all
    unfold coreFree
    have a1 : live (accept p (heard p s)) = true := by unfold live at *; rw [hdev]; exact hl'
    have a2 : stateAll (accept p (heard p s)) = true := by
      have := h.2.1; unfold stateAll at *; rw [hdev]; exact this
    rw [a1, a2, hdb, hrun, h.2.2.1, hout]
    rfl
  simp only [Bool.false_eq_true, if_false, Option.isSome_none, decide_false, Bool.or_self, Nat.le_refl, true_and,
    show (1 : Nat) ≤ 8 by decide, if_true]
  unfold settle
  rw [ha]
  simp only [List.isEmpty_cons, Bool.false_eq_true, if_false]
  rw [show (9 : Nat) = 8 + 1 from rfl, drain]
  simp [hfree, hhead]

/-! ## The outcome of a command (R281, R288) -/

/-- While the store takes what is written, an outcome entry closes its chain and E advances. -/
theorem putOutcome_sound (o : OutcomeEntry) {s : State} (h : StoreTakes s) :
    putOutcome o s = { s with
      nv := { s.nv with outcomes := s.nv.outcomes.setIfInBounds (o.csn.toNat % 64) (some o), lastE := o.csn,
                        chains := s.nv.chains.filter (fun c => decide (c.csn ≠ o.csn)) }
      cm := { s.cm with waits := s.cm.waits.filter (fun w => decide (w.1 ≠ o.csn)) } } := by
  have hb : nvBothOut s = false := h.2
  unfold putOutcome
  rw [mirror_sound h.1]
  simp only [hb]
  rfl

theorem putOutcome_takes (o : OutcomeEntry) {s : State} (h : StoreTakes s) : StoreTakes (putOutcome o s) := by
  rw [putOutcome_sound o h]; exact h

/-- What an outcome whose entry the store took does beside: the event of a safety-affecting command, and the final reply. -/
theorem commitOutcome_sound (c : Chain) (status : Byte) (data : List Byte) {s : State} (h : StoreTakes s) :
    commitOutcome c status data s =
      let o := putOutcome (outcomeFor c status (data.take 16)) s
      let t := { o with cm := { o.cm with running := none } }
      pushReply (finalReply ⟨c.opcode, c.ctrl, c.csn, []⟩ status 0 (data.take 16))
        (if safetyOp c.opcode then
          raise 229 0x0D01 .notice (argOf [(0, c.csn.toNat), (4, c.opcode.toNat), (5, status.toNat)]) t
        else t) := by
  have hb : nvBothOut { putOutcome (outcomeFor c status (data.take 16)) s with
      cm := { (putOutcome (outcomeFor c status (data.take 16)) s).cm with running := none } } = false :=
    (putOutcome_takes _ h).2
  unfold commitOutcome
  simp only [hb]
  rfl

/-- The store under an outcome, up to what its event adds. -/
theorem commitOutcome_store (c : Chain) (status : Byte) (data : List Byte) {s : State} (h : StoreTakes s) :
    EventStore (putOutcome (outcomeFor c status (data.take 16)) s) (commitOutcome c status data s) := by
  rw [commitOutcome_sound c status data h]
  refine .trans ?_ (.of_nv (pushReply_nv _ _))
  split
  · exact .trans (.of_nv rfl) (raise_store _ _ _ _ _)
  · exact .of_nv rfl

theorem commitOutcome_running (c : Chain) (status : Byte) (data : List Byte) {s : State} (h : StoreTakes s) :
    (commitOutcome c status data s).cm.running = none := by
  rw [commitOutcome_sound c status data h]
  unfold pushReply raiseCause
  dsimp only
  split <;> split <;> (try rw [raise_cm]) <;> rfl

/-- A lone command's outcome leaves no chain, E at its CSN, its outcome in the slot, and its final reply the newest. -/
theorem commitOutcome_alone (c : Chain) (status : Byte) (data : List Byte) {s : State} (hs : StoreTakes s)
    (h : s.nv.chains = [c]) :
    (commitOutcome c status data s).nv.chains = [] ∧ (commitOutcome c status data s).nv.lastE = c.csn
      ∧ outcomeOf c.csn (commitOutcome c status data s) = some (outcomeFor c status (data.take 16)) := by
  have hc := commitOutcome_store c status data hs
  refine ⟨?_, ?_, ?_⟩
  · rw [hc.chains, putOutcome_sound _ hs]; simp [outcomeFor, h]
  · rw [hc.lastE, putOutcome_sound _ hs]; rfl
  · unfold outcomeOf
    rw [hc.outcomes, putOutcome_sound _ hs]
    have hm : c.csn.toNat % 64 < 64 := Nat.mod_lt _ (by decide)
    simp [outcomeFor, hm]

theorem commitOutcome_reply (c : Chain) (status : Byte) (data : List Byte) {s : State} (h : StoreTakes s) :
    (commitOutcome c status data s).cm.replies.getLast?
      = some (finalReply ⟨c.opcode, c.ctrl, c.csn, []⟩ status 0 (data.take 16)) := by
  rw [commitOutcome_sound c status data h]
  unfold pushReply raiseCause
  dsimp only
  split <;> split <;> simp

end Sys2Proof.Machine
end

