-- ==== Sys2Proof/Laws/Memory.lean ====
section
/-! SUPPORT. Memory: every operation keeps the canonical form, a read after a write gives what was written, and every other
address reads as before. -/

namespace Sys2Proof.Machine

/-- Every entry of a list lies above an address. -/
def Memory.above (a : Nat) (m : Memory) : Prop := ∀ c ∈ m, a < c.1

theorem Memory.wf_cons (c : Host.Cell) (m : Memory) :
    Memory.wf (c :: m) = true ↔ c.2 ≠ 0 ∧ Memory.above c.1 m ∧ Memory.wf m = true := by
  induction m generalizing c with
  | nil => simp [Memory.wf, Memory.above]
  | cons d r ih =>
    have h := ih d
    simp only [Memory.wf, Bool.and_eq_true, bne_iff_ne, ne_eq, decide_eq_true_eq, Memory.above, List.mem_cons,
      forall_eq_or_imp] at h ⊢
    constructor
    · rintro ⟨⟨hc, hlt⟩, hw⟩
      obtain ⟨hd, ha, hr⟩ := h.1 hw
      exact ⟨hc, ⟨hlt, fun x hx => lt_trans hlt (ha x hx)⟩, h.2 ⟨hd, ha, hr⟩⟩
    · rintro ⟨hc, ⟨hlt, _⟩, hw⟩
      exact ⟨⟨hc, hlt⟩, hw⟩

/-- An address below every entry reads 0. -/
theorem Memory.read_above (m : Memory) (a b : Nat) (h : Memory.above a m) (hb : b ≤ a) : Memory.read m b = 0 := by
  induction m with
  | nil => rfl
  | cons c r ih =>
    have hc := h c (by simp)
    rw [Memory.read, if_neg (by omega)]
    exact ih (fun x hx => h x (by simp [hx]))

/-- A write lists nothing but what was listed and its own address. -/
theorem Memory.above_write (m : Memory) (a k : Nat) (b : Byte) (h : Memory.above k m) (hk : k < a) :
    Memory.above k (Memory.write m a b) := by
  induction m with
  | nil => intro c hc; unfold Memory.write at hc; split at hc <;> simp_all
  | cons d r ih =>
    have hd := h d (by simp)
    have hr : Memory.above k r := fun x hx => h x (by simp [hx])
    intro c hc
    unfold Memory.write at hc
    split at hc
    · split at hc
      · exact h c hc
      · rcases List.mem_cons.1 hc with rfl | hc
        · exact hk
        · exact h c hc
    · split at hc
      · split at hc
        · exact hr c hc
        · rcases List.mem_cons.1 hc with rfl | hc
          · exact hk
          · exact hr c hc
      · rcases List.mem_cons.1 hc with rfl | hc
        · exact hd
        · exact ih hr c hc

/-- A write keeps the canonical form. -/
theorem Memory.wf_write (m : Memory) (a : Nat) (b : Byte) (h : Memory.wf m = true) :
    Memory.wf (Memory.write m a b) = true := by
  induction m with
  | nil => unfold Memory.write; split <;> simp_all [Memory.wf]
  | cons c r ih =>
    obtain ⟨hc, ha, hr⟩ := (Memory.wf_cons c r).1 h
    unfold Memory.write
    split
    · split
      · exact h
      · exact (Memory.wf_cons _ _).2 ⟨‹_›, by intro x hx; rcases List.mem_cons.1 hx with rfl | hx; assumption; exact lt_trans ‹_› (ha x hx), h⟩
    · split
      · split
        · exact hr
        · subst a; exact (Memory.wf_cons _ _).2 ⟨‹_›, ha, hr⟩
      · exact (Memory.wf_cons _ _).2 ⟨hc, Memory.above_write r a c.1 b ha (by omega), ih hr⟩

/-- What is read after a write in the canonical form. -/
theorem Memory.read_write (m : Memory) (a x : Nat) (b : Byte) (h : Memory.wf m = true) :
    Memory.read (Memory.write m a b) x = if x = a then b else Memory.read m x := by
  induction m with
  | nil =>
    unfold Memory.write
    split
    · subst b; simp [Memory.read]
    · simp only [Memory.read, eq_comm]
  | cons c r ih =>
    obtain ⟨_, ha, hr⟩ := (Memory.wf_cons c r).1 h
    unfold Memory.write
    split
    · have h0 : Memory.read (c :: r) a = 0 := by
        rw [Memory.read, if_neg (by omega)]; exact Memory.read_above r c.1 a ha (by omega)
      split
      · subst b; split
        · subst x; exact h0
        · rfl
      · rw [Memory.read]; simp only [eq_comm]
    · split
      · subst a
        split
        · subst b
          by_cases hx : x = c.1
          · subst x; simp only [if_pos]; exact Memory.read_above r c.1 c.1 ha (le_refl _)
          · rw [if_neg hx, Memory.read, if_neg (Ne.symm hx)]
        · by_cases hx : x = c.1
          · subst x; simp [Memory.read]
          · simp [Memory.read, hx, Ne.symm hx]
      · by_cases hx : c.1 = x
        · subst x; simp only [Memory.read, if_pos]; rw [if_neg (by omega)]
        · simp only [Memory.read, if_neg hx]; exact ih hr

/-- Bytes written keep the canonical form. -/
theorem Memory.wf_writeBytes (m : Memory) (a : Nat) (bs : List Byte) (h : Memory.wf m = true) :
    Memory.wf (Memory.writeBytes m a bs) = true := by
  induction bs generalizing m a with
  | nil => exact h
  | cons b r ih => exact ih _ _ (Memory.wf_write m a b h)

/-- What is read after bytes were written: those bytes where they stand, what was there before everywhere else. -/
theorem Memory.read_writeBytes (m : Memory) (a x : Nat) (bs : List Byte) (h : Memory.wf m = true) :
    Memory.read (Memory.writeBytes m a bs) x = if a ≤ x ∧ x < a + bs.length then byteAt bs (x - a) else Memory.read m x := by
  induction bs generalizing m a with
  | nil => simp only [Memory.writeBytes, List.length_nil]; rw [if_neg (by omega)]
  | cons b r ih =>
    rw [Memory.writeBytes, ih _ _ (Memory.wf_write m a b h), Memory.read_write m a x b h, List.length_cons]
    by_cases h1 : x = a
    · subst x; rw [if_neg (by omega), if_pos rfl, if_pos (by omega)]; simp [byteAt]
    · by_cases h2 : a + 1 ≤ x ∧ x < a + 1 + r.length
      · rw [if_pos h2, if_pos (by omega)]
        have : x - a = x - (a + 1) + 1 := by omega
        rw [this]; simp [byteAt]
      · rw [if_neg h2, if_neg h1, if_neg (by omega)]

/-- Bytes written to an empty memory read back. -/
theorem Memory.readBytes_writeBytes (bs : List Byte) : Memory.readBytes (Memory.writeBytes [] 0 bs) 0 bs.length = bs := by
  apply List.ext_getElem
  · simp [Memory.readBytes]
  · intro i h1 h2
    simp [Memory.readBytes, Memory.read_writeBytes [] 0 i bs rfl, h2, byteAt]

end Sys2Proof.Machine
end

