-- ==== Sys2Proof/Tests/Slice0.lean ====
section
/-! SUPPORT. Tests: the checks of well-formed commands, the states that meet the statements' hypotheses, and small examples from
the spec's own tables. -/

set_option maxRecDepth 20000
set_option Elab.async false

namespace Sys2Proof.Tests
open Sys2Proof.Machine

/-! ## States -/

/-- Firmware runs in a device state. -/
def devIn (d : DvState) : Dev := { Dev.new with phase := .running, dvState := d, faultN := true }

/-- Firmware runs in a device state, with a bus address. -/
def at' (d : DvState) : State := { State.reset with dev := devIn d, hb := { HostBus.new with base := 0x40 } }

/-- In STOP. -/
def idle : State := at' .stop

/-- In a phase without firmware. -/
def inPhase (p : Phase) : State := { State.reset with dev := { Dev.new with phase := p } }

/-- An accepted command with CSN 1 that waits at the front. -/
def chain1 : Chain := { csn := 1, opcode := 0x91, ctrl := 8, params := [], crc := 0 }

/-- DORMANT_ENTRY, its outcome still to come. -/
def sleeping : State :=
  { at' .dormantEntry with
    cm := { Cmd.new with running := some .dormant }, nv := { Nv.new with chains := [chain1] } }

/-- 1,024 raw bits that pass both health tests. -/
def rawBits : List Bool := (List.range 1024).map (fun n => n % 2 == 0)

/-- A boot in which every test passes. -/
def goodBoot : BootInputs :=
  { addr := 0, testmode := false, romOk := true, sramOk := true, monTest1 := true, monTest2 := true, romHash := 0,
    sramAddr := 0, nvaOk := true, nvbOk := true, nvaAddr := 0, nvbAddr := 0, aorfNoise := 0, entropyRaw := rawBits,
    retestRaw := rawBits, wakeHigh := false, cfgCrcOk := true, idents := [], bootUs := 1000, badCopies := [] }

/-- Fuse row 0 with a check field that does not match. -/
def badFuses : State := { State.reset with fu := { Fuses.new with rows := Fuses.new.rows.set 0 ⟨1, 3⟩ } }

/-- A reset asserted with the LOCKOUT latch set. -/
def latched : State := { State.reset with aorf := Aorf.seal { Aorf.new with lockout := true } }

/-! ## An image with one AND block -/

/-- Block parameters. -/
def parms : BlockParams :=
  { channels := 2, lchannels := 1, tDisc := 500, autoStart := true, stest := false, principle := false, tRundown := 0,
    tLock := 100, tSync := 500, tAnti := 50, hold := false, tBtest := 100, btInt := 1, btEnf := false, tEdm := 100,
    tMin := 100, tMax := 3000, pwrUp := .auto, reqSrc := 2, tSel := 100, reqEdge := false, conn := 0, rrest := false,
    pt := 100, n := 0, code := 0, cls := 0, edge := 0, isWord := false, dflt := 0, brakePort := 0, brakeIx := 0 }

/-- Eight signals of a class. -/
def sigs : List Signal := (List.range 12).map (fun n => { cls := .bool, sig := BitVec.ofNat 32 (7919 * n + 11), isState := false })

/-- A block whose inputs are the signals from 0 and whose outputs are the signals from 6. -/
def blockOf (t : BlockType) (ins outs : Nat) (p : BlockParams) : Block :=
  { type := t, ins := (List.range ins).map some, outs := (List.range outs).map (fun n => some (6 + n)), states := [], params := p }

/-- An image with one block. -/
def imageOf (b : Block) : Image :=
  { Config.bareImage with
    signals := sigs, blocks := [b], order := [0], resultCount := b.outs.length,
    resultCrc := destCrc ((List.range b.outs.length).map (fun n => 6 + n)),
    inputs := (List.range b.ins.length).map (fun n => { port := 0, ix := Fin.ofNat 16 n, sig := n }),
    producers := [some { dest := 5, tPi := 4, onChange := false }],
    consumers := [some { src := 9, tWd := 100, ageMax := 0, modeConn := false }] }

/-- RUN of an image with one block in a given state. -/
def running (b : Block) (st : BlockSt) : State :=
  { at' .run with en := { Engine.new with image := some (imageOf b), scanning := true, blocks := [st],
                                          words := sigs.map (fun g => encodeWord 0 g.sig 1), lfsr := 1 } }

/-- The AND block. -/
def andBlock : Block := blockOf .and 2 1 parms

/-- RUN of the AND block. -/
def inRun : State := running andBlock { BlockSt.fresh andBlock with first := false }

/-! ## Time base and temperature -/

/-- STOP with a time base. -/
def timed (tb : TimeBase) : State := { idle with tb := tb }

/-- LOCKED_PPS for ten minutes. -/
def onPps : State :=
  timed { TimeBase.new with quality := .lockedPps, ppsValid := true, ppsLocked := true, ppsStarted := true, lockSecs := 600 }

/-- LOCKED_IRIG for less than ten minutes, IRIG selected. -/
def onIrig : State :=
  { timed { TimeBase.new with quality := .lockedIrig, irigValid := true, irigLocked := true, lockSecs := 599 } with
    set := { Settings.compiler with src := 2 } }

/-- HOLDOVER. -/
def inHoldover : State := timed { TimeBase.new with quality := .holdover, lockSecs := 0 }

/-- A leap second pending, in a quality. -/
def leaping (q : Quality) : State := timed { TimeBase.new with quality := q, leapPending := true }

/-- An IRIG-B frame whose fields agree. -/
def goodIrig : IrigFrame :=
  { fmt := 0, positionOk := true, bcdOk := true, second := 59, minute := 1, hour := 2, day := 3, bcdYear := 26, sbs := 7319,
    cfYear := none, leapPending := false, leapDelete := false, offsetHalfHours := 0 }

/-- The die at 125 °C. -/
def hot : State := { idle with dev := { devIn .stop with tempHigh := true } }

/-! ## Commands -/

/-- The entropy source healthy with two words. -/
def withPool (s : State) : State := { s with ent := { Entropy.new with state := .healthy, pool := [0x1122334455667788, 7] } }

/-- 64 frames wait in the inbound queue. -/
def inqFull : State := { idle with sf := { Sfl.new with inq := List.replicate 64 (List.replicate 32 0) } }

/-- Three frames wait in the outbound queue. -/
def outq3 : State := { idle with sf := { Sfl.new with outq := [List.replicate 32 1, List.replicate 32 2, List.replicate 32 3] } }

/-- A released snapshot is newer than the readable one. -/
def snapped : State := { idle with en := { Engine.new with hold := true, snapNew := some ⟨5, [1, 2]⟩ } }

/-- Bank B is being staged. -/
def staging : State :=
  { idle with nv := { Nv.new with bankB := { Bank.blank with state := .staging, length := 16, body := [(3, 1), (9, 2)] } } }

/-- A staged body that reads as the empty image, and a ROM that knows its format and ABI. -/
def bareBank : Bank :=
  { Bank.blank with state := .staging, length := 64, body := Memory.writeBytes [] 0 Config.bareBody.toList }

/-- The fuses and ROM of a controller that supports the bare body's format and ABI level. -/
def bareFuses : Fuses :=
  let pre := Config.preamble Config.bareBody.toList
  { Fuses.new with safecfg := 0x00080000, rom := { Rom.new with
      formats := [pre.1], abis := [pre.2.1],
      tested := [{ level := 0xFF, plainRom := true, abi := pre.2.1, fmtMin := pre.1, fmtMax := pre.1, compMin := 0,
                   compMax := 0xFFFFFFFF, portRevs := 1, patchMin := 1, patchMax := 0 }] } }

/-- The bare body staged. -/
def bareStaged : State := { idle with fu := bareFuses, nv := { Nv.new with bankB := bareBank } }

/-- The bare body committed. -/
def bareCommitted : State :=
  { idle with fu := bareFuses, nv := { Nv.new with bankB := bareBank.complete 1 (crc32 Config.bareBody.toList) } }

/-- STOP with an image. -/
def loaded : State := { idle with en := { Engine.new with image := some (imageOf andBlock) } }

/-- FAULT after a passed re-verification. -/
def verified : State := { at' .fault with en := { Engine.new with reverifyOk := true } }

/-- RUN of an image with a mode selector, its positions as the bits of the previous scan say. -/
def selecting (prev : List Nat) (m : ModeSt) : State :=
  let b := blockOf .modesel 4 5 { parms with reqSrc := 3 }
  let s := running b { BlockSt.fresh b with first := false, prev := prev }
  { s with en := { s.en with mode := m } }

/-- Acknowledged up to 2 of 5 records. -/
def acked2 : State := { idle with nv := { Nv.new with head := 5, live := { Params.new with ack := 2 } } }

/-- Link 0 is up, its port's outputs and input 1 enabled. -/
def upLink0 : State :=
  let im := { imageOf andBlock with
    portWords := Vector.replicate 8 (((List.replicate 127 0).set 0x40 1).set 0 9) }
  { idle with en := { Engine.new with image := some im }, links := (Vector.replicate 8 Link.new).set 0 { Link.new with phase := 6, held := false } }

/-- A jam waits for RESUME. -/
def jammed : State := { idle with wp := { Printer.new with gated := true, jamWait := true, blanks := 2 } }

/-- Eight text lines wait. -/
def texts8 : State := { idle with nv := { Nv.new with live := { Params.new with text := List.replicate 8 ⟨900, [65], 0⟩ } } }

/-- A patch transfer of 344 bytes under way. -/
def patching : State := { idle with fu := { Fuses.new with xfer := some (344, [(3, 1)], 8) } }

/-- Command 7 has been executed and stored. -/
def executed : State :=
  let p := seqPacket 0x20 3 7 []
  let o : OutcomeEntry := outcomeEntry p stOk [1, 2]
  { idle with nv := { Nv.new with lastE := 9, outcomes := (Vector.replicate 64 none).set 7 (some o) } }

/-- CSN 4 waits, 2 and 3 are missing. -/
def gapped : State := { idle with nv := { Nv.new with lastE := 1, chains := [{ chain1 with csn := 4 }] } }

/-- The core is halted in STOP. -/
def halted : State := { at' .debugHalt with db := { Debug.new with coreHalted := true }, dev := { devIn .debugHalt with heldState := .stop } }

/-- Two replies wait. -/
def replies2 : State :=
  { idle with cm := { Cmd.new with
      inFlight := 8, replies := [finalReply (plainPacket 1 3 []) stOk 0 [1, 2], acceptedReply (seqPacket 0x20 2 1 [])] } }

/-- Attention due, with a cause to tell. -/
def calling : State :=
  { idle with set := { Settings.compiler with attnEn := 0xFF, silence := 50 }, en := { Engine.new with image := some { Config.bareImage with hostAddr := 0x10 } },
              hb := { HostBus.new with base := 0x40, causes := 1, attnDue := true, silenceOn := true } }

/-- Three records held. -/
def records3 : State :=
  let r (n : Nat) : Record := { seq := BitVec.ofNat 32 n, time := 0, quality := 0, cls := 2, source := 1, code := 2, arg := 3, flags := 0 }
  { idle with nv := { Nv.new with records := [r 1, r 2, r 3], head := 3 } }

/-! ## The engine -/

/-- An event that waits in the writer's queue. -/
def event1 : QEvent := { time := 1, quality := 0, cls := 2, source := 226, code := 0x0909, arg := 5, enabled := true }

/-- Two events wait. -/
def queued2 : State := { idle with jr := { Journal.new with queue := [event1, { event1 with arg := 6 }] } }

/-- A gap that may end. -/
def gapEnding : State :=
  { idle with jr := { Journal.new with full75 := true }, nv := { Nv.new with live := { Params.new with gap := { Gap.none with active := true, warning := 3 } } } }

/-- Everything the hardware settles in a scan that passes. -/
def goodScan : ScanEnv :=
  { released := true, phase4Done := true, canaryRejected := true, coderOk := true, operatorOk := true, misorder := none, flips := [],
    execUs := 100 }

/-- RUN within the window of a counted failure. -/
def windowed (s : State) : State := { s with nv := { s.nv with live := { s.nv.live with failAge := some 10 } } }

/-- FAULT while the image is verified again. -/
def reverifying : State := { at' .fault with en := { Engine.new with reverify := true } }

/-! ## Connections and links -/

/-- A frame that producer 0 has due. -/
def frame0 : SflFrame :=
  { dest := 0, src := 9, cid := 77, seq := 5, isNew := false, rr := false, ts := false, stamp := 0, bits := 3, w0 := 0, w1 := 0 }

/-- RUN with a word in the pool. -/
def runPool : State := withPool inRun

/-- Producer 0 has a frame due, with n frames waiting. -/
def dueFrame (n : Nat) : State :=
  { inRun with sf := { Sfl.new with
      prods := (Vector.replicate 32 ProdSt.new).set 0 { ProdSt.new with running := true, due := some frame0 },
      outq := List.replicate n (List.replicate 32 1) } }

/-- STOP with an image, one frame for connection 0 waiting. -/
def oneFrame : State := { loaded with sf := { Sfl.new with inq := [frame0.bytes loaded.fu.site] } }

/-- Connection 0 is VALID. -/
def connValid : State :=
  { loaded with sf := { Sfl.new with conss := (Vector.replicate 32 ConsSt.new).set 0 { ConsSt.new with state := .valid, last := 4 } } }

/-- Link 0 in a phase. -/
def linkIn (n : Nat) : State :=
  { loaded with
    links := (Vector.replicate 8 Link.new).set 0 { Link.new with phase := n, held := false, badRun := 2, echoLast := 9 },
    fu := { Fuses.new with safecfg := 0x00080000 } }

/-- Port 1 has reported a foreign voltage on its source 3. -/
def foreign : State := { idle with short := { ShortSt.new with foreign := [(1, 3, 500)] } }

/-! ## Ports -/

/-- Parameter words: input 0 on source 1 with pulses of 100 µs, Q1 and BR1 enabled with their OFF-tests. -/
def portWords0 : List Half :=
  ((((((List.replicate 128 0).set 0 9).set 0x10 3).set 0x21 100).set 0x40 3).set 0x4A 3).set 0x52 80

/-- Port 0 seeded, in a RUN, with an input of source 1. -/
def seededPort : PortSt :=
  { PortSt.new 0 with
    phase := .seeded, words := portWords0, seed := 5, gotRun := true, scanX := 7, framePhase := some 0, ctExpired := false,
    sources := (Vector.replicate 8 SourceSt.new).set 0 { SourceSt.new with on := true },
    inputs := Vector.replicate 16 { InputSt.new with settling := false },
    chans := Vector.replicate 6 { ChanSt.new with onPassed := true } }

/-- STOP with a given port 0. -/
def withPort (p : PortSt) : State := { idle with ports := idle.ports.set 0 p }

/-- A port in phase IDENT. -/
def identPort : PortSt := { PortSt.new 0 with phase := .ident }

/-- A channel changed on the seeded port. -/
def chanPort (c : Fin 6) (x : ChanSt) : PortSt := { seededPort with chans := seededPort.chans.set c.val x }

/-- Input 0 changed on the seeded port. -/
def inputPort (x : InputSt) : PortSt := { seededPort with inputs := seededPort.inputs.set 0 x }

/-- Source 0 changed on the seeded port. -/
def sourcePort (x : SourceSt) : PortSt := { seededPort with sources := seededPort.sources.set 0 x }

/-! ## Strip and marionette port -/

/-- A strip that prints: a line under way with its glyphs rendered. -/
def lineUnderWay : State :=
  { idle with
    set := { Settings.compiler with printEnable := true },
    wp := { Printer.new with line := some .resume, chars := List.replicate 32 0x41, rendered := true, motorOn := true, dotLine := 3, softSteps := 0 } }

/-- The probe has a challenge and a locked port. -/
def locked : State := { idle with fu := { Fuses.new with safecfg := 2 }, db := { Debug.new with challenge := some 0x0102030405060708 } }

/-- RUN was left for a core halt. -/
def haltedRun : State := { halted with dev := { devIn .debugHalt with heldState := .run } }

/-- The engine's debug mode in STOP. -/
def dry : State := { loaded with en := { loaded.en with debug := true, words := sigs.map (fun g => encodeWord 0 g.sig Config.testD0) } }

/-- A breakpoint at 0x100 is armed, and watchpoint 0 for writes. -/
def armedBreak : State :=
  { idle with db := { Debug.new with bps := (Vector.replicate 8 0).set 0 0x101, wpCtrl := (Vector.replicate 4 0).set 0 3 } }

/-! ## Well-formed commands: an ill-formed term for each check, which the check refuses -/

theorem test_wf_clockWhy : (Instr.clockWindowTrip 0 .none).wellFormed = false := by decide
theorem test_wf_bootIdents : (Instr.boot { goodBoot with idents := List.replicate 9 none }).wellFormed = false := by decide
theorem test_wf_irig : (Instr.irigFrame { goodIrig with day := 367 } 0).wellFormed = false := by decide
theorem test_wf_plain : (Instr.ping 0 (List.replicate 513 0)).wellFormed = false := by decide +kernel
theorem test_wf_seq : (Instr.run 0 1 (List.replicate 509 0)).wellFormed = false := by decide +kernel
theorem test_wf_patch : (Instr.patchInstallData 0 1 0 []).wellFormed = false := by decide
theorem test_wf_tear : (Instr.powerOn (.accept (List.replicate 519 0) 0 0)).wellFormed = false
    ∧ (Instr.brownOut (.accept [] 27 0)).wellFormed = false := by decide +kernel
theorem test_wf_scan : (Instr.scan { goodScan with misorder := some [1024] }).wellFormed = false
    ∧ (Instr.scan { goodScan with flips := [(4096, 1)] }).wellFormed = false := by decide
theorem test_wf_raw : (Instr.entropyWordReady []).wellFormed = false ∧ (Instr.entropyHealthFail (List.replicate 513 true)).wellFormed = false
    ∧ (Instr.entropyStartupTestDone [true]).wellFormed = false := by decide +kernel
theorem test_wf_block : (Instr.tonElapsed 1024).wellFormed = false := by decide
theorem test_wf_samples : (Instr.inputEdge 0 0 [] 0 0).wellFormed = false := by decide
theorem test_wf_dark : (Instr.darkPulseEnd 0 0 []).wellFormed = false ∧ (Instr.darkPulseEnd 0 0 [⟨0, []⟩]).wellFormed = false
    ∧ (Instr.darkPulseStart 0 0 []).wellFormed = false := by decide
theorem test_wf_gated : (Instr.printerGated 0).wellFormed = false := by decide
theorem test_wf_good : (Instr.clockWindowTrip 1 .none).wellFormed = true ∧ (Instr.boot goodBoot).wellFormed = true
    ∧ (Instr.irigFrame goodIrig 0).wellFormed = true ∧ (Instr.ping 0 [1]).wellFormed = true := by decide +kernel

/-! ## Witnesses: states and operands that meet the hypotheses of each statement, clause by clause -/

theorem accepts_idle : Accepts 3 idle := by unfold Accepts; decide
theorem takes_idle : StoreTakes idle := by unfold StoreTakes; decide
theorem inOrder_idle : InOrder 1 idle := by unfold InOrder StoreTakes; decide
theorem open_idle : JournalOpen idle := by unfold JournalOpen; decide

theorem witness_IdleTick : (idle.pending = [] ∧ live idle = true ∧ idle.tb.rate = 0 ∧ idle.tb.acc < 1000000000)
    ∧ (let s : State := { State.reset with dev := { Dev.new with cause := 3 }, tb := { TimeBase.new with quality := .holdover } }
      s.pending = [] ∧ live s = false ∧ counterRuns s = true ∧ s.tb.quality = .holdover)
    ∧ (State.reset.pending = [] ∧ live State.reset = false ∧ counterRuns State.reset = false) := by decide

/-- The hypotheses about a step that is taken: at reset, with an empty queue, nothing moves. -/
theorem witness_step : step State.reset = .next State.reset := rfl

theorem witness_Inv : Inv State.reset := by
  refine ⟨by decide +kernel, by decide, by decide, ?_⟩
  unfold QueuesFit; decide

theorem witness_StepKeepsInv : ∃ t, Inv State.reset ∧ step State.reset = .next t := ⟨_, witness_Inv, witness_step⟩

theorem witness_SafeOkInRun : (∃ t, PinsTell State.reset ∧ step State.reset = .next t) ∧ live idle = true :=
  ⟨⟨_, by unfold PinsTell; decide, witness_step⟩, by decide⟩

theorem witness_DutyLimit : (∃ t, DutyFits State.reset.wp ∧ step State.reset = .next t) ∧ live lineUnderWay = true :=
  ⟨⟨_, by unfold DutyFits; exact ⟨by decide, fun i => by simp [State.reset, Printer.new]⟩, witness_step⟩, by decide⟩

theorem witness_PortsApart : portRow .pin = false ∧ ∃ t, exec .pin State.reset = .next t := ⟨by decide, _, rfl⟩

theorem witness_FusesStay : ∃ t, step State.reset = .next t := ⟨_, witness_step⟩

theorem witness_ResetAsserted : idle.dev.phase = .running ∧ idle.db.coreHalted = false ∧ (inPhase .dormant).dev.phase = .dormant
    ∧ State.reset.dev.phase.asserted = true ∧ (inPhase (.blink 1)).dev.phase.asserted = true
    ∧ (inPhase .clockHeld).dev.phase.asserted = true ∧ cutsCommand .afterNva = false := by decide

theorem witness_ResetSurvival : Instr.powerOn .afterNva ∈ [Instr.powerOn .afterNva, .brownOut .afterNva, .pin]
    ∧ Instr.pin ∈ [Instr.powerOn .none, .brownOut .none, .pin] ∧ cutsCommand .afterNva = false := by simp [cutsCommand]

theorem witness_HostWords : cutsCommand .none = false ∧ idle.dev.phase = .running ∧ idle.nv.chains = [] ∧ (inPhase .dormant).dev.phase = .dormant
    ∧ (inPhase .dormant).nv.chains = [] := by decide

theorem witness_ReleaseBlinkDormant : (inPhase .clockHeld).dev.phase = .clockHeld ∧ (inPhase (.blink 1)).dev.phase = .blink 1
    ∧ sleeping.cm.running = some .dormant ∧ headChain sleeping = some chain1 ∧ sleeping.dev.dvState = .dormantEntry
    ∧ sleeping.nv.worn = [] ∧ nvBothOut sleeping = false := by decide

theorem witness_Boot : State.reset.dev.phase = .inReset ∧ ({ goodBoot with testmode := true } : BootInputs).testmode = true
    ∧ goodBoot.testmode = false ∧ blinkCode badFuses.fu.sensed = some 1 ∧ badFuses.dev.phase = .inReset
    ∧ blinkCode State.reset.fu.sensed = none ∧ State.reset.nv.chains = [] ∧ State.reset.aorf.lockout = false
    ∧ goodBoot.aorfNoise = 0 ∧ bootTest goodBoot = none ∧ goodBoot.nvaOk = true ∧ goodBoot.nvbOk = true ∧ goodBoot.wakeHigh = false
    ∧ State.reset.nv.stored.hasActive = false ∧ State.reset.nv.stored.nvaOut = false ∧ State.reset.nv.stored.nvbOut = false
    ∧ (bootTest { goodBoot with sramOk := false, sramAddr := 7 }).isSome = true ∧ State.reset.nv.worn = []
    ∧ latched.aorf.lockout = true ∧ latched.dev.phase = .inReset := by decide +kernel

theorem witness_TimeSources : (live idle = true ∧ idle.nv.chains = [] ∧ idle.tb.ppsStarted = false)
    ∧ ((true = !idle.set.ppsEdge) ∧ 24 ≤ 24) ∧ ¬ ((false = !idle.set.ppsEdge) ∧ 24 ≤ 24) ∧ ¬ ((true = !idle.set.ppsEdge) ∧ 24 ≤ 23)
    ∧ 23976000 ≤ 23976000 ∧ 24024000 ≤ 24024000 ∧ 23975999 < 23976000 ∧ 24024000 < 24024001 ∧ selects onPps 1 = true
    ∧ (onPps.tb.ppsStarted = true ∧ onPps.tb.ppsMissed = false ∧ live onPps = true ∧ onPps.nv.chains = [])
    ∧ (onPps.tb.ppsValid = true ∧ onPps.tb.quality = .lockedPps) ∧ (onIrig.tb.irigValid = true ∧ onIrig.tb.quality = .lockedIrig
      ∧ onIrig.set.src = 2 ∧ live onIrig = true ∧ onIrig.nv.chains = []) ∧ idle.tb.ppsValid = false ∧ idle.tb.irigValid = false
    ∧ inHoldover.tb.quality = .holdover ∧ live inHoldover = true ∧ inHoldover.nv.chains = [] ∧ idle.tb.quality ≠ .holdover
    ∧ (let s : State := { timed { onIrig.tb with ppsLocked := true, timeSetValid := true } with set := { Settings.compiler with src := 3 } }
      s.tb.irigValid = true ∧ s.tb.quality = .lockedIrig ∧ s.set.src = 3 ∧ s.tb.ppsLocked = true ∧ s.tb.timeSetValid = true
        ∧ s.tb.drift = false ∧ live s = true ∧ s.nv.chains = []) := by decide

theorem witness_TimeSources_open : JournalOpen onPps ∧ JournalOpen inHoldover := by unfold JournalOpen; decide

theorem witness_IrigLeapTsync : irigFieldsOk goodIrig = true ∧ goodIrig.second < 60 ∧ idle.tb.irigLast = none ∧ live idle = true
    ∧ idle.nv.chains = [] ∧ ({ goodIrig with positionOk := false } : IrigFrame).positionOk = false
    ∧ ((leaping .lockedPps).tb.leapPending = true ∧ (leaping .lockedPps).tb.quality ≠ .unsync ∧ live (leaping .lockedPps) = true
      ∧ (leaping .lockedPps).nv.chains = [])
    ∧ ((leaping .unsync).tb.leapPending = true ∧ (leaping .unsync).tb.quality = .unsync ∧ live (leaping .unsync) = true
      ∧ (leaping .unsync).nv.chains = []) := by decide

theorem witness_Temperature : live idle = true ∧ idle.nv.chains = [] ∧ idle.dev.tempHigh = false ∧ idle.dev.overTemp = false
    ∧ stateRunStop idle = true ∧ idle.jr.queue.length < 63 ∧ stateRunStop hot = true
    ∧ (let s : State := { at' .fault with dev := { devIn .fault with tempHigh := true } }
      stateRunStop s = false ∧ s.dev.overTemp = false ∧ s.dev.tempHigh = true ∧ live s = true ∧ s.nv.chains = [])
    ∧ 204 ≤ (204 : Byte).toNat ∧ (203 : Byte).toNat < 204 ∧ 189 ≤ (189 : Byte).toNat ∧ (183 : Byte).toNat < 184 ∧ hot.dev.tempHigh = true ∧ evEnabled hot 238 = true ∧ live hot = true ∧ hot.nv.chains = [] := by
  decide

theorem witness_Temperature_open : JournalOpen hot := by unfold JournalOpen; decide

/-! ### Commands -/

theorem witness_PlainReads : Accepts 3 idle ∧ ([] : List Byte).length ≤ 32 ∧ (List.replicate 32 (7 : Byte)).length ≤ 32 :=
  ⟨accepts_idle, by decide, by decide⟩

theorem witness_SelectedReads : Accepts 3 idle ∧ readLocked idle.fu (rowRegion 0) = false ∧ (31 : Byte).toNat < 32
    ∧ (let s : State := { idle with fu := { Fuses.new with rows := Fuses.new.rows.set 18 ⟨0x7000000, 0⟩ } }
      busServes s = true ∧ stateAll s = true ∧ s.db.coreHalted = false ∧ s.cm.inFlight = 0
        ∧ readLocked s.fu (rowRegion 0) = true) := ⟨accepts_idle, by decide +kernel⟩

theorem witness_RegisterReads : Accepts 3 idle
    ∧ (1 ≤ (64 : Byte).toNat ∧ (64 : Byte).toNat ≤ 64 ∧ (192 : Byte).toNat + (64 : Byte).toNat ≤ 256)
    ∧ (let rep : Bool := (1 : Byte).getLsbD 0; rep = true ∧ 256 < (0xFF : Byte).toNat + (2 : Byte).toNat)
    ∧ 64 < (65 : Byte).toNat ∧ ((0 : Byte).getLsbD 0 = false ∧ 256 < (193 : Byte).toNat + (64 : Byte).toNat) := ⟨accepts_idle, by decide⟩

/-- 63 frames wait in the inbound queue: of two frames one is taken. -/
def inq63 : State := { idle with sf := { Sfl.new with inq := List.replicate 63 (List.replicate 32 0) } }

theorem witness_HostFrames_partial : (let l : List (List Byte) := List.replicate 2 (List.replicate 32 7)
      1 ≤ l.length ∧ l.length ≤ 16 ∧ (∀ b ∈ l, b.length = 32) ∧ l.length - min l.length (64 - inq63.sf.inq.length) = 1
        ∧ inq63.dev.dvState ∈ [DvState.stop, .run, .fault])
    ∧ (List.replicate 16 (List.replicate 32 (7 : Byte))).length ≤ 16
    ∧ (let es : List (Byte × Half) := [(31, 5), (0, 6), (31, 7)]
      es.length ≤ 32 ∧ ∀ e ∈ es, e.1.toNat ≤ 31)
    ∧ (let es : List (Byte × Half) := [(31, 5), (32, 6)]
      es.length ≤ 32 ∧ ∃ e ∈ es, 31 < e.1.toNat) := by
  refine ⟨by decide, by decide, by simp, ?_⟩
  exact ⟨by decide, (32, 6), by simp, by decide⟩

theorem witness_HostFrames : Accepts 3 idle ∧ (List.replicate 32 (0 : Byte)).length = 32 ∧ idle.sf.inq.length < 64
    ∧ idle.dev.dvState ∈ [DvState.stop, .run, .fault] ∧ 64 ≤ inqFull.sf.inq.length ∧ inqFull.dev.dvState = .stop
    ∧ (at' .lockout).dev.dvState ∈ [DvState.mismatch, .lockout] ∧ 1 ≤ (15 : Byte).toNat ∧ (15 : Byte).toNat ≤ 15 :=
  ⟨accepts_idle, by decide⟩

theorem witness_HostFrames_accepts : Accepts 3 inqFull ∧ Accepts 3 (at' .lockout) := by unfold Accepts; decide

theorem witness_Challenges : (withPool idle).ent.state = .healthy ∧ (withPool idle).ent.pool = 0x1122334455667788 :: [7]
    ∧ challengeRefused (withPool idle) = false ∧ (withPool idle).ent.waiting = [] ∧ live (withPool idle) = true
    ∧ challengeRefused { idle with db := { Debug.new with refuseUs := true } } = true := by decide

theorem witness_Challenges_accepts : Accepts 3 (withPool idle) ∧ Accepts 3 { idle with db := { Debug.new with refuseUs := true } } := by
  unfold Accepts; decide

/-- A list whose entries all lie within their ranges, and one whose second entry, DARK = 6, does not. -/
theorem witness_RegisterWrites_lists : (let ws : List RegWrite := [⟨0x19, 0xFFFFFFFF, 60⟩, ⟨0x81, 0x70, 0x50⟩]
      1 ≤ ws.length ∧ ws.length ≤ 16 ∧ (∀ e ∈ ws, e.index < 256) ∧ (applyWrites ws idle).isSome = true)
    ∧ (let l : List RegWrite := [⟨0x19, 0xFFFFFFFF, 60⟩]
      (applyWrites l idle).isSome = true ∧ ∀ u, applyWrites l idle = some u → writeOk ⟨0x81, 0x70, 0x60⟩ u = false) := by
  refine ⟨by decide, by decide, fun u h => ?_⟩
  have hu : u = (applyWrites [⟨0x19, 0xFFFFFFFF, 60⟩] idle).getD idle := by rw [h]; rfl
  rw [hu]; decide

theorem witness_RegisterWrites_field : ((0x70 : Word) &&& 0xF7 &&& 0x70 ≠ 0)
    ∧ (decide ((0x50 : Word).toNat / 16 % 8 ≤ 5)) = true ∧ (decide ((0x60 : Word).toNat / 16 % 8 ≤ 5)) = false
    ∧ (0x40 ∉ [0x01, 0x11, 0x18, 0x19, 0x21, 0x23, 0x24, 0x25, 0x66, 0x68, 0x81] ∧ ¬ (0x08 ≤ 0x40 ∧ 0x40 ≤ 0x0F)
      ∧ ¬ (0x90 ≤ 0x40 ∧ 0x40 ≤ 0x9F)) := by decide

theorem witness_RegisterWrites : Accepts 3 idle ∧ InOrder 1 idle ∧ 1 ≤ (86400 : Word).toNat ∧ (86400 : Word).toNat ≤ 86400
    ∧ 86400 < (86401 : Word).toNat := ⟨accepts_idle, inOrder_idle, by decide⟩

theorem witness_EventEnables : Accepts 3 idle ∧ InOrder 1 idle ∧ (List.replicate 8 (0xFFFFFFFF : Word)).length = 8 :=
  ⟨accepts_idle, inOrder_idle, by decide⟩

theorem witness_Staging : Accepts 3 idle ∧ InOrder 1 idle ∧ degraded idle = false ∧ (262080 : Word).toNat ≤ 262080
    ∧ (inactiveBank staging).state = .staging ∧ Memory.wf (inactiveBank staging).body = true ∧ degraded staging = false
    ∧ (13 : Word).toNat + ([4, 0, 3] : List Byte).length ≤ (inactiveBank staging).length :=
  ⟨accepts_idle, inOrder_idle, by decide⟩

theorem witness_Staging_accepts : (Accepts 3 staging ∧ InOrder 1 staging) ∧ (Accepts 3 bareStaged ∧ InOrder 1 bareStaged)
    ∧ Accepts 3 bareCommitted ∧ InOrder 1 bareCommitted := by
  refine ⟨⟨?_, ?_⟩, ⟨?_, ?_⟩, ?_, ?_⟩ <;> first | (unfold Accepts; decide) | (unfold InOrder StoreTakes; decide)

/-- The bare body reads back as it was staged. -/
theorem bare_bytes : bareBank.bodyBytes = Config.bareBody.toList := by
  have h := Memory.readBytes_writeBytes Config.bareBody.toList
  rw [Vector.length_toList] at h
  exact h

theorem bare_reads : Config.imageOfBody Config.bareBody.toList = some Config.bareImage := by simp [Config.imageOfBody]

theorem witness_Staging_commit : (inactiveBank bareStaged).state = .staging
    ∧ bodyRefusal (crc32 Config.bareBody.toList) (inactiveBank bareStaged).bodyBytes bareStaged = none
    ∧ (inactiveBank bareCommitted).state = .committed ∧ bareCommitted.dev.discarded = false
    ∧ (inactiveBank bareCommitted).bodyCrc = crc32 Config.bareBody.toList := by
  refine ⟨rfl, ?_, rfl, rfl, rfl⟩
  have h1 : brokenBlock Config.bareImage = none := by decide +kernel
  have h2 : wholeOk Config.bareImage = true := by decide +kernel
  rw [show (inactiveBank bareStaged).bodyBytes = Config.bareBody.toList from bare_bytes]
  simp [bodyRefusal, formatKnown, abiKnown, bareStaged, bareFuses, bare_reads, h1, h2]

theorem witness_Staging_wrongCrc : ∃ crc : Word, (inactiveBank bareCommitted).bodyCrc ≠ crc :=
  ⟨crc32 Config.bareBody.toList + 1, by
    rw [show (inactiveBank bareCommitted).bodyCrc = crc32 Config.bareBody.toList from rfl]; bv_omega⟩

theorem witness_Activate_ports : (7 : Fin 8).val < portsFused bareCommitted := by decide

theorem witness_Activate : Accepts 3 bareCommitted ∧ InOrder 1 bareCommitted ∧ bareCommitted.ent.waiting = []
    ∧ activateCheck 1 bareCommitted = (stOk, some Config.bareImage) := by
  refine ⟨witness_Staging_accepts.2.2.1, witness_Staging_accepts.2.2.2, rfl, ?_⟩
  have hb : (inactiveBank bareCommitted).bodyBytes = Config.bareBody.toList := bare_bytes
  have hf : (inactiveBank bareCommitted).format = (Config.preamble Config.bareBody.toList).1 :=
    congrArg (fun b => (Config.preamble b).1) bare_bytes
  have ha : (inactiveBank bareCommitted).abi = (Config.preamble Config.bareBody.toList).2.1 :=
    congrArg (fun b => (Config.preamble b).2.1) bare_bytes
  have hn : ∀ p, Config.bareImage.references p = false := fun p => rfl
  have hm : imageMismatch (inactiveBank bareCommitted).abi (inactiveBank bareCommitted).format
      (inactiveBank bareCommitted).compiler bareCommitted = 0 := by
    have ht : patchTable bareCommitted.fu.patchSet = 0 := by decide
    have hr : antiRollback bareCommitted = 0 := by decide
    have hc : compatFloor bareCommitted = 0 := by decide
    generalize (inactiveBank bareCommitted).compiler = comp
    simp only [imageMismatch, allEntries, ht, hr, ha, hf]
    simp [bareCommitted, bareFuses, idle, at', State.reset, Fuses.new, TestedEntry.fitsPatch, TestedEntry.fitsFormat,
      TestedEntry.fitsCompiler, aboveFloor, compatFloor]
    have a : (0 : Word) ≤ comp := by bv_omega
    have b : comp ≤ 4294967295 := by bv_omega
    have c : ¬ (4294967295 : Word) < comp := by bv_omega
    exact (if_neg fun h => c (h a)).trans (if_pos ⟨a, b⟩)
  have hp : portsTested Config.bareImage (inactiveBank bareCommitted) bareCommitted = true := by simp [portsTested, hn]
  have hd : (bareCommitted.dev.dvState != .stop || !stagedValid bareCommitted) = false := by decide
  have hs : (inactiveBank bareCommitted).imgSeq = 1 := rfl
  have hg : degraded bareCommitted = false := by decide
  simp [activateCheck, hb, bare_reads, hd, hs, hm, hp, hg]

/-- The seed of the engine at ACTIVATE_CONFIG: a word waits in the pool, none does, or the source is locked. -/
theorem witness_Activate_seed : (∀ e : Entropy, activateCheck 1 { bareCommitted with ent := e } = (stOk, some Config.bareImage))
    ∧ (let s := withPool bareCommitted
      s.ent.state = .healthy ∧ s.ent.pool = 0x1122334455667788 :: [7] ∧ (0x1122334455667788 : DWord).setWidth 32 ≠ (0 : Word)
        ∧ s.ent.waiting = [])
    ∧ (bareCommitted.ent.state ∈ [EntState.startup, .healthy] ∧ bareCommitted.ent.pool = [])
    ∧ ({ Entropy.new with state := .locked } : Entropy).state ∈ [EntState.unhealthy, .locked] :=
  ⟨fun _ => witness_Activate.2.2.2, by decide⟩

theorem witness_RunControl_refused : (let s : State := { loaded with en := { loaded.en with debug := true } }
      s.dev.dvState = .stop ∧ s.en.debug = true)
    ∧ (at' .mismatch).dev.dvState ∈ [DvState.fault, .mismatch, .lockout] ∧ (at' .lockout).dev.dvState ∈ [DvState.fault, .mismatch, .lockout]
    ∧ loaded.ent.pool = [] ∧ inRun.dev.dvState = .run ∧ 2 < (3 : Byte).toNat ∧ hasModesel inRun = false := by decide

theorem witness_RunControl : (loaded.dev.dvState = .stop ∧ loaded.dev.noConfig = false ∧ loaded.en.debug = false
      ∧ loaded.en.image = some (imageOf andBlock))
    ∧ ({ loaded with dev := { loaded.dev with noConfig := true } } : State).dev.noConfig = true ∧ inRun.dev.dvState = .run
    ∧ (verified.dev.dvState = .fault ∧ verified.en.reverifyOk = true ∧ verified.en.reverify = false ∧ faultStays verified = false)
    ∧ (at' .fault).en.reverifyOk = false ∧ (2 : Byte).toNat ≤ 2 ∧ hasModesel (selecting [] ModeSt.new) = true
    ∧ (selecting [] ModeSt.new).dev.dvState = .run ∧ loaded.dev.dvState ≠ .run := by decide

theorem accepts_states : ∀ s ∈ [loaded, inRun, verified, at' .fault, selecting [] ModeSt.new, onPps, onIrig, acked2, upLink0,
    jammed, texts8, patching], Accepts 3 s ∧ InOrder 1 s := by
  unfold Accepts InOrder StoreTakes; decide

theorem witness_TimeCommands : (37 : Half).toNat ≤ 255 ∧ idle.tb.quality.locked = false
    ∧ (1700000000000000 : DWord).toNat % 1000000 = 0 ∧ onPps.tb.quality ≠ .lockedIrig ∧ onPps.tb.ppsValid = true
    ∧ onIrig.tb.quality = .lockedIrig ∧ (3 : Byte).toNat ≤ 3 ∧ onPps.tb.quality = .lockedPps ∧ (0 : Byte).getLsbD 0 = false
    ∧ ((2 : Byte).getLsbD 1 && (2 : Byte).getLsbD 3) = false ∧ onIrig.tb.quality.locked = true
    ∧ 255 < (256 : Half).toNat ∧ ((10 : Byte).getLsbD 1 && (10 : Byte).getLsbD 3) = true
    ∧ ((1 : Byte).getLsbD 0 = true ∧ (1 : DWord).toNat % 1000000 ≠ 0 ∧ idle.tb.ppsValid = false ∧ idle.tb.quality ≠ .lockedIrig) := by decide

theorem witness_JournalAck : ((3 : Word) ≠ 0 ∧ (3 : Word) ≠ acked2.nv.live.ack ∧ seqBefore 3 acked2.nv.live.ack = false
      ∧ seqBefore (touchBus acked2).nv.head 3 = false ∧ seqBefore (touchBus acked2).nv.head 5 = false)
    ∧ seqBefore 1 acked2.nv.live.ack = true ∧ (2 : Word) = acked2.nv.live.ack
    ∧ ((6 : Word) ≠ acked2.nv.live.ack ∧ seqBefore 6 acked2.nv.live.ack = false ∧ seqBefore (touchBus acked2).nv.head 6 = true) := by
  decide

theorem witness_PortCommands : (stateRunStop upLink0 = true ∧ upLink0.links[0].phase = 6 ∧ (1 : BitVec 6) ≠ 0
      ∧ channelsEnabled 0 1 upLink0 = true) ∧ idle.links[0].phase ≠ 6
    ∧ (upLink0.dev.dvState = .stop ∧ linksUp 1 upLink0 = true ∧ (1 : Byte) ≠ 0
      ∧ ∃ q : Fin 8, (1 : Byte).getLsbD q.val = true ∧ learnInputs q.val 1 upLink0 ≠ []) := by
  refine ⟨by decide, by decide, by decide, by decide, by decide, 0, by decide, by decide +kernel⟩

theorem witness_PortCommands_refused : (stateRunStop (at' .fault) = false ∧ (at' .fault).dev.dvState ≠ .stop)
    ∧ (stateRunStop upLink0 = true ∧ upLink0.links[0].phase = 6 ∧ channelsEnabled 0 32 upLink0 = false)
    ∧ ((1 : Byte) ≠ 0 ∧ linksUp 1 idle = false) ∧ linksUp 0 upLink0 = true := by decide

/-- A line is being printed after two blank lines, so that none of them counts for a FEED given now. -/
def feeding : State := { idle with wp := { Printer.new with line := some (.record 3 false), dotLine := 4, blanks := 2 } }

theorem witness_PrinterCommands_feed : blanksFed jammed.wp = 2 ∧ blanksFed feeding.wp = 0
    ∧ (let s : State := { idle with nv := { Nv.new with live := { Params.new with testReq := [1] } } }
      (1 : Word) ∈ s.nv.live.testReq) ∧ (1 : Word) ∉ idle.nv.live.testReq := by decide

theorem witness_PrinterCommands : ((3 : Byte) ≠ 0 ∧ jammed.nv.live.feedDone ≠ 1 ∧ jammed.nv.live.feed.map Prod.fst ≠ some 1
      ∧ (2 : Byte).toNat ≤ jammed.wp.blanks ∧ jammed.wp.blanks < (3 : Byte).toNat) ∧ idle.nv.live.testDone ≠ 1
    ∧ (1 ≤ (List.replicate 30 (0x7E : Byte)).length ∧ (List.replicate 30 (0x7E : Byte)).length ≤ 30
      ∧ (∀ b ∈ List.replicate 30 (0x7E : Byte), 0x20 ≤ b.toNat ∧ b.toNat ≤ 0x7E) ∧ (∀ x ∈ idle.nv.live.text, x.csn ≠ 1)
      ∧ idle.nv.live.text.length < 8)
    ∧ (∀ x ∈ texts8.nv.live.text, x.csn ≠ 1) ∧ 8 ≤ texts8.nv.live.text.length := by decide

theorem witness_FusesAndPatches : (idle.dev.dvState = .stop ∧ 64 ≤ idle.dev.dieTemp.toNat ∧ idle.dev.dieTemp.toNat ≤ 164
      ∧ (writeLocked idle.fu (rowRegion 31) && !rowStep 31) = false ∧ fuseVerdict 31 (5 &&& rowBits 31) idle.fu = .blow
      ∧ (freeSpare idle.fu).isSome = true ∧ rowFails idle.fu 31 = false)
    ∧ fuseVerdict 0 (1 &&& rowBits 0) idle.fu = .nothing ∧ fuseVerdict 0 (0 &&& rowBits 0) idle.fu = .badParam
    ∧ (let f : Fuses := { Fuses.new with rows := Fuses.new.rows.set 18 ⟨7, 0⟩ }
      (writeLocked f (rowRegion 0) && !rowStep 0) = true)
    ∧ (degraded idle = false ∧ 344 ≤ (16384 : Word).toNat ∧ (16384 : Word).toNat ≤ 16384)
    ∧ (patching.fu.xfer = some (344, [(3, 1)], 8) ∧ Memory.wf [(3, 1)] = true ∧ (343 : Word).toNat + ([9] : List Byte).length ≤ 344) := by
  decide +kernel

theorem witness_DeviceCommands : Accepts 3 idle ∧ InOrder 1 idle ∧ (withPool idle).ent.state = .healthy
    ∧ ({ idle with ent := { Entropy.new with state := .unhealthy } } : State).ent.state = .unhealthy
    ∧ ({ idle with ent := { Entropy.new with state := .locked } } : State).ent.state = .locked := ⟨accepts_idle, inOrder_idle, by decide⟩

theorem witness_CommandFrames : Accepts 3 inRun ∧ InOrder 1 inRun := accepts_states inRun (by simp)

/-! ### The command layer and the bus -/

theorem witness_ExactlyOnce : sentSequenced (.run 3 7 []) = some (3, 7, 0x20, []) ∧ (7 : Word) ≠ 0
    ∧ (chainOf 7 executed = none ∧ seqDist 7 executed.nv.lastE ≤ 63 ∧ nvBothOut executed = false
      ∧ outcomeOf 7 executed = some (outcomeEntry (seqPacket 0x20 3 7 []) stOk [1, 2]))
    ∧ (chainOf 6 executed = none ∧ seqDist 6 executed.nv.lastE ≤ 63 ∧ outcomeOf 6 executed = none)
    ∧ chainOf 4 gapped = some { chain1 with csn := 4 } := by decide +kernel

theorem witness_ExactlyOnce_accepts : (Accepts 3 executed ∧ StoreTakes executed) ∧ Accepts 3 gapped ∧ StoreTakes gapped := by
  unfold Accepts StoreTakes; decide

/-- CSN 7 has been skipped. -/
theorem witness_ExactlyOnce_skipped : ∃ s : State, chainOf 7 s = none ∧ seqDist 7 s.nv.lastE ≤ 63
    ∧ ∃ o, outcomeOf 7 s = some o ∧ o.skip = true :=
  ⟨skipCsn 7 idle, by decide, by decide, { csn := 7, skip := true, status := stGapTimeout, ctrl := 0xFF, data := [], crc := 0, opcode := 0 },
    by decide, rfl⟩

/-- A waiting chain with the CRC of the packet given again. -/
theorem witness_ExactlyOnce_chain : ∃ (s : State) (c : Chain), chainOf 4 s = some c ∧ c.crc = (seqPacket 0x20 3 4 []).crc :=
  ⟨{ gapped with nv := { gapped.nv with chains := [{ chain1 with csn := 4, crc := (seqPacket 0x20 3 4 []).crc }] } }, _, rfl, rfl⟩

theorem witness_GapTimeout : live gapped = true ∧ stateAll gapped = true ∧ gapped.db.coreHalted = false ∧ gapped.cm.running = none
    ∧ gapped.nv.chains = [{ chain1 with csn := 4 }] ∧ 2 ≤ seqDist gapped.nv.lastE 4 ∧ seqDist gapped.nv.lastE 4 ≤ 8 := by decide

theorem witness_GapTimeout_open : JournalOpen gapped ∧ StoreTakes gapped := by unfold JournalOpen StoreTakes; decide

theorem witness_PacketChecks : busServes idle = true ∧ idle.db.coreHalted = false
    ∧ tagBusy (packetOf [1, 3, 0, 0, 0, 0]) { idle with cm := { Cmd.new with inFlight := 8 } } = true
    ∧ tagBusy (packetOf [1, 3, 9, 0, 0, 0]) idle = false ∧ leAt [1, 3, 9, 0, 0, 0] 2 2 = 9
    ∧ (6 ≤ ([1, 3, 0, 0, 0, 0] : List Byte).length ∧ leAt [1, 3, 0, 0, 0, 0] 2 2 ≤ 512
      ∧ ([1, 3, 0, 0, 0, 0] : List Byte).length = leAt [1, 3, 0, 0, 0, 0] 2 2 + 6 ∧ crc16 [1, 3, 0, 0] ≠ 0)
    ∧ (let b := (plainPacket 0x7F 3 []).raw
      b.length = leAt b 2 2 + 6 ∧ crc16 (b.take (leAt b 2 2 + 4)) = halfAt b (leAt b 2 2 + 4)
        ∧ opSequenced (packetOf b).opcode = none)
    ∧ (let b := (plainPacket 0x20 3 []).raw
      b.length = leAt b 2 2 + 6 ∧ crc16 (b.take (leAt b 2 2 + 4)) = halfAt b (leAt b 2 2 + 4)
        ∧ opSequenced (packetOf b).opcode = some true ∧ fieldsOk (packetOf b) (leAt b 2 2) true = false)
    ∧ 518 < (List.replicate 519 (0 : Byte)).length
    ∧ (busServes halted = true ∧ halted.db.coreHalted = true ∧ halted.cm.buffer = none)
    ∧ ({ halted with cm := { Cmd.new with buffer := some [1] } } : State).cm.buffer = some [1] := by decide +kernel

theorem witness_Windows : busServes idle = true ∧ idle.cm.replies = [] ∧ busServes replies2 = true ∧ (∃ r rest, replies2.cm.replies = r :: rest
      ∧ r.bytes.length + 2 ≤ 16 ∧ 15 < r.bytes.length + 2)
    ∧ ((List.replicate 32 (0 : Byte)).length = 32 ∧ idle.sf.inq.length < 64 ∧ idle.dev.dvState ∈ [DvState.stop, .run, .fault])
    ∧ (([7] : List Byte) ≠ [] ∧ ([7] : List Byte).length < 32 ∧ (at' .lockout).dev.dvState ∈ [DvState.mismatch, .lockout]
      ∧ busServes (at' .lockout) = true)
    ∧ (64 ≤ inqFull.sf.inq.length ∧ inqFull.dev.dvState ∈ [DvState.stop, .run, .fault] ∧ busServes inqFull = true)
    ∧ ([0, 0, 0, 1] : List Byte).length = 4 := by
  refine ⟨by decide, by decide, by decide, ⟨_, _, rfl, by decide, by decide⟩, by decide, by decide, by decide, by decide⟩

theorem witness_Attention : attentionSent { calling with hb := { calling.hb with attnDue := false } } = true ∧ attentionSent calling = true ∧ calling.hb.attnDue = true ∧ calling.hb.backoff = false
    ∧ calling.hb.losses < 15 ∧ calling.hb.stuck = false
    ∧ (let s : State := { calling with hb := { calling.hb with backoff := true, losses := 15, stuck := true } }
      attentionSent s = true ∧ s.hb.backoff = true ∧ 15 ≤ s.hb.losses ∧ s.hb.stuck = true)
    ∧ busServes idle = true ∧ live calling = true ∧ calling.hb.silenceOn = true ∧ calling.hb.silent = false
    ∧ calling.set.silence ≠ 0 ∧ idle.set.silence = 0 := by decide

theorem witness_Attention_open : JournalOpen calling := by unfold JournalOpen; decide

theorem witness_JournalWriter : coreWrites queued2 = true ∧ queued2.nv.chains = [] ∧ queued2.jr.queue = event1 :: [{ event1 with arg := 6 }]
    ∧ queued2.nv.live.gap.active = false ∧ journalFull queued2 = false ∧ noSlot queued2 = false ∧ nvBothOut queued2 = false
    ∧ queued2.nv.live.nvaOut = false ∧ queued2.nv.live.nvbOut = false
    ∧ (coreWrites gapEnding = true ∧ gapEnding.nv.chains = [] ∧ gapEnds gapEnding = true ∧ gapEnding.jr.full75 = true)
    ∧ ({ idle with nv := { Nv.new with due := true } } : State).nv.due = true ∧ idle.nv.due = false ∧ coreWrites idle = true := by decide

theorem witness_JournalWriter_takes : StoreTakes queued2 ∧ StoreTakes gapEnding := by unfold StoreTakes; decide

/-! ### The engine -/

/-- A block of a running image, in a state with given inputs of the latest scan. -/
def blk (t : BlockType) (ins outs : Nat) (prev : List Nat) : Block × BlockSt :=
  let b := blockOf t ins outs parms
  (b, { BlockSt.fresh b with first := false, prev := prev })

theorem blockInRun_running (b : Block) (st : BlockSt) (h : st.first = false) :
    blockInRun 0 (running b st) = some (imageOf b, b, st) := by
  show (if st.first then none else _) = _
  rw [h]; rfl

theorem witness_Scan : inRun.dev.dvState = .run ∧ inRun.en.scanning = true ∧ inRun.en.seedWait = false
    ∧ inRun.en.image = some (imageOf andBlock) ∧ inRun.nv.chains = [] ∧ goodScan.released = true ∧ goodScan.phase4Done = true
    ∧ scanVerdict goodScan (imageOf andBlock) (scanSeed (scanStart inRun)) (scanStart inRun).en.opVector
      (scanEval goodScan (imageOf andBlock) (scanStart inRun)).1 = none
    ∧ inWindow inRun = false ∧ inWindow (windowed inRun) = true
    ∧ ({ goodScan with released := false } : ScanEnv).released = false := by decide +kernel

theorem witness_Scan_rejected : let e := { goodScan with coderOk := false }
    scanVerdict e (imageOf andBlock) (scanSeed (scanStart inRun)) (scanStart inRun).en.opVector
      (scanEval e (imageOf andBlock) (scanStart inRun)).1 = some (0, 5, 0)
    ∧ (scanVerdict e (imageOf andBlock) (scanSeed (scanStart (windowed inRun))) (scanStart (windowed inRun)).en.opVector
      (scanEval e (imageOf andBlock) (scanStart (windowed inRun))).1 = some (0, 5, 0)) := by decide +kernel

theorem witness_GuardTimes : (let (b, st) := blk .estop 3 2 [1, 0]
      b.type = .estop ∧ b.params.channels = 2 ∧ st.fault = false ∧ isOn st.prev 0 ≠ isOn st.prev 1)
    ∧ (let (b, st) := blk .guardLock 6 3 [1, 0, 0, 0, 0, 0]
      b.params.channels = 2 ∧ st.faultKind % 2 = 0 ∧ isOn st.prev 0 ≠ isOn st.prev 1)
    ∧ (let (b, st) := blk .guardLock 6 3 [1, 1, 0, 0, 0, 0]
      let st := { st with t4 := 1 }
      st.faultKind = 0 ∧ 0 < st.t4 ∧ isOn st.prev 0 = true ∧ isOn st.prev 1 = true ∧ isOn st.prev 2 = false ∧ isOn st.prev 3 = false
        ∧ isOn st.prev 4 = false ∧ b.params.lchannels ≠ 2)
    ∧ (let (b, st) := blk .guardLock 6 3 [1, 1, 0, 0, 1, 1]
      st.armed = false ∧ isOn st.prev 4 = true ∧ isOn st.prev 5 = true ∧ lastOut st 0 ≠ 1 ∧ b.type = .guardLock)
    ∧ (let (_, st) := blk .guardLock 6 3 [0, 0, 1, 0, 0, 0]
      let st := { st with armed := true }
      st.armed = true ∧ st.faultKind = 0 ∧ isOn st.prev 0 = false ∧ isOn st.prev 1 = false ∧ isOn st.prev 2 = true)
    ∧ (let (b, st) := blk .twohand 4 1 [0, 0, 0, 1]
      b.type = .twohand ∧ st.fault = false ∧ isOn st.prev 0 = isOn st.prev 1)
    ∧ (let (_, st) := blk .twohand 4 1 [1, 0, 0, 1]
      let st := { st with armed := true, active := true, t2 := 1 }
      st.armed = true ∧ st.blocked = false ∧ st.active = true ∧ lastOut st 0 ≠ 1 ∧ st.t2 = 1 ∧ isOn st.prev 0 = true
        ∧ isOn st.prev 1 = false) := by decide

theorem witness_OperatingTimes : (let (b, st) := blk .edm 2 1 [1, 1]
      let st := { st with armed := true, outs := [1] }
      b.type = .edm ∧ st.fault = false ∧ isOn st.prev 0 = true ∧ isOn st.prev 1 = true ∧ lastOut st 0 = 1 ∧ st.armed = true)
    ∧ (let (_, st) := blk .edm 2 1 [0, 0]
      isOn st.prev 0 = false ∧ isOn st.prev 1 = false)
    ∧ (let (b, st) := blk .sbc 4 4 [0, 0, 0, 0]
      b.type = .sbc ∧ { st with active := true }.active = true ∧ isOn st.prev 3 = false ∧ 0 < b.params.btInt ∧ st.active = false)
    ∧ (let (_, st) := blk .sbc 4 4 [0, 0, 0, 1]
      isOn st.prev 3 = true)
    ∧ (let (b, st) := blk .restart 1 2 [1]
      let st := { st with active := true }
      b.type = .restart ∧ st.active = true ∧ st.t1 ≤ scansOf (periodUs (imageOf b).scanPer.val) b.params.tMax
        ∧ isOn st.prev 0 = true ∧ st.waitEdge = false)
    ∧ (let (_, st) := blk .restart 1 2 [0]
      st.active = false ∧ isOn st.prev 0 = false ∧ st.waitEdge = false)
    ∧ isOn (blk .ton 1 2 [1]).2.prev 0 = true ∧ isOn (blk .tof 1 2 [0]).2.prev 0 = false := by decide

theorem witness_ModeRows : (let s := selecting [1, 1, 0, 0] ModeSt.new
      modeselIx s = some 0 ∧ s.en.mode.fault = false ∧ srcAllowed 3 1 = true ∧ selectorPattern true true false = 3)
    ∧ (let s := selecting [0, 1, 0, 0] { ModeSt.new with pattern := 1 }
      modeselIx s = some 0 ∧ s.en.mode.pattern = selectorPattern false true false
        ∧ s.en.mode.patCount < scansOf (periodUs 0) 100 ∧ s.en.mode.pending = false ∧ s.dev.handover = 0
        ∧ selectorPattern false true false ≠ s.dev.mode.code)
    ∧ (let s := selecting [1, 0, 0, 0] { ModeSt.new with pattern := 0 }
      let s := { s with dev := { s.dev with mode := .service } }
      selectorPattern true false false = 0 ∧ s.en.mode.pattern = 0 ∧ selectorPattern true false false ≠ s.dev.mode.code)
    ∧ srcAllowed 3 2 = true ∧ (srcAllowed 1 2 || srcAllowed 1 3) = false
    ∧ ({ inRun with dev := { inRun.dev with handover := 1 } } : State).dev.handover = 1 := by decide

/-! ### Links, frames and entropy -/

theorem witness_PortJudgement : live upLink0 = true ∧ chanEnabled 0 0 upLink0 = true ∧ upLink0.links[0].outNow.getLsbD 0 = false
    ∧ ({ Link.new with outNow := 1 } : Link).outNow.getLsbD 0 = true
    ∧ foreign.short.foreign = [((1 : Fin 8).val, (2 : Fin 8).val + 1, 500)] ∧ foreign.short.supplied = [] ∧ idle.short.foreign = []
    ∧ (let s : State := { foreign with clock := 500 + 2 * framePeriod foreign }
      500 + 2 * framePeriod s ≤ s.clock ∧ s.short.foreign = foreign.short.foreign) := by
  decide

theorem witness_PortJudgement_open : JournalOpen foreign := by unfold JournalOpen; decide

theorem witness_Connections : (runPool.dev.dvState = .run ∧ prodParams 0 runPool = some { dest := 5, tPi := 4, onChange := false }
      ∧ (getProd 0 runPool).running = false ∧ (getProd 0 runPool).drawReq = false ∧ runPool.ent.state = .healthy
      ∧ runPool.ent.pool = 0x1122334455667788 :: [7] ∧ runPool.ent.waiting = []
      ∧ (0x1122334455667788 : DWord).setWidth 32 ≠ (0 : Word) ∧ (0x1122334455667788 : DWord).setWidth 32 ≠ (getProd 0 runPool).cid)
    ∧ (getProd 0 (dueFrame 63)).due = some frame0 ∧ (dueFrame 63).sf.outq.length < 64 ∧ (getProd 0 (dueFrame 64)).due = some frame0
    ∧ 64 ≤ (dueFrame 64).sf.outq.length
    ∧ (live loaded = true ∧ loaded.dev.dvState = .stop ∧ oneFrame.sf.inq = [frame0.bytes loaded.fu.site])
    ∧ (live (at' .lockout) = true ∧ (at' .lockout).dev.dvState = .lockout)
    ∧ (connValid.dev.dvState ∈ [DvState.stop, .run, .fault] ∧ (consParams 0 connValid).isSome = true ∧ connValid.sf.inq = []
      ∧ (getCons 0 connValid).state = .valid) := by decide +kernel

theorem witness_Connections_frame : let b := frame0.bytes loaded.fu.site
    sflCheck1 oneFrame.fu.site b = true ∧ (sflFields b).dest = nodeId oneFrame
      ∧ consumerOf (sflFields b).src oneFrame = some (0, { src := 9, tWd := 100, ageMax := 0, modeConn := false })
      ∧ ageApplies (sflFields b) { src := 9, tWd := 100, ageMax := 0, modeConn := false } oneFrame = false
      ∧ (getCons 0 oneFrame).state = .empty ∧ (sflFields b).rr = false := by decide +kernel

theorem witness_Connections_open : JournalOpen connValid := by unfold JournalOpen; decide

theorem witness_EntropyRows : live idle = true ∧ idle.nv.chains = [] ∧ idle.ent.state = .startup ∧ (withPool idle).ent.state = .healthy
    ∧ (withPool idle).ent.pool.length < 16 ∧ (withPool idle).ent.waiting = [] ∧ live (withPool idle) = true
    ∧ (withPool idle).nv.chains = [] ∧ idle.ent.state ≠ .healthy
    ∧ ((withPool idle).ent.testAll [true]).2 = 0 ∧ ((withPool idle).ent.testAll (rawBits.take 512)).2 = 0
    ∧ 512 ≤ ((withPool idle).ent.block ++ rawBits.take 512).length ∧ ((withPool idle).ent.block ++ [true]).length < 512
    ∧ ((withPool idle).ent.testAll (List.replicate 31 true)).2 ≠ 0 ∧ startupPasses rawBits = true
    ∧ startupPasses (List.replicate 1024 true) = false ∧ 16 ≤ (List.replicate 16 (0 : DWord)).length := by decide +kernel

theorem witness_Links : live (linkIn 6) = true ∧ (linkIn 6).links[1].held = true ∧ (linkIn 6).links[0].held = false
    ∧ (linkIn 6).links[0].phase = 6 ∧ (linkIn 6).nv.chains = [] ∧ (linkIn 6).cm.running = none ∧ (linkIn 5).links[0].phase = 5
    ∧ (linkIn 1).links[0].phase = 1 ∧ (linkIn 3).links[0].failShown = false ∧ 2 ≤ (linkIn 3).links[0].phase
    ∧ (linkIn 3).jr.queue.length < 63 ∧ (linkIn 5).links[0].seedSent = 0 ∧ 0 < ({ (linkIn 5).links[0] with seedSent := 1 } : Link).seedSent
    ∧ ({ (linkIn 3).links[0] with failShown := true } : Link).failShown = true
    ∧ (let s : State := { linkIn 6 with links := (linkIn 6).links.set 7 { Link.new with phase := 1, held := true } }
      live s = true ∧ s.links[7].held = true ∧ s.links[7].phase = 1 ∧ 7 < portsFused s ∧ s.dev.dvState ≠ .dormantEntry) := by
  decide +kernel

theorem witness_Links_open : JournalOpen (linkIn 6) ∧ JournalOpen (linkIn 3) := by unfold JournalOpen; decide

theorem witness_Uplinks : (linkIn 1).links[0].phase = 1 ∧ (linkIn 1).links[0].held = false ∧ (linkIn 1).nv.chains = []
    ∧ ulValid true [0] (mkFrame [(0, 0)]) = true ∧ (linkIn 6).links[0].phase = 6 ∧ ulValid true [1] (mkFrame [(0, 1)]) = true
    ∧ ulEcho (mkFrame [(0, 1)]) ≠ (linkIn 6).links[0].echoLast ∧ ulSeqFault (mkFrame [(0, 1)]) = false
    ∧ ulValid true [2] (mkFrame [(0, 2)]) = true ∧ ulEcho (mkFrame [(0, 2)]) ≠ (linkIn 6).links[0].echoLast
    ∧ ulSeqFault (mkFrame [(0, 2)]) = false ∧ ulDiagCode (mkFrame [(0, 2)]) = 0 ∧ ulValid true [1] 0 = false
    ∧ (linkIn 6).links[0].badRun < 3 ∧ 3 ≤ ({ (linkIn 6).links[0] with badRun := 3 } : Link).badRun ∧ (linkIn 6).cm.running = none
    ∧ (ulEcho (mkFrame [(0, 0), (8, 4)]) ≠ (linkIn 2).links[0].echoLast ∧ (linkIn 3).links[0].echoRun < 3)
    ∧ (ulDiagCode (mkFrame [(0, 2), (64, 0x0101)]) = 0x0101 ∧ ulDiagCode (mkFrame [(0, 2), (64, 0x0204), (80, 5)]) = 0x0204
      ∧ (ulDiagArg (mkFrame [(0, 2), (64, 0x0204), (80, 5)])).toNat % 8 < 6 ∧ ulDiagCode (mkFrame [(0, 2), (64, 0x0403)]) = 0x0403)
    ∧ (∀ c : Fin 6, ((linkIn 6).nv.live.chMinutes[6 * (0 : Fin 8).val + c.val]?).getD 0 < 43200)
    ∧ (recentBad (linkIn 6).links[0].cycles (linkIn 6).links[0].ulBad).length < 64
    ∧ (linkIn 6).nv.live.gap.active = false ∧ noSlot (linkIn 6) = false
    ∧ (linkIn 6).jr.queue.length + (ulRecords (mkFrame [(0, 1), (8, 1)])).length ≤ 64
    ∧ (let s : State := { linkIn 6 with set := { Settings.compiler with evEnable := Vector.replicate 8 0xFFFFFFFF } }
      ∀ n : Fin 16, evEnabled s n.val = true)
    ∧ (let k := { (linkIn 2).links[0] with identRun := 2, lastIdent := mkFrame [(0, 0), (8, 3)] }
      k.phase = 2 ∧ k.identRun = 2 ∧ sameIdent (mkFrame [(0, 0), (8, 4)]) k.lastIdent = true
        ∧ ulValid true [0] (mkFrame [(0, 0), (8, 4)]) = true)
    ∧ ((linkIn 3).links[0].phase = 3 ∧ ulValid true [0] (mkFrame [(56, 5)]) = true
      ∧ (ulStraps (mkFrame [(56, 5)])).toNat ≠ (0 : Fin 8).val) := by decide +kernel

theorem witness_RowFrames : idle.nv.chains = [] ∧ idle.cm.running = none ∧ Instr.tonElapsed 0 ∈ [Instr.tonElapsed 0]
    ∧ blockInRun 0 idle = none := ⟨rfl, rfl, by simp, rfl⟩

/-! ### Ports -/

/-- A SYNC frame, a START frame with word 127, a SEED frame and a RUN frame of scan n with given codes. -/
def syncFrame : Frame := mkFrame [(0, 0), (8, 3)]
def startFrame : Frame := mkFrame [(0, 1), (8, 3), (144, 0x7F), (152, 77)]
def seedFrame : Frame := mkFrame [(0, 2), (8, 3), (16, 99), (80, 5), (112, 2)]
def runFrameOf (scan code : Nat) : Frame := mkFrame [(0, 3), (8, 33), (16, scan), (40, code), (144, 0xFF)]

theorem witness_PortFrames : Instr.portReset 0 true ∈ [Instr.portReset 0 true] := by simp

theorem witness_PortLink_start : dlValid true 0 [0] syncFrame = true ∧ dlValid true 0 [1] startFrame = true
    ∧ (dlParamAddr startFrame).toNat < 128 ∧ dlValid true 0 [2] seedFrame = true ∧ sameSeed seedFrame seedFrame = true
    ∧ identPort.fitted = true ∧ identPort.straps = 0 ∧ identPort.phase = .ident
    ∧ ({ identPort with phase := .locking, syncRun := 2 } : PortSt).syncRun = 2
    ∧ 2 ≤ ({ identPort with seedRun := 2, seedLast := seedFrame } : PortSt).seedRun := by decide +kernel

theorem witness_PortLink_run : let on := runFrameOf 8 (onCode 5 8 0).toNat
    let off := runFrameOf 8 0
    let skip := runFrameOf 9 0
    seededPort.fitted = true ∧ seededPort.phase = .seeded ∧ seededPort.gotRun = true ∧ seededPort.chanEn 0 = true
      ∧ (dlValid true seededPort.straps [3] on = true ∧ 128 ≤ (dlParamAddr on).toNat ∧ seededPort.scanStep on = 1
        ∧ dlCode on 0 = onCode seededPort.seed (seededPort.scanX + 1) 0 ∧ seededPort.mayClose 0 = true)
      ∧ (dlValid true seededPort.straps [3] off = true ∧ 128 ≤ (dlParamAddr off).toNat ∧ seededPort.scanStep off = 1
        ∧ dlCode off 0 ≠ onCode seededPort.seed (seededPort.scanX + 1) 0)
      ∧ (dlValid true seededPort.straps [3] skip = true ∧ 1 < (seededPort.scanStep skip).toNat)
      ∧ dlValid false seededPort.straps [3] on = false ∧ ({ seededPort with badRun := 3 } : PortSt).badRun = 3 := by decide +kernel

/-- Both brakes of the seeded port enabled, BR1 in a given state. -/
def brakePort (x : ChanSt) : PortSt :=
  { chanPort 4 x with words := (portWords0.set 0x44 3).set 0x45 3 }

theorem witness_PortLink_brakes : let frame (bits scan : Nat) := mkFrame [(0, 3), (8, 33), (16, scan), (136, bits), (144, 0xFF),
        (104, (onCode 5 8 4).toNat)]
    let fresh := brakePort { ChanSt.new with onPassed := true }
    let held := brakePort { ChanSt.new with onPassed := true, closed := true, brake := .release }
    fresh.fitted = true ∧ fresh.powered = true ∧ fresh.chanEn 4 = true ∧ fresh.mayClose 4 = true ∧ (fresh.chan 4).brake = .off
      ∧ (dlValid true fresh.straps [3] (frame 1 8) = true ∧ fresh.scanStep (frame 1 8) = 1
        ∧ (BrState.ofBits (dlBrake (frame 1 8) 0)).energised = true ∧ dlCode (frame 1 8) 4 = onCode fresh.seed (fresh.scanX + 1) 4)
      ∧ dlCode (runFrameOf 8 0) 4 ≠ onCode fresh.seed (fresh.scanX + 1) 4
      ∧ BrState.ofBits (dlBrake (frame 0 8) 0) = .off
      ∧ (BrState.ofBits (dlBrake (frame 3 8) 0) = .clamp ∧ (held.chan 4).brake.energised = true)
      ∧ dlCode (runFrameOf 9 0) 0 ≠ onCode fresh.seed (fresh.scanX + 2) 0
      ∧ ({ fresh with powered := false } : PortSt).powered = false := by decide +kernel

theorem witness_PortLink_stale : ((chanPort 0 { ChanSt.new with closed := true }).chan 0).closed = true
    ∧ ((chanPort 0 { ChanSt.new with closed := true }).chan 0).portOpen = false ∧ identPort.phase ≠ .seeded
    ∧ (let p := { chanPort 0 { ChanSt.new with closed := true } with scanAge := 1000 }
      p.staleAfter < p.scanAge ∧ p.phase = .seeded ∧ (p.chan 0).closed = true ∧ (p.chan 0).portOpen = false)
    ∧ seededPort.scanAge ≤ seededPort.staleAfter := by decide +kernel

theorem witness_PortLink_pair : let f := mkFrame [(0, 1), (8, 3), (144, 1), (152, 13)]
    let p := { identPort with words := portWords0 }
    let p := { p with words := p.words.set 0 13 }
    let r := { p with words := p.words.set 1 13 }
    dlValid true p.straps [1] f = true ∧ (dlParamAddr f).toNat = 1 ∧ dlParamData f = 13 ∧ r.pairShares 0 = true := by decide +kernel

theorem witness_PortWords : identPort.phase = .ident ∧ seededPort.phase = .seeded ∧ seededPort.gotRun = true
    ∧ ({ seededPort with phaseLo := some 3 } : PortSt).phaseLo = some 3 ∧ seededPort.used 0 = true ∧ seededPort.srcOf 0 ≠ 0
    ∧ ((1 : Half).setWidth 8).getLsbD (seededPort.srcOf 0 - 1) = true ∧ seededPort.phaseLo = none
    ∧ (seededPort.chan 4).brake ≠ .clamp ∧ ((chanPort 4 { ChanSt.new with brake := .clamp }).chan 4).brake = .clamp := by decide

/-- 24 V at the pin, and nothing. -/
def on24 : InputRead := ⟨24000, 3000⟩
def dark0 : DarkTick := ⟨0, List.replicate 16 InputRead.none⟩
def lit24 : DarkTick := ⟨0, List.replicate 16 on24⟩
def pin24 : DarkTick := ⟨24000, List.replicate 16 InputRead.none⟩

/-- 24 V at 3 mA reads as 1, wherever the levels of a Type 1 input lie (Table 5-1). -/
theorem sample_on24 (prev : Bool) : sampleOf 1 prev on24 = true := by
  have h1 : offLevel 1 ≤ 14000 := by
    have := Nat.mod_lt (Config.inputLevel 1 0) (show 0 < 15000 - 5999 by decide)
    show 5000 + Config.inputLevel 1 0 % (15000 - 5999) ≤ 14000
    omega
  have h2 : onLevel 1 ≤ 15000 := by
    have := Nat.mod_lt (Config.inputLevel 1 1) (show 0 < 15000 - offLevel 1 - 999 by omega)
    show offLevel 1 + 1000 + Config.inputLevel 1 1 % (15000 - offLevel 1 - 999) ≤ 15000
    omega
  unfold sampleOf on24
  rw [if_neg (by show ¬ (3000 ≤ 500 ∨ 24000 ≤ offLevel 1); omega), if_pos (by show onLevel 1 ≤ 24000; omega)]

theorem lit24_samples (n : Nat) (prev : Bool) : darkSamples 1 0 false prev (List.replicate n lit24) = List.replicate n true := by
  induction n generalizing prev with
  | zero => rfl
  | succ n ih =>
    have h : sampleOf 1 prev (lit24.inputs[0]?.getD InputRead.none) = true := sample_on24 prev
    simp [List.replicate_succ, darkSamples, h, ih]

theorem witness_PortInputs_samples : seededPort.sampling = true ∧ seededPort.used 0 = true ∧ seededPort.inputs[0].skip = 0
    ∧ seededPort.inputs[0].blank = false ∧ seededPort.uf1Missing = false ∧ seededPort.inputs[0].latch = false
    ∧ seededPort.pairShares 0 = false ∧ seededPort.edges.length < 32 ∧ seededPort.discards = 0
    ∧ seededPort.par 0 % 4 = 1 ∧ seededPort.inputs[0].settling = false ∧ seededPort.inputs[0].accepted = !true ∧ seededPort.inputs[0].rawAge = none
    ∧ seededPort.inputs[0].runAge = none ∧ seededPort.inputs[0].backAge = none
    ∧ ({ seededPort.inputs[0] with settling := true } : InputSt).setAge = none := by decide +kernel

/-- Source 1 of port 0 owns the sub-window at the frame's start, and not the one 1 ms later. -/
theorem witness_PortInputs_pulses : seededPort.pulsing = true ∧ seededPort.sources[0].on = true
    ∧ (∀ j : Fin 8, seededPort.sources[j.val].dark = false) ∧ seededPort.maxDark 1 ≠ 0 ∧ seededPort.onSource 1 0 = true
    ∧ seededPort.pulsesMute = false
    ∧ (∃ t, seededPort.windowStarts 1 (seededPort.framePos t) = true) ∧ seededPort.windowStarts 1 (seededPort.framePos 1000) = false
    ∧ (sourcePort { SourceSt.new with on := true, shorted := true }).sources[0].shorted = true
    ∧ (sourcePort { SourceSt.new with on := true, shorted := true }).pulsing = true
    ∧ (sourcePort { SourceSt.new with on := true, shorted := true }).pulsesMute = false
    ∧ (∃ n, subWindowOwner (seededPort.windowAt (seededPort.framePos n)) ≠ ((0 : Fin 8).val, (0 : Fin 8).val + 1)) := by
  refine ⟨by decide, by decide, by decide, by decide, by decide, by decide, ?_, by decide +kernel, by decide, by decide, by decide, ?_⟩
  · exact ⟨0, by decide +kernel⟩
  · exact ⟨1000, by decide +kernel⟩

/-- A pulse that ends: the pin and the noted input of source 1 are dark, the input has not fallen, or the pin has not; and one that
does not end in the samples given. -/
theorem witness_PortInputs_ends : let q : PortSt := { seededPort with
        sources := seededPort.sources.set 0 { SourceSt.new with on := true, dark := true },
        inputs := seededPort.inputs.set 0 { InputSt.new with rawNow := true, noted := true, latch := true, cleanFrames := 1, cleanNow := 1 } }
    let y : InputSt := q.inputs[0]
    let seen (ticks : List DarkTick) := darkSamples 1 0 false y.rawNow ticks
    let ends (ticks : List DarkTick) := darkEndTick (q.maxDark 1) [firstDark 0 (seen ticks)] ticks
    q.sources[0].dark = true ∧ q.pulsesMute = false ∧ y.noted = true ∧ y.latch = true ∧ 1 ≤ y.cleanFrames ∧ 1 ≤ y.cleanNow
      ∧ q.par 0 % 4 = 1 ∧ q.uf1Missing = false ∧ q.maxDark 1 = 100
      ∧ (List.range 16).filter (fun j => q.onSource 1 j && (q.inputs[j]?.getD InputSt.new).noted) = [0]
      ∧ ends [dark0] = none ∧ (ends [dark0, dark0, dark0, dark0]).isSome = true ∧ ends (List.replicate 101 pin24) = some 100
      ∧ firstDark 0 ((seen [dark0, dark0, dark0, dark0]).take 4) ≠ none
      ∧ 5000 ≤ pin24.pinMilliVolts := by
  decide +kernel

/-- An input that stays at 1 to the end of the maximum dark time. -/
theorem witness_PortInputs_stuck : let seen := darkSamples 1 0 false true (List.replicate 101 lit24)
    darkEndTick 100 [firstDark 0 seen] (List.replicate 101 lit24) = some 100 ∧ firstDark 0 (seen.take 101) = none
      ∧ lit24.pinMilliVolts < 5000 := by
  simp only [lit24_samples]; decide +kernel

theorem witness_PortInputs_blank : ({ InputSt.new with blankEnd := some 0 } : InputSt).blankEnd = some 0 ∧ 0 ≤ idle.clock
    ∧ ({ InputSt.new with blankEnd := some 9 } : InputSt).blankEnd = some 9 ∧ idle.clock < 9 := by decide

theorem witness_PortInputs_learned : let y : InputSt := { InputSt.new with learning := true, learnData := List.replicate 64 9 }
    y.learning = true ∧ y.learnData.length = 64 ∧ y.learnReason = 0 ∧ ({ y with learnFail := 3 } : InputSt).learnReason ≠ 0 := by decide

theorem witness_PortTests_q : let p := chanPort 0 { ChanSt.new with closed := true, onPassed := true }
    let open' := chanPort 0 { ChanSt.new with asked := true }
    let off := chanPort 0 { ChanSt.new with offPending := true }
    (p.testsRun 0 = true ∧ (p.chan 0).closed = true ∧ (p.chan 0).brake ≠ .holdPwm ∧ (p.chan 0).asked = false
        ∧ p.offTurn 0 0 = false ∧ p.offTurn 100000000 0 = true)
      ∧ (open'.testsRun 0 = true ∧ open'.gotRun = true ∧ (open'.chan 0).closed = false ∧ (open'.chan 0).brake = .off
        ∧ (open'.chan 0).offPending = false ∧ (open'.chan 0).asked = true ∧ open'.onTurn 0 0 = false)
      ∧ (off.testsRun 0 = true ∧ (off.chan 0).offPending = true)
      ∧ onReason { lowVolt := true, lowCurr := true, highVolt := true, highCurr := true } = 0
      ∧ onReason { lowVolt := false, lowCurr := true, highVolt := true, highCurr := true } ≠ 0 := by decide

theorem witness_PortTests_br : let rel := chanPort 4 { ChanSt.new with closed := true, brake := .release, pullIn := true }
    let pwm := chanPort 4 { ChanSt.new with closed := true, brake := .holdPwm }
    (rel.phase ≠ .silent ∧ (rel.chan 4).brake = .release ∧ (rel.chan 4).pullIn = true)
      ∧ ((chanPort 4 { ChanSt.new with brake := .clamp }).chan 4).brake = .clamp
      ∧ (pwm.testsRun 4 = true ∧ (pwm.chan 4).brake = .holdPwm) ∧ pwm.chanEn 4 = true := by decide

theorem witness_PortSupplies : let q : PortSt := { chanPort 0 { ChanSt.new with closed := true } with aux := 3 }
    q.phase ≠ .silent ∧ (q.chan 0).closed = true ∧ (1 : BitVec 4) &&& q.aux ≠ 0 ∧ q.ctExpired = false ∧ q.uf2Out = false
      ∧ q.auxShed = false ∧ q.shutdown = false ∧ q.par 0x52 < (81 : Byte).toNat ∧ (80 : Byte).toNat ≤ q.par 0x52
      ∧ ({ q with overloaded := true } : PortSt).overloaded = true ∧ q.hot = false ∧ q.uf1Missing = false
      ∧ ((q.supply >>> 3).setWidth 3 : BitVec 3).getLsbD 0 = false ∧ supplyFlags ((q.supply >>> 3).setWidth 3) 96 = (q.supply >>> 3).setWidth 3 := by
  decide

/-! ### Strip and marionette port -/

/-- A pause holds a line that has not begun; a jam gates a printer that is enabled. -/
theorem witness_Strip_held : (let s : State := { lineUnderWay with
        set := { lineUnderWay.set with paused := true }, wp := { lineUnderWay.wp with dotLine := 0 } }
      printing s = true ∧ s.wp.gated = false ∧ s.wp.jamWait = false ∧ s.set.paused = true ∧ s.wp.line = some .resume ∧ s.wp.dotLine = 0
        ∧ s.wp.late = false ∧ s.wp.reprint = false)
    ∧ (let s : State := { jammed with set := lineUnderWay.set }
      live s = true ∧ s.set.printEnable = true ∧ s.wp.gated = true ∧ s.wp.jamWait = true)
    ∧ (let s : State := { jammed with set := lineUnderWay.set, wp := { jammed.wp with jamWait := false } }
      live s = true ∧ s.set.printEnable = true ∧ s.wp.gated = true ∧ s.wp.jamWait = false)
    ∧ lineUnderWay.set.printEnable = true ∧ 0 < lineUnderWay.wp.dotLine := by decide

theorem witness_Strip_open : JournalOpen lineUnderWay := by unfold JournalOpen; decide

theorem witness_Strip : (printing lineUnderWay = true ∧ lineUnderWay.wp.gated = false ∧ lineUnderWay.wp.jamWait = false
      ∧ lineUnderWay.db.coreHalted = false ∧ lineUnderWay.set.paused = false)
    ∧ (let s : State := { lineUnderWay with wp := Printer.new }
      printing s = true ∧ s.wp.line = none ∧ (nextLine s).isSome = true)
    ∧ (lineUnderWay.wp.line = some .resume ∧ lineUnderWay.wp.rendered = true ∧ lineUnderWay.wp.late = false
      ∧ lineUnderWay.wp.motorOn = true ∧ lineUnderWay.wp.warm = 0 ∧ lineUnderWay.wp.softSkip = false ∧ lineUnderWay.wp.dotLine < 27)
    ∧ (live idle = true ∧ idle.set.printEnable = false)
    ∧ ({ lineUnderWay with wp := { lineUnderWay.wp with rendered := false } } : State).wp.rendered = false
    ∧ ((4 : BitVec 3) ≠ 0 ∧ idle.wp.gated = false) ∧ (live jammed = true ∧ jammed.wp.gated = true ∧ jammed.wp.jamWait = true)
    ∧ (live idle = true ∧ ({ Printer.new with gated := true } : Printer).jamWait = false) := by decide

/-- A late line is blank and binds nothing; one whose energy is spent is bound. -/
theorem witness_Strip_binds : heatBinds 0 (List.replicate 200 50000) = true ∧ heatBinds 0 [] = false := by decide +kernel

/-- An element that has fired 32 times in the window binds a dot line that would fire it. -/
theorem witness_DutyLimit_binds : dutyBinds [true] (List.replicate 32 [true]) = true ∧ dutyBinds [true] (List.replicate 31 [true]) = false := by
  decide

theorem witness_ProbeRefusals : live State.reset = false ∧ live idle = true ∧ debugDisabled idle = false ∧ (0 : Byte) ≠ probeCrc 0x01 0 none
    ∧ probeLocked locked = true ∧ live locked = true ∧ debugDisabled locked = false
    ∧ debugDisabled { idle with fu := { Fuses.new with safecfg := 1 } } = true := by decide +kernel

theorem witness_Probe : live idle = true ∧ debugDisabled idle = false ∧ locked.db.challenge = some 0x0102030405060708
    ∧ (1 : Word).toNat ≤ 1 ∧ idle.db.challenge = none ∧ (6 : Word).toNat < 7 ∧ probeLocked idle = false
    ∧ (0x4000103C : Word) = BitVec.ofNat 32 (0x40001020 + 4 * (7 : Fin 8).val) ∧ (3 : Word).toNat % 4 ≠ 0 ∧ haltAllowed idle = true
    ∧ (halted.db.coreHalted = true ∧ halted.nv.chains = [] ∧ halted.cm.buffer = none ∧ halted.dev.heldState = .stop
      ∧ live halted = true ∧ debugDisabled halted = false ∧ probeLocked halted = false)
    ∧ (0 < 4096 ∧ (0x60003FFC : Word) = BitVec.ofNat 32 (0x60000000 + 4 * 4095)) ∧ halted.en.haltedRun = false
    ∧ (haltedRun.dev.heldState = .run ∧ haltedRun.dev.faultCode ≠ 0x01) ∧ idle.db.coreHalted = false ∧ idle.dev.dvState = .stop
    ∧ inRun.dev.dvState ≠ .stop ∧ (dry.en.debug = true ∧ dry.en.image = some (imageOf andBlock)
      ∧ (imageOf andBlock).order[dry.en.dryStep]? = some 0 ∧ (imageOf andBlock).blocks[0]? = some andBlock)
    ∧ idle.en.debug = false ∧ idle.dev.phase = .running := by decide

theorem witness_Probe_open : JournalOpen locked := by unfold JournalOpen; decide

/-- The response that a challenge asks for can be given: its words are what the probe sends. -/
theorem witness_Probe_response : ∃ ws : Vector Word 8, ws.toList.flatMap bytes4 ≠ expectedResponse 1 locked :=
  ⟨Vector.replicate 8 0, by decide +kernel⟩

theorem witness_DebugEvents : haltAllowed armedBreak = true ∧ debugDisabled armedBreak = false ∧ breakArmed none 0x100 armedBreak = true
    ∧ probeLocked armedBreak = false ∧ (inBoot (at' .verify) = true ∧ live (at' .verify) = true ∧ debugDisabled (at' .verify) = false
      ∧ probeLocked (at' .verify) = false) ∧ breakArmed none 0x104 armedBreak = false ∧ armedBreak.dev.phase = .running
    ∧ armedBreak.db.coreHalted = false ∧ (inPhase .dormant).dev.phase = .dormant
    ∧ (armedBreak.db.wpAddr[0] >>> 2 = (3 : Word) >>> 2 ∧ armedBreak.db.wpCtrl[0] = 3)
    ∧ (∀ j : Fin 4, (armedBreak.db.wpCtrl[j.val]).getLsbD 2 = false) ∧ knownCmd 0x77 = false := by decide

/-! ### A signed patch set -/

/-- A patch set without table entries, version 1.0.0.1, for a ROM of hash 0, signed with the key d = 1 and the nonce k = 1: 280 bytes,
then the signature, computed outside the model with FIPS 186-4 arithmetic. -/
def signedPatch : List Byte :=
  leBytes 344 0xd9c44beb72a391c0e2754648e886358652bf4a7f65fcc19cd1e58a77351640bc96c298d84539a1f4a033eb2d817d0377f240a463e5e6bcf847422ce1f2d1176b000000000000000000000000000000000000000000000000000000000000000000000000000000000000000000000000000000000000000000000000000000000000000000000000000000000000000000000000000000000000000000000000000000000000000000000000000000000000000000000000000000000000000000000000000000000000000000000000000000000000000000000000000000000000000000000000f551bf376840b6cbce5e316b5733ce2b169e0f7c4aebe78e9b7f1afee242e34f96c298d84539a1f4a033eb2d817d0377f240a463e5e6bcf847422ce1f2d1176b000000000000000000000000000000000000000000000000000000000000000000000000000001580100000144505331

/-- The fuses of a vendor whose key signed it: the SHA-256 digest of the key in rows 21 and 22. -/
def vendorFuses : Fuses :=
  { Fuses.new with rows := (Fuses.new.rows.set 21 ⟨0x803ebbb0c638c7ae362223ef7ddb75d8, 0⟩).set 22 ⟨0x9f0db5cbf5eed6fe24dff4d80f5d2f14, 0⟩ }

/-- In STOP, every byte of the signed patch set received. -/
def patchHeld : State :=
  { idle with fu := { vendorFuses with xfer := some (344, Memory.writeBytes [] 0 signedPatch, 2 ^ 344 - 1) } }

theorem signedPatch_passes : patchVerdict vendorFuses 0 signedPatch = 0 := by decide +kernel

theorem signedPatch_held : Memory.readBytes (Memory.writeBytes [] 0 signedPatch) 0 344 = signedPatch := by
  have h := Memory.readBytes_writeBytes signedPatch
  rwa [show signedPatch.length = 344 by decide +kernel] at h

theorem witness_FusesAndPatches_install : patchHeld.dev.dvState = .stop ∧ degraded patchHeld = false
    ∧ patchHeld.fu.xfer = some ((344 : Word).toNat, Memory.writeBytes [] 0 signedPatch, 2 ^ 344 - 1)
    ∧ patchVerdict patchHeld.fu (antiRollback patchHeld) (Memory.readBytes (Memory.writeBytes [] 0 signedPatch) 0 (344 : Word).toNat) = 0 := by
  refine ⟨rfl, by decide, rfl, ?_⟩
  rw [show (344 : Word).toNat = 344 from rfl, signedPatch_held, show antiRollback patchHeld = 0 by decide]
  exact signedPatch_passes

theorem witness_FusesAndPatches_accepts : Accepts 3 patchHeld ∧ InOrder 1 patchHeld := by unfold Accepts InOrder StoreTakes; decide

/-! ### Dot lines that wait, and the unlock -/

/-- The response words that the locked device expects for its challenge; the probe has written all eight. -/
def answered : State :=
  { locked with
    db := { locked.db with
      respWords := #v[0x8feb1f1e, 0x5d3cfc31, 0xc182f443, 0x84ed45b5, 0x5102b884, 0x486b1c99, 0xc7fa86a2, 0xdec9a2f1] } }

theorem witness_Probe_unlocks : answered.db.challenge = some 0x0102030405060708 ∧ live answered = true ∧ debugDisabled answered = false
    ∧ (answered.db.respWords.setIfInBounds 7 0xdec9a2f1).toList.flatMap bytes4 = expectedResponse 0x0102030405060708 answered := by
  decide +kernel

theorem witness_Probe_unlocks_open : JournalOpen answered := by unfold JournalOpen; decide

/-- The feed line under way fires nothing and is not bound; with the energy of the window spent, any line waits. -/
theorem witness_Strip_waits : (let w : Printer := { lineUnderWay.wp with line := some .blankFeed }
      (dutyBinds (dotsOf w) w.fired || heatBinds (lineEnergy 0 (dotsOf w) (coldDots (dotsOf w) w.lastLines)) w.energy) = false)
    ∧ ∀ e, heatBinds e (List.replicate 200 50000) = true := by
  refine ⟨by decide +kernel, fun e => ?_⟩
  have h : ((List.replicate 200 50000).take 199).sum = 9950000 := by decide +kernel
  unfold heatBinds
  rw [h]
  exact decide_eq_true (by omega)

theorem countP_replicate_full (n m i : Nat) (hi : i < n) :
    (List.replicate m (List.replicate n true)).countP (fun l => l[i]?.getD false) = m := by
  simp [List.countP_replicate, hi]

/-- Where every element has fired in all 64 slots, a line with one dot to fire waits; whether a glyph has a dot is a free value. -/
theorem witness_DutyLimit_waits (dots : List Bool) (hl : dots.length = 384) (hd : dots.any id = true) :
    dutyBinds dots (List.replicate 63 (List.replicate 384 true)) = true := by
  obtain ⟨d, hm, ht⟩ := List.any_eq_true.1 hd
  obtain ⟨i, hi, rfl⟩ := List.getElem_of_mem hm
  refine List.any_eq_true.2 ⟨_, List.mem_mapIdx.2 ⟨i, hi, rfl⟩, ?_⟩
  rw [List.take_of_length_le (by rw [List.length_replicate]), countP_replicate_full _ _ _ (hl ▸ hi)]
  exact Bool.and_eq_true_iff.2 ⟨ht, rfl⟩

theorem witness_Scan_failures : reverifying.nv.chains = [] ∧ reverifying.dev.dvState = .fault ∧ reverifying.en.reverify = true
    ∧ idle.nv.chains = [] ∧ stateRunStop idle = true ∧ inWindow (windowed idle) = true := by decide

/-! ### Examples of the spec -/

/-- The nine ASCII bytes of the check values. -/
def nine : List Byte := [0x31, 0x32, 0x33, 0x34, 0x35, 0x36, 0x37, 0x38, 0x39]

/-- R78, R223, R246, R280, R333: the check values over "123456789". -/
theorem test_crc24 : crc24 (nine.flatMap (fun b => (List.range 8).map (fun i => b.getLsbD (7 - i)))) = 0x21CF02 := by decide
theorem test_crc32c : crc32c nine = 0xE3069283 := by decide
theorem test_crc32 : crc32 nine = 0xCBF43926 := by decide
theorem test_crc16 : crc16 nine = 0x29B1 := by decide
theorem test_crc8 : crc8 nine = 0xF4 := by decide

/-- Chapter 15, worked case: the six bytes of GET_STATE on tag 0. -/
theorem test_getState_bytes : (plainPacket 0x03 0 []).raw = [0x03, 0x00, 0x00, 0x00, 0x1C, 0x1F] := by decide

/-- Chapter 7, worked case: z as the AND of x and y in scan k, and the same with bit 4 of x flipped. -/
theorem test_and : encodeWord 1 1201 0x9E3779B9 = 2654500847 ∧ encodeWord 1 40517 0x9E3779B9 = 2654540163
    ∧ andU [uOf 2654540163 40517 0x9E3779B9, uOf 2654500847 1201 0x9E3779B9] + 22093 + 0x9E3779B9 = 2654521739
    ∧ checkU .bool (uOf 2654521739 22093 0x9E3779B9) = 0 ∧ uOf 2654521755 22093 0x9E3779B9 = 63893
    ∧ checkU .bool (uOf 2654521755 22093 0x9E3779B9) = 1 := by decide

/-- Chapter 12, worked case: 310 INFO, 42 NOTICE, 5 WARNING and 2 TRIP events in a gap. -/
theorem test_gap_arg : ({ Gap.none with info := 310, notice := 42, warning := 5, trip := 2 } : Gap).arg = 0x00002005002A0136 := by decide

/-- Chapter 17, worked case: the second line of record 48,205. -/
theorem test_line2 :
    let r : Record := ⟨48205, 0, 0x73, 3, 36, 0x0501, 0x0000000001020011, 0⟩
    recordLine2 r = chBlock :: asciiOf " 36 0501 0000000001020011 L    " := by decide

end Sys2Proof.Tests
end

section
/-! PROOFS. What reaches a port (R2): its state is the field `ports`, which `updPort` alone writes. Every operation of the controller,
of the host's commands and of the probe hands the field on, one lemma for each in the order of the model; the rows of a port
change that port and the counter of free values. -/

namespace Sys2Proof.Machine

/-! ### Through branches and folds -/

@[simp] theorem ports_ite (c : Prop) [Decidable c] (s t : State) :
    (if c then s else t).ports = if c then s.ports else t.ports := apply_ite State.ports c s t
@[simp] theorem st_ite (c : Prop) [Decidable c] (r q : ExecRes) :
    (if c then r else q).st = if c then r.st else q.st := apply_ite ExecRes.st c r q

@[simp] theorem foldl_ports {α : Type} (g : State → α → State) (l : List α) (s : State)
    (h : ∀ s a, (g s a).ports = s.ports) : (l.foldl g s).ports = s.ports := by
  induction l generalizing s with
  | nil => rfl
  | cons a r ih => rw [List.foldl_cons, ih, h]

@[simp] theorem foldl_snd_ports {α β : Type} (g : β × State → α → β × State) (l : List α) (p : β × State)
    (h : ∀ p a, (g p a).2.ports = p.2.ports) : (l.foldl g p).2.ports = p.2.ports := by
  induction l generalizing p with
  | nil => rfl
  | cons a r ih => rw [List.foldl_cons, ih, h]


/-! ### Store, events and the journal writer (chapter 12) -/

@[simp] theorem countRetries_ports (b : Bool) (addr len : Nat) (s : State) :
    (countRetries b addr len s).ports = s.ports := by rw [countRetries_eq]
@[simp] theorem loseMacro_ports (b : Bool) (kind : Nat) (addr : Word) (spoilt : Option (Nat × Nat)) (s : State) :
    (loseMacro b kind addr spoilt s).ports = s.ports := by rw [loseMacro_eq]
@[simp] theorem writeFailed_ports (b : Bool) (word addr len : Nat) (s : State) :
    (writeFailed b word addr len s).ports = s.ports := by rw [writeFailed_eq]
@[simp] theorem tryParams_ports (s : State) : (tryParams s).ports = s.ports := by rw [tryParams_eq]
@[simp] theorem storedFirst_ports (s : State) : (storedFirst s).ports = s.ports := by simp [storedFirst]
@[simp] theorem noteUnreached_ports (lost : Option Record) (s : State) : (noteUnreached lost s).ports = s.ports := by
  rw [noteUnreached_eq]
@[simp] theorem commitMany_ports (n : Nat) (s : State) : (commitMany n s).ports = s.ports := by
  induction n generalizing s with
  | zero => rfl
  | succ n ih => simp [commitMany, ih]
@[simp] theorem flushJournal_ports (s : State) : (flushJournal s).ports = s.ports := by simp [flushJournal]

/-! ### Modes, faults and resets (chapters 3 and 9) -/

@[simp] theorem rejectRemote_ports (n reason : Nat) (seq : BitVec 28) (s : State) :
    (rejectRemote n reason seq s).ports = s.ports := by
  unfold rejectRemote; split <;> simp
@[simp] theorem placeFrame_ports (bytes : List Byte) (s : State) : (placeFrame bytes s).ports = s.ports := by
  simp [placeFrame]
@[simp] theorem producerSend_ports (n : Nat) (s : State) : (producerSend n s).ports = s.ports := by
  unfold producerSend; split <;> simp
@[simp] theorem sendAllDue_ports (s : State) : (sendAllDue s).ports = s.ports := by simp [sendAllDue]
@[simp] theorem dropRestarts_ports (n : Nat) (s : State) : (dropRestarts n s).ports = s.ports := by
  unfold dropRestarts
  dsimp only
  rw [foldl_ports _ _ _ (fun s q => rejectRemote_ports n 9 q s)]
  split <;> split <;> simp
@[simp] theorem endModeRequest_ports (s : State) : (endModeRequest s).ports = s.ports := by
  unfold endModeRequest; split <;> simp
@[simp] theorem noteDisagree_ports (s : State) : (noteDisagree s).ports = s.ports := by simp [noteDisagree]
@[simp] theorem leaveRun_ports (s : State) : (leaveRun s).ports = s.ports := by simp [leaveRun]
@[simp] theorem stopEngine_ports (s : State) : (stopEngine s).ports = s.ports := by simp [stopEngine]
@[simp] theorem faultEntry_ports (verify : Bool) (code detail : Byte) (s : State) :
    (faultEntry verify code detail s).ports = s.ports := by simp [faultEntry]
@[simp] theorem enterFault_ports (code detail : Byte) (s : State) : (enterFault code detail s).ports = s.ports := by
  simp [enterFault]
@[simp] theorem enterLockout_ports (why : Nat) (s : State) : (enterLockout why s).ports = s.ports := by simp [enterLockout]
@[simp] theorem codingFailure_ports (code : Byte) (check : Word) (detail : Byte) (evCode : Half) (evArg : DWord)
    (s : State) :
    (codingFailure code check detail evCode evArg s).ports = s.ports := by simp [codingFailure]
@[simp] theorem tsyncGate_ports (s : State) : (tsyncGate s).ports = s.ports := by simp [tsyncGate]
@[simp] theorem tearRecord_ports (r : Record) (s : State) : (tearRecord r s).ports = s.ports := by simp [tearRecord]
@[simp] theorem tearSlot_ports (s : State) : (tearSlot s).ports = s.ports := by simp [tearSlot]
@[simp] theorem tearWrite_ports (k : Kind) (t : Tear) (s : State) : (tearWrite k t s).ports = s.ports := by
  unfold tearWrite; (repeat' split) <;> simp
@[simp] theorem assertReset_ports (k : Kind) (byNrst : Bool) (t : Tear) (s : State) :
    (assertReset k byNrst t s).ports = s.ports := by simp [assertReset]

/-! ### Entropy (chapter 11) -/

@[simp] theorem newChallenge_ports (w : DWord) (s : State) : (newChallenge w s).ports = s.ports := by simp [newChallenge]
@[simp] theorem addDraw_ports (d : Draw) (s : State) : (addDraw d s).ports = s.ports := by simp [addDraw]
@[simp] theorem startProducer_ports (n : Fin 32) (cid : Word) (s : State) : (startProducer n cid s).ports = s.ports := by
  simp [startProducer]
@[simp] theorem deliver_ports (d : Draw) (w : DWord) (s : State) : (deliver d w s).ports = s.ports := by
  unfold deliver; split <;> simp
@[simp] theorem serve_ports (n : Nat) (s : State) : (serve n s).ports = s.ports := by
  induction n generalizing s with
  | zero => rfl
  | succ n ih => unfold serve; split <;> simp [ih]
@[simp] theorem serveAll_ports (s : State) : (serveAll s).ports = s.ports := by simp [serveAll]
@[simp] theorem failDraw_ports (d : Draw) (s : State) : (failDraw d s).ports = s.ports := by
  unfold failDraw; split <;> simp
@[simp] theorem request_ports (d : Draw) (s : State) : (request d s).ports = s.ports := by
  unfold request; split <;> simp
@[simp] theorem requestLoad_ports (s : State) : (requestLoad s).ports = s.ports := by simp [requestLoad]
@[simp] theorem requestProducer_ports (n : Fin 32) (s : State) : (requestProducer n s).ports = s.ports := by
  simp [requestProducer]
@[simp] theorem producerStart_ports (n : Fin 32) (s : State) : (producerStart n s).ports = s.ports := by simp [producerStart]
@[simp] theorem drawAgain_ports (s : State) : (drawAgain s).ports = s.ports := by simp [drawAgain]
@[simp] theorem healthFail_ports (test : Nat) (s : State) : (healthFail test s).ports = s.ports := by simp [healthFail]
@[simp] theorem finishRetest_ports (status : Byte) (s : State) : (finishRetest status s).ports = s.ports := by
  unfold finishRetest; split <;> simp
@[simp] theorem startupTestDone_ports (raw : List Bool) (s : State) : (startupTestDone raw s).ports = s.ports := by
  unfold startupTestDone
  split
  · split
    · dsimp only; split <;> simp
    · simp
  · rfl
@[simp] theorem entropyWord_ports (w : DWord) (s : State) : (entropyWord w s).ports = s.ports := by simp [entropyWord]
@[simp] theorem entropyBlock_ports (raw : List Bool) (s : State) : (entropyBlock raw s).ports = s.ports := by
  simp [entropyBlock]
@[simp] theorem entropyBits_ports (raw : List Bool) (s : State) : (entropyBits raw s).ports = s.ports := by
  unfold entropyBits; split <;> simp
@[simp] theorem entropyRetest_ports (s : State) : (entropyRetest s).2.ports = s.ports := by
  unfold entropyRetest; split <;> simp

/-! ### Time base (chapter 2) -/

@[simp] theorem applyLeap_ports (s : State) : (applyLeap s).ports = s.ports := by simp [applyLeap]
@[simp] theorem setQuality_ports (q : Quality) (s : State) : (setQuality q s).ports = s.ports := by simp [setQuality]
@[simp] theorem judgeLock_ports (s : State) : (judgeLock s).ports = s.ports := by simp [judgeLock]
@[simp] theorem stepCounter_ports (d : Int) (s : State) : (stepCounter d s).ports = s.ports := by simp [stepCounter]
@[simp] theorem slew_ports (s : State) : (slew s).ports = s.ports := by simp [slew]
@[simp] theorem dropLock_ports (s : State) : (dropLock s).ports = s.ports := by simp [dropLock]
@[simp] theorem discipline_ports (irig acquired : Bool) (err : Int) (s : State) :
    (discipline irig acquired err s).ports = s.ports := by simp [discipline]
@[simp] theorem crossCheck_ports (counts : Nat) (s : State) : (crossCheck counts s).ports = s.ports := by simp [crossCheck]
@[simp] theorem noteCheck_ports (s : State) : (noteCheck s).ports = s.ports := by simp [noteCheck]
@[simp] theorem applyTimeSet_ports (tai : DWord) (offset : Half) (flags : Byte) (s : State) :
    (applyTimeSet tai offset flags s).ports = s.ports := by simp [applyTimeSet]
@[simp] theorem pendingTimeSet_ports (s : State) : (pendingTimeSet s).ports = s.ports := by
  unfold pendingTimeSet; split <;> simp
@[simp] theorem ppsPoint_ports (counts frac : Nat) (s : State) : (ppsPoint counts frac s).ports = s.ports := by
  simp [ppsPoint]
@[simp] theorem ppsEdge_ports (counts frac : Nat) (s : State) : (ppsEdge counts frac s).ports = s.ports := by simp [ppsEdge]
@[simp] theorem ppsMissing_ports (s : State) : (ppsMissing s).ports = s.ports := by simp [ppsMissing]
@[simp] theorem sourceLost_ports (irig : Bool) (s : State) : (sourceLost irig s).ports = s.ports := by simp [sourceLost]
@[simp] theorem irigPoint_ports (utc : Int) (frac : Nat) (s : State) : (irigPoint utc frac s).ports = s.ports := by
  simp [irigPoint]
@[simp] theorem irigFrame_ports (f : IrigFrame) (frac : Nat) (s : State) : (irigFrame f frac s).ports = s.ports := by
  simp [irigFrame]
@[simp] theorem holdoverExpired_ports (s : State) : (holdoverExpired s).ports = s.ports := by simp [holdoverExpired]
@[simp] theorem leapSecond_ports (s : State) : (leapSecond s).ports = s.ports := by simp [leapSecond]
@[simp] theorem selectSource_ports (src : BitVec 2) (s : State) : (selectSource src s).ports = s.ports := by
  simp [selectSource]
@[simp] theorem countMinutes_ports (n : Nat) (s : State) : (countMinutes n s).ports = s.ports := by simp [countMinutes]
@[simp] theorem passTime_ports (n : Nat) (s : State) : (passTime n s).ports = s.ports := by simp [passTime]
@[simp] theorem tsyncRise_ports (s : State) : (tsyncRise s).ports = s.ports := by simp [tsyncRise]
@[simp] theorem tsyncFall_ports (s : State) : (tsyncFall s).ports = s.ports := by simp [tsyncFall]

/-! ### Svaent frames (chapter 11) -/

@[simp] theorem queueIn_ports (b : List Byte) (s : State) : (queueIn b s).ports = s.ports := by simp [queueIn]
@[simp] theorem loseIn_ports (s : State) : (loseIn s).ports = s.ports := by simp [loseIn]
@[simp] theorem judgeRR_ports (n : Nat) (f : SflFrame) (s : State) : (judgeRR n f s).ports = s.ports := by
  unfold judgeRR; (repeat' split) <;> simp
@[simp] theorem connLost_ports (n reason : Nat) (was : ConsSt) (s : State) : (connLost n reason was s).ports = s.ports := by
  simp [connLost]
@[simp] theorem judgeSeq_ports (n : Nat) (f : SflFrame) (age : Word) (s : State) : (judgeSeq n f age s).ports = s.ports := by
  unfold judgeSeq; dsimp only; split <;> simp
@[simp] theorem judgeFrame_ports (b : List Byte) (s : State) : (judgeFrame b s).ports = s.ports := by
  unfold judgeFrame
  split
  · rfl
  · dsimp only; split <;> simp
@[simp] theorem expire_ports (n : Nat) (s : State) : (expire n s).ports = s.ports := by
  unfold expire; split <;> simp
@[simp] theorem takeIn_ports (s : State) : (takeIn s).ports = s.ports := by
  unfold takeIn; dsimp only; split <;> simp
@[simp] theorem connWatchdog_ports (n : Nat) (s : State) : (connWatchdog n s).ports = s.ports := by
  unfold connWatchdog; split <;> simp
@[simp] theorem takeOut_ports (n : Nat) (s : State) : (takeOut n s).2.ports = s.ports := by simp [takeOut]

/-! ### Store rows and recovery (chapter 12) -/

@[simp] theorem readBack_ports (b : Bool) (n addr len : Nat) (s : State) : (readBack b n addr len s).ports = s.ports := by
  simp [readBack]
@[simp] theorem writeWith_ports (nvaFails nvbFails : Nat) (f : State → State) (s : State) (hf : ∀ s, (f s).ports = s.ports) :
    (writeWith nvaFails nvbFails f s).ports = s.ports := by simp [writeWith, hf]
@[simp] theorem journalCommit_ports (nvaFails nvbFails : Nat) (s : State) :
    (journalCommit nvaFails nvbFails s).ports = s.ports := by simp [journalCommit]
@[simp] theorem journalGap_ports (nvaFails nvbFails : Nat) (s : State) :
    (journalGap nvaFails nvbFails s).ports = s.ports := by simp [journalGap]
@[simp] theorem noteWear_ports (wear : List (Bool × Nat × Nat)) (s : State) : (noteWear wear s).ports = s.ports := by
  simp [noteWear]
@[simp] theorem parameterRecord_ports (n : Nat) (s : State) : (parameterRecord n s).ports = s.ports := by
  simp [parameterRecord]
@[simp] theorem check50_ports (s : State) : (check50 s).ports = s.ports := by simp [check50]
@[simp] theorem journalAck_ports (a : Word) (s : State) : (journalAck a s).2.ports = s.ports := by
  simp [journalAck, apply_ite Prod.snd]
@[simp] theorem countRecovered_ports (s : State) : (countRecovered s).ports = s.ports := by simp [countRecovered]
@[simp] theorem recoverRecord_ports (r : Record) (s : State) : (recoverRecord r s).ports = s.ports := by simp [recoverRecord]
@[simp] theorem putRing_ports (c : Chain) (part : Nat) (s : State) : (putRing c part s).ports = s.ports := by simp [putRing]
@[simp] theorem recoverEntry_ports (c : Chain) (part : Nat) (s : State) : (recoverEntry c part s).ports = s.ports := by
  simp [recoverEntry]
@[simp] theorem recoverJournal_ports (s : State) : (recoverJournal s).ports = s.ports := by
  unfold recoverJournal; dsimp only; split <;> simp
@[simp] theorem loseEntry_ports (off : Nat) (s : State) : (loseEntry off s).ports = s.ports := by simp [loseEntry]
@[simp] theorem recoverCopy_ports (usable : Bool → Bool) (bad : List (Bool × Nat)) (s : State) (x : Bool × Nat) :
    (recoverCopy usable bad s x).ports = s.ports := by simp [recoverCopy]
@[simp] theorem recoverCopies_ports (usable : Bool → Bool) (bad : List (Bool × Nat)) (s : State) :
    (recoverCopies usable bad s).ports = s.ports := by simp [recoverCopies]
@[simp] theorem noteRecovered_ports (s : State) : (noteRecovered s).ports = s.ports := by simp [noteRecovered]

/-! ### Host bus (chapter 13) -/

@[simp] theorem refuseAccess_ports (s : State) : (refuseAccess s).ports = s.ports := by simp [refuseAccess]
@[simp] theorem readCmd_ports (clocked : Nat) (s : State) : (readCmd clocked s).ports = s.ports := by
  unfold readCmd
  split
  · dsimp only; split <;> simp
  · simp
@[simp] theorem clearCauses_ports (s : State) : (clearCauses s).ports = s.ports := by simp [clearCauses]
@[simp] theorem readStat_ports (clocked : Nat) (s : State) : (readStat clocked s).ports = s.ports := by simp [readStat]
@[simp] theorem refuseFrame_ports (s : State) : (refuseFrame s).ports = s.ports := by simp [refuseFrame]
@[simp] theorem takeFrames_ports (n : Nat) (bytes : List Byte) (s : State) :
    (takeFrames n bytes s).ports = s.ports := by
  induction n generalizing bytes s with
  | zero => simp [takeFrames]
  | succ n ih => simp [takeFrames, ih]
@[simp] theorem writeSfl_ports (bytes : List Byte) (s : State) : (writeSfl bytes s).ports = s.ports := by simp [writeSfl]
@[simp] theorem readSfl_ports (clocked : Nat) (s : State) : (readSfl clocked s).ports = s.ports := by simp [readSfl]
@[simp] theorem writeJrnl_ports (bytes : List Byte) (s : State) : (writeJrnl bytes s).ports = s.ports := by simp [writeJrnl]
@[simp] theorem readJrnl_ports (clocked : Nat) (s : State) : (readJrnl clocked s).ports = s.ports := by simp [readJrnl]
@[simp] theorem attentionPeriod_ports (s : State) : (attentionPeriod s).ports = s.ports := by simp [attentionPeriod]
@[simp] theorem attentionTry_ports (r : BusResult) (s : State) : (attentionTry r s).ports = s.ports := by
  unfold attentionTry; split <;> simp
@[simp] theorem attentionWrite_ports (r : BusResult) (s : State) : (attentionWrite r s).ports = s.ports := by
  simp [attentionWrite]
@[simp] theorem attentionRetry_ports (r : BusResult) (s : State) : (attentionRetry r s).ports = s.ports := by
  simp [attentionRetry]
@[simp] theorem stretchTimeout_ports (s : State) : (stretchTimeout s).ports = s.ports := by simp [stretchTimeout]
@[simp] theorem targetTimeout_ports (s : State) : (targetTimeout s).ports = s.ports := by simp [targetTimeout]
@[simp] theorem lineHeldLow_ports (s : State) : (lineHeldLow s).ports = s.ports := by simp [lineHeldLow]
@[simp] theorem hostSilence_ports (s : State) : (hostSilence s).ports = s.ports := by simp [hostSilence]

/-! ### Witness strip (chapter 17) -/

@[simp] theorem beginLine_ports (k : LineKind) (due : Bool) (s : State) : (beginLine k due s).ports = s.ports := by
  simp [beginLine]
@[simp] theorem lineDone_ports (k : LineKind) (s : State) : (lineDone k s).ports = s.ports := by
  unfold lineDone; (repeat' split) <;> simp
@[simp] theorem endLine_ports (s : State) : (endLine s).ports = s.ports := by
  unfold endLine; split <;> simp
@[simp] theorem noteLate_ports (k : LineKind) (s : State) : (noteLate k s).ports = s.ports := raise_ports ..
@[simp] theorem noteStarted_ports (k : LineKind) (s : State) : (noteStarted k s).ports = s.ports := by simp [noteStarted]
@[simp] theorem dotLine_ports (k : LineKind) (s : State) : (dotLine k s).ports = s.ports := by
  unfold dotLine
  dsimp only; (repeat' split) <;> simp
@[simp] theorem startMotor_ports (s : State) : (startMotor s).ports = s.ports := by simp [startMotor]
@[simp] theorem lineSlotOf_ports (k : LineKind) (s : State) : (lineSlotOf k s).ports = s.ports := by simp [lineSlotOf]
@[simp] theorem stripOff_ports (s : State) : (stripOff s).ports = s.ports := by simp [stripOff]
@[simp] theorem lineSlot_ports (s : State) : (lineSlot s).ports = s.ports := by
  unfold lineSlot
  split
  · rfl
  · dsimp only; (repeat' split) <;> simp
@[simp] theorem lineRendered_ports (s : State) : (lineRendered s).ports = s.ports := by
  unfold lineRendered; (repeat' split) <;> simp
@[simp] theorem printerGated_ports (sensors : BitVec 3) (s : State) : (printerGated sensors s).ports = s.ports := by
  simp [printerGated]
@[simp] theorem endGating_ports (s : State) : (endGating s).ports = s.ports := by simp [endGating]
@[simp] theorem printerReady_ports (s : State) : (printerReady s).ports = s.ports := by simp [printerReady]
@[simp] theorem printResume_ports (s : State) : (printResume s).ports = s.ports := by simp [printResume]
@[simp] theorem printFeed_ports (csn : Word) (n : Nat) (s : State) : (printFeed csn n s).ports = s.ports := by
  simp [printFeed]
@[simp] theorem motorDisable_ports (s : State) : (motorDisable s).ports = s.ports := by simp [motorDisable]

/-! ### Host register file (chapter 15) -/

@[simp] theorem readReg_ports (i : Nat) (s : State) : (readReg i s).2.ports = s.ports := by
  simp [readReg, apply_ite Prod.snd]
@[simp] theorem readRegs_ports (step n i : Nat) (s : State) : (readRegs step n i s).2.ports = s.ports := by
  induction n generalizing i s with
  | zero => rfl
  | succ n ih => simp [readRegs, ih]
@[simp] theorem enableCauses_ports (en : Byte) (s : State) : (enableCauses en s).ports = s.ports := by simp [enableCauses]
@[simp] theorem holdSnapshot_ports (h : Bool) (s : State) : (holdSnapshot h s).ports = s.ports := by simp [holdSnapshot]
@[simp] theorem writeTbCtrl_ports (w : Word) (s : State) : (writeTbCtrl w s).ports = s.ports := by simp [writeTbCtrl]
@[simp] theorem writeWpCtrl_ports (w : Word) (s : State) : (writeWpCtrl w s).ports = s.ports := by simp [writeWpCtrl]
@[simp] theorem putReg_ports (i : Nat) (w : Word) (s : State) : (putReg i w s).ports = s.ports := by
  unfold putReg; (repeat' split) <;> simp
@[simp] theorem clearReg_ports (i : Nat) (bits : Word) (s : State) : (clearReg i bits s).ports = s.ports := by
  simp [clearReg]
@[simp] theorem applyWrite_ports (e : RegWrite) (s : State) : (applyWrite e s).ports = s.ports := by simp [applyWrite]
theorem applyWrites_ports {l : List RegWrite} {s t : State} (h : applyWrites l s = some t) : t.ports = s.ports := by
  induction l generalizing s with
  | nil => cases h; rfl
  | cons e r ih =>
    unfold applyWrites at h
    split at h
    · rw [ih h, applyWrite_ports]
    · cases h
@[simp] theorem writeRegs_ports (l : List RegWrite) (s : State) : (writeRegs l s).2.2.ports = s.ports := by
  unfold writeRegs
  split
  next t h => exact (noteSettings_ports t).trans (applyWrites_ports h)
  next => rfl

/-! ### Logic engine (chapters 7 to 10) -/

@[simp] theorem raiseBlk_ports (im : Image) (ix : Nat) (b : Block) (evs : List BlkEvent) (s : State) :
    (raiseBlk im ix b evs s).ports = s.ports := by simp [raiseBlk]
@[simp] theorem takeModesel_ports (im : Image) (ix : Nat) (b : Block) (r : ModeRes) (s : State) :
    (takeModesel im ix b r s).ports = s.ports := by simp [takeModesel]
@[simp] theorem answerMode_ports (r : ModeRes) (s : State) : (answerMode r s).ports = s.ports := by
  unfold answerMode; split <;> simp
@[simp] theorem applyModesel_ports (im : Image) (ix : Nat) (b : Block) (r : ModeRes) (s : State) :
    (applyModesel im ix b r s).ports = s.ports := by simp [applyModesel]
@[simp] theorem takeRestart_ports (mode : Mode) (ix : Nat) (b : Block) (s : State) :
    (takeRestart mode ix b s).ports = s.ports := by
  unfold takeRestart; dsimp only; split <;> simp
@[simp] theorem clearBrake_ports (i : Nat) (s : State) : (clearBrake i s).ports = s.ports := by simp [clearBrake]
@[simp] theorem reportBlk_ports (im : Image) (ix : Nat) (b : Block) (r : BlkRes) (s : State) :
    (reportBlk im ix b r s).ports = s.ports := by simp [reportBlk]
@[simp] theorem runBlock_ports (im : Image) (dOld d k : Word) (mode : Mode) (ix : Nat) (p : Work × State) :
    (runBlock im dOld d k mode ix p).2.ports = p.2.ports := by
  unfold runBlock
  split
  · rfl
  · split <;> simp
@[simp] theorem clearFolds_ports (s : State) : (clearFolds s).ports = s.ports := by simp [clearFolds]
@[simp] theorem scanFailure_ports (signal kind block : Nat) (k : Word) (s : State) :
    (scanFailure signal kind block k s).ports = s.ports := by simp [scanFailure]
@[simp] theorem noteRefused_ports (b : OutBind) (on : Bool) (s : State) : (noteRefused b on s).ports = s.ports := by
  simp [noteRefused]
@[simp] theorem putCode_ports (b : OutBind) (k : Word) (x : Sent) (s : State) : (putCode b k x s).ports = s.ports := by
  simp [putCode]
@[simp] theorem publishBind_ports (im : Image) (d k : Word) (words : List Word) (old : Option (List Word))
    (ix : Nat) (b : OutBind) (s : State) :
    (publishBind im d k words old ix b s).ports = s.ports := by simp [publishBind]
@[simp] theorem handoverEvents_ports (before : List Nat) (s : State) : (handoverEvents before s).ports = s.ports := by
  simp [handoverEvents]
@[simp] theorem publishAux_ports (im : Image) (d : Word) (words : List Word) (s : State) :
    (publishAux im d words s).ports = s.ports := by simp [publishAux]
@[simp] theorem publishSnap_ports (v : Snapshot) (s : State) : (publishSnap v s).ports = s.ports := by simp [publishSnap]
@[simp] theorem markProducer_ports (im : Image) (d : Word) (words : List Word) (old : Option (List Word))
    (rose : Bool) (b : Block) (s : State) :
    (markProducer im d words old rose b s).ports = s.ports := by
  unfold markProducer; dsimp only; split <;> simp
@[simp] theorem idleCodes_ports (k : Word) (s : State) : (idleCodes k s).ports = s.ports := by simp [idleCodes]
@[simp] theorem publish_ports (im : Image) (d k : Word) (w : Work) (old : Option (List Word)) (execUs : Half) (s : State) :
    (publish im d k w old execUs s).ports = s.ports := by
  unfold publish
  dsimp only
  rw [foldl_ports, publishSnap_ports, publishAux_ports, handoverEvents_ports, foldl_ports, idleCodes_ports]
  · intro s i; split <;> simp
  · intro s i; split <;> simp
@[simp] theorem scanStart_ports (s : State) : (scanStart s).ports = s.ports := by simp [scanStart]
@[simp] theorem scanFold_ports (e : ScanEnv) (im : Image) (mode : Mode) (s : State) :
    (scanFold e im mode s).2.ports = s.ports := by simp [scanFold]
@[simp] theorem scanEval_ports (e : ScanEnv) (im : Image) (s : State) : (scanEval e im s).2.ports = s.ports := by
  simp [scanEval]
@[simp] theorem scanPublish_ports (e : ScanEnv) (im : Image) (s : State) (w : Work) (after : State) :
    (scanPublish e im s w after).ports = after.ports := by simp [scanPublish]
@[simp] theorem scanFailed_ports (f : Nat × Nat × Nat) (s : State) (w : Work) (after : State) :
    (scanFailed f s w after).ports = after.ports := by simp [scanFailed]
@[simp] theorem scanPhases_ports (e : ScanEnv) (im : Image) (s : State) : (scanPhases e im s).ports = s.ports := by
  unfold scanPhases; dsimp only; split <;> simp
@[simp] theorem scanBody_ports (e : ScanEnv) (im : Image) (s : State) : (scanBody e im s).ports = s.ports := by
  simp [scanBody]
@[simp] theorem haltedStop_ports (s : State) : (haltedStop s).ports = s.ports := by simp [haltedStop]
@[simp] theorem scanOverrun_ports (e : ScanEnv) (s : State) : (scanOverrun e s).ports = s.ports := by simp [scanOverrun]
@[simp] theorem scan_ports (e : ScanEnv) (s : State) : (scan e s).ports = s.ports := by
  unfold scan; (repeat' split) <;> simp
@[simp] theorem loadImage_ports (im : Option Image) (s : State) : (loadImage im s).ports = s.ports := by simp [loadImage]
@[simp] theorem startEngine_ports (im : Image) (s : State) : (startEngine im s).ports = s.ports := by simp [startEngine]
@[simp] theorem drawProducers_ports (s : State) : (drawProducers s).ports = s.ports := by simp [drawProducers]
@[simp] theorem enterRun_ports (why : Nat) (s : State) : (enterRun why s).ports = s.ports := by
  unfold enterRun; split <;> simp
@[simp] theorem reverifyDone_ports (pass : Bool) (check : Word) (us : Half) (s : State) :
    (reverifyDone pass check us s).ports = s.ports := by simp [reverifyDone]
@[simp] theorem windowEnd_ports (s : State) : (windowEnd s).ports = s.ports := by
  unfold windowEnd; split <;> simp

/-! ### Fuses and patches (chapter 16) -/

@[simp] theorem fuseEvents_ports (s : State) : (fuseEvents s).ports = s.ports := by simp [fuseEvents]
@[simp] theorem programSpare_ports (k r : Nat) (want : BitVec 128) (s : State) :
    (programSpare k r want s).2.2.ports = s.ports := by simp [programSpare, apply_ite Prod.snd]
@[simp] theorem blowRow_ports (redirect : Bool) (r : Nat) (want : BitVec 128) (s : State) :
    (blowRow redirect r want s).2.2.ports = s.ports := by
  unfold blowRow; (repeat' split) <;> simp
@[simp] theorem fuseProgram_ports (params : List Byte) (s : State) : (fuseProgram params s).2.2.ports = s.ports := by
  unfold fuseProgram
  dsimp only; (repeat' split) <;> simp
@[simp] theorem cutProgram_ports (n : Nat) (params : List Byte) (s : State) : (cutProgram n params s).ports = s.ports := by
  unfold cutProgram; dsimp only; split <;> simp
@[simp] theorem patchBegin_ports (total : Nat) (s : State) : (patchBegin total s).2.2.ports = s.ports := by
  unfold patchBegin; (repeat' split) <;> simp
@[simp] theorem patchData_ports (offset : Nat) (bytes : List Byte) (s : State) :
    (patchData offset bytes s).2.2.ports = s.ports := by
  unfold patchData; (repeat' split) <;> simp
@[simp] theorem putPatch_ports (b : List Byte) (s : State) : (putPatch b s).ports = s.ports := by simp [putPatch]
@[simp] theorem patchFinish_ports (total : Nat) (s : State) : (patchFinish total s).2.2.ports = s.ports := by
  unfold patchFinish
  (repeat' split) <;> simp [apply_ite Prod.snd]
@[simp] theorem patchBoot_ports (s : State) : (patchBoot s).ports = s.ports := by
  unfold patchBoot; split <;> simp
@[simp] theorem noteMismatch_ports (code port : Nat) (s : State) : (noteMismatch code port s).ports = s.ports := by
  simp [noteMismatch]
@[simp] theorem versionRegs_ports (s : State) : (versionRegs s).ports = s.ports := by simp [versionRegs]

/-! ### Links, the controller's side (chapter 4) -/

@[simp] theorem updRestarts_ports (which : Nat → Nat → Bool) (f : BlockSt → BlockSt) (s : State) :
    (updRestarts which f s).ports = s.ports := by
  unfold updRestarts; split <;> simp
@[simp] theorem noteRelease_ports (p i : Nat) (level : Bool) (s : State) : (noteRelease p i level s).ports = s.ports := by
  simp [noteRelease]
@[simp] theorem noteUncleanInput_ports (p i : Nat) (s : State) : (noteUncleanInput p i s).ports = s.ports := by
  simp [noteUncleanInput]
@[simp] theorem noteUncleanSource_ports (p k : Nat) (s : State) : (noteUncleanSource p k s).ports = s.ports := by
  simp [noteUncleanSource]
@[simp] theorem disarmRestarts_ports (p : Nat) (s : State) : (disarmRestarts p s).ports = s.ports := by simp [disarmRestarts]
@[simp] theorem channelTested_ports (p c : Nat) (s : State) : (channelTested p c s).ports = s.ports := by
  simp [channelTested]
@[simp] theorem channelUntested_ports (p c : Nat) (s : State) : (channelUntested p c s).ports = s.ports := by
  simp [channelUntested]
@[simp] theorem channelRefused_ports (p c : Nat) (s : State) : (channelRefused p c s).ports = s.ports := by
  simp [channelRefused]
@[simp] theorem judgeChannel_ports (p c : Nat) (isOpen : Bool) (s : State) :
    (judgeChannel p c isOpen s).ports = s.ports := by simp [judgeChannel]
@[simp] theorem finishOutputTest_ports (s : State) : (finishOutputTest s).ports = s.ports := by
  unfold finishOutputTest; split <;> simp
@[simp] theorem dropLink_ports (l : Nat) (s : State) : (dropLink l s).ports = s.ports := by
  unfold dropLink; dsimp only; split <;> simp
@[simp] theorem checkLearn_ports (s : State) : (checkLearn s).ports = s.ports := by
  unfold checkLearn; split <;> simp
@[simp] theorem noteLearn_ports (p i : Nat) (ok : Bool) (s : State) : (noteLearn p i ok s).ports = s.ports := by
  unfold noteLearn; split <;> simp
@[simp] theorem abandonLearn_ports (p : Nat) (s : State) : (abandonLearn p s).ports = s.ports := by
  unfold abandonLearn; split <;> simp
@[simp] theorem noteStartFail_ports (l : Nat) (s : State) : (noteStartFail l s).ports = s.ports := by simp [noteStartFail]
@[simp] theorem linkLost_ports (l cause : Nat) (s : State) : (linkLost l cause s).ports = s.ports := by simp [linkLost]
@[simp] theorem linkStartFail_ports (l : Nat) (s : State) : (linkStartFail l s).ports = s.ports := by simp [linkStartFail]
@[simp] theorem startLink_ports (l : Nat) (s : State) : (startLink l s).ports = s.ports := by simp [startLink]
@[simp] theorem linkStart_ports (l : Nat) (s : State) : (linkStart l s).ports = s.ports := by simp [linkStart]
@[simp] theorem checkRate_ports (l : Nat) (s : State) : (checkRate l s).ports = s.ports := by simp [checkRate]
@[simp] theorem linkCycle_ports (s : State) : (linkCycle s).ports = s.ports := by simp [linkCycle]
@[simp] theorem badUplink_ports (l : Nat) (s : State) : (badUplink l s).ports = s.ports := by simp [badUplink]
@[simp] theorem queuePhase_ports (l : Nat) (s : State) : (queuePhase l s).ports = s.ports := by simp [queuePhase]
@[simp] theorem noteDelay_ports (l rt : Nat) (s : State) : (noteDelay l rt s).ports = s.ports := by simp [noteDelay]
@[simp] theorem judgeEcho_ports (l : Nat) (s : State) : (judgeEcho l s).ports = s.ports := by simp [judgeEcho]
@[simp] theorem takeCommon_ports (l : Nat) (f : Frame) (s : State) : (takeCommon l f s).ports = s.ports := by
  simp [takeCommon]
@[simp] theorem linkUp_ports (l : Nat) (s : State) : (linkUp l s).ports = s.ports := by simp [linkUp]
@[simp] theorem strapFault_ports (l : Nat) (s : State) : (strapFault l s).ports = s.ports := by simp [strapFault]
@[simp] theorem revFault_ports (l : Nat) (s : State) : (revFault l s).ports = s.ports := by simp [revFault]
@[simp] theorem linkCheck_ports (l : Nat) (s : State) : (linkCheck l s).ports = s.ports := by simp [linkCheck]
@[simp] theorem confirm_ports (l : Nat) (ok : Bool) (done : State → State) (s : State) (hdone : ∀ s,
    (done s).ports = s.ports) :
    (confirm l ok done s).ports = s.ports := by simp [confirm, hdone]
@[simp] theorem beginSeed_ports (l : Fin 8) (s : State) : (beginSeed l s).ports = s.ports := by simp [beginSeed]
@[simp] theorem uplinkIdent_ports (l : Fin 8) (framing : Bool) (f : Frame) (rt : Nat) (s : State) :
    (uplinkIdent l framing f rt s).ports = s.ports := by
  unfold uplinkIdent
  dsimp only; (repeat' split) <;> simp
@[simp] theorem portReport_ports (l : Nat) (s : State) : (portReport l s).ports = s.ports := by simp [portReport]
@[simp] theorem takeSeqFault_ports (l : Nat) (f : Frame) (s : State) : (takeSeqFault l f s).ports = s.ports := by
  simp [takeSeqFault]
@[simp] theorem takeEdge_ports (l : Nat) (f : Frame) (r : Word) (s : State) : (takeEdge l f r s).ports = s.ports := by
  simp [takeEdge]
@[simp] theorem uplinkDelta_ports (l : Fin 8) (framing : Bool) (f : Frame) (rt : Nat) (s : State) :
    (uplinkDelta l framing f rt s).ports = s.ports := by simp [uplinkDelta]
@[simp] theorem setChLatch_ports (p c bit : Nat) (s : State) : (setChLatch p c bit s).ports = s.ports := by simp [setChLatch]
@[simp] theorem setChLatches_ports (p : Nat) (mask bit : Nat) (s : State) : (setChLatches p mask bit s).ports = s.ports := by
  simp [setChLatches]
@[simp] theorem setInLatch_ports (p i : Nat) (on : Bool) (s : State) : (setInLatch p i on s).ports = s.ports := by
  simp [setInLatch]
@[simp] theorem latchSource_ports (p k : Nat) (s : State) : (latchSource p k s).ports = s.ports := by simp [latchSource]
@[simp] theorem noteTest_ports (p c : Nat) (kind : Nat) (passed : Bool) (s : State) :
    (noteTest p c kind passed s).ports = s.ports := by
  unfold noteTest; dsimp only; split <;> simp
@[simp] theorem nameSource_ports (p k : Nat) (s : State) : (nameSource p k s).ports = s.ports := by simp [nameSource]
@[simp] theorem noteCrossShort_ports (p own q partner : Nat) (s : State) :
    (noteCrossShort p own q partner s).ports = s.ports := by simp [noteCrossShort]
@[simp] theorem noteForeign_ports (p k : Nat) (s : State) : (noteForeign p k s).ports = s.ports := by simp [noteForeign]
@[simp] theorem diagEffect_ports (p : Nat) (code arg : Half) (s : State) : (diagEffect p code arg s).ports = s.ports := by
  unfold diagEffect; split <;> simp
@[simp] theorem raiseDiag_ports (p : Nat) (code arg : Half) (s : State) : (raiseDiag p code arg s).ports = s.ports := by
  unfold raiseDiag; (repeat' split) <;> simp
@[simp] theorem takeDiag_ports (p : Nat) (code arg : Half) (s : State) : (takeDiag p code arg s).ports = s.ports := by
  simp [takeDiag]
@[simp] theorem takeRefresh_ports (l : Nat) (f : Frame) (s : State) : (takeRefresh l f s).ports = s.ports := by
  simp [takeRefresh]
@[simp] theorem showLatched_ports (l : Nat) (s : State) : (showLatched l s).ports = s.ports := by simp [showLatched]
@[simp] theorem endOutputTest_ports (l : Nat) (f : Frame) (s : State) : (endOutputTest l f s).ports = s.ports := by
  unfold endOutputTest; split <;> simp
@[simp] theorem uplinkRefresh_ports (l : Fin 8) (framing : Bool) (f : Frame) (rt : Nat) (s : State) :
    (uplinkRefresh l framing f rt s).ports = s.ports := by simp [uplinkRefresh]
@[simp] theorem crossShortEnd_ports (p k q j : Nat) (s : State) : (crossShortEnd p k q j s).ports = s.ports := by
  simp [crossShortEnd]
@[simp] theorem shortToSupply_ports (p k : Nat) (s : State) : (shortToSupply p k s).ports = s.ports := by
  unfold shortToSupply; split <;> simp

/-! ### Staging and activation (chapter 15) -/

@[simp] theorem putInactive_ports (off len : Nat) (f : Bank → Bank) (s : State) :
    (putInactive off len f s).ports = s.ports := by simp [putInactive]
@[simp] theorem stageBegin_ports (length : Nat) (s : State) : (stageBegin length s).2.2.ports = s.ports := by
  simp [stageBegin, apply_ite Prod.snd]
@[simp] theorem stageData_ports (offset : Nat) (bytes : List Byte) (s : State) :
    (stageData offset bytes s).2.2.ports = s.ports := by simp [stageData, apply_ite Prod.snd]
@[simp] theorem discardStaged_ports (s : State) : (discardStaged s).ports = s.ports := by simp [discardStaged]
@[simp] theorem stageCommit_ports (crc : Word) (s : State) : (stageCommit crc s).2.2.ports = s.ports := by
  unfold stageCommit
  dsimp only; (repeat' split) <;> simp
@[simp] theorem activateBank_ports (s : State) : (activateBank s).ports = s.ports := by simp [activateBank]
@[simp] theorem restartLinks_ports (s : State) : (restartLinks s).ports = s.ports := by simp [restartLinks]
@[simp] theorem afterActivate_ports (im : Image) (s : State) : (afterActivate im s).ports = s.ports := by
  simp [afterActivate]

/-! ### Unsequenced opcodes (chapter 15) -/

@[simp] theorem tell_ports (s : State) (data : List Byte) : (tell s data).2.2.ports = s.ports := by simp [tell]
@[simp] theorem refuse_ports (s : State) (status : Byte) : (refuse s status).2.2.ports = s.ports := by simp [refuse]
@[simp] theorem readHrf_ports (p : List Byte) (s : State) : (readHrf p s).2.2.ports = s.ports := by
  simp [readHrf, apply_ite Prod.snd]
@[simp] theorem hostSignals_ports (p : List Byte) (s : State) : (hostSignals p s).2.2.ports = s.ports := by
  simp [hostSignals, apply_ite Prod.snd]
@[simp] theorem journalRead_ports (p : List Byte) (s : State) : (journalRead p s).2.2.ports = s.ports := by
  simp [journalRead, apply_ite Prod.snd]
@[simp] theorem commandOutcome_ports (p : List Byte) (s : State) : (commandOutcome p s).2.2.ports = s.ports := by
  simp [commandOutcome, apply_ite Prod.snd]
@[simp] theorem sflStatus_ports (p : List Byte) (s : State) : (sflStatus p s).2.2.ports = s.ports := by
  simp [sflStatus, apply_ite Prod.snd]
@[simp] theorem queueFrames_ports (l : List (List Byte)) (s : State) : (queueFrames l s).2.ports = s.ports := by
  induction l generalizing s with
  | nil => rfl
  | cons b r ih => unfold queueFrames; split <;> simp [ih]
@[simp] theorem sflFrameIn_ports (p : List Byte) (s : State) : (sflFrameIn p s).2.2.ports = s.ports := by
  unfold sflFrameIn; split <;> simp
@[simp] theorem sflFrameOut_ports (p : List Byte) (s : State) : (sflFrameOut p s).2.2.ports = s.ports := by
  simp [sflFrameOut, apply_ite Prod.snd]
@[simp] theorem portStatus_ports (p : List Byte) (s : State) : (portStatus p s).2.2.ports = s.ports := by
  simp [portStatus, apply_ite Prod.snd]
@[simp] theorem portDiag_ports (p : List Byte) (s : State) : (portDiag p s).2.2.ports = s.ports := by
  simp [portDiag, apply_ite Prod.snd]
@[simp] theorem execPlain_ports (op : Byte) (p : List Byte) (s : State) : (execPlain op p s).2.2.ports = s.ports := by
  unfold execPlain; split <;> simp

/-! ### Sequenced opcodes (chapter 15) -/

@[simp] theorem ends_ports (a : Byte × List Byte × State) : (ends a).st.ports = a.2.2.ports := rfl
@[simp] theorem goesOn_ports (r : Running) (s : State) : (goesOn r s).st.ports = s.ports := by simp [goesOn]
@[simp] theorem refuses_ports (status : Byte) (s : State) : (refuses status s).st.ports = s.ports := by simp [refuses]
@[simp] theorem succeeds_ports (data : List Byte) (s : State) : (succeeds data s).st.ports = s.ports := by simp [succeeds]
@[simp] theorem execActivateSeq_ports (p : List Byte) (s : State) : (execActivateSeq p s).st.ports = s.ports := by
  unfold execActivateSeq; split <;> simp
@[simp] theorem execRunSeq_ports (s : State) : (execRunSeq s).st.ports = s.ports := by
  unfold execRunSeq; split <;> simp
@[simp] theorem execStopSeq_ports (s : State) : (execStopSeq s).st.ports = s.ports := by
  unfold execStopSeq; split <;> simp
@[simp] theorem execModeSeq_ports (p : List Byte) (s : State) : (execModeSeq p s).st.ports = s.ports := by simp [execModeSeq]
@[simp] theorem execFaultAckSeq_ports (s : State) : (execFaultAckSeq s).st.ports = s.ports := by simp [execFaultAckSeq]
@[simp] theorem execTimeSetSeq_ports (p : List Byte) (s : State) : (execTimeSetSeq p s).st.ports = s.ports := by
  simp [execTimeSetSeq]
@[simp] theorem execSourceSeq_ports (p : List Byte) (s : State) : (execSourceSeq p s).st.ports = s.ports := by
  simp [execSourceSeq]
@[simp] theorem execJournalAckSeq_ports (p : List Byte) (s : State) : (execJournalAckSeq p s).st.ports = s.ports := by
  simp [execJournalAckSeq]
@[simp] theorem queueWrite_ports (p : Nat) (a : Byte) (w : Half) (s : State) : (queueWrite p a w s).ports = s.ports := by
  simp [queueWrite]
@[simp] theorem execOutputTestSeq_ports (p : List Byte) (s : State) : (execOutputTestSeq p s).st.ports = s.ports := by
  unfold execOutputTestSeq
  dsimp only; (repeat' split) <;> simp
@[simp] theorem execLearnSeq_ports (p : List Byte) (s : State) : (execLearnSeq p s).st.ports = s.ports := by
  simp [execLearnSeq]
@[simp] theorem printTest_ports (csn : Word) (s : State) : (printTest csn s).ports = s.ports := by simp [printTest]
@[simp] theorem execPrintControlSeq_ports (csn : Word) (p : List Byte) (s : State) :
    (execPrintControlSeq csn p s).st.ports = s.ports := by
  unfold execPrintControlSeq; split <;> simp
@[simp] theorem execPrintTextSeq_ports (csn : Word) (p : List Byte) (s : State) :
    (execPrintTextSeq csn p s).st.ports = s.ports := by simp [execPrintTextSeq]
@[simp] theorem execPatchSeq_ports (p : List Byte) (s : State) : (execPatchSeq p s).st.ports = s.ports := by
  unfold execPatchSeq; split <;> simp
@[simp] theorem execResetSeq_ports (p : List Byte) (s : State) : (execResetSeq p s).st.ports = s.ports := by
  unfold execResetSeq; split <;> simp
@[simp] theorem execDormantSeq_ports (s : State) : (execDormantSeq s).st.ports = s.ports := by simp [execDormantSeq]
@[simp] theorem execRetestSeq_ports (s : State) : (execRetestSeq s).st.ports = s.ports := by
  unfold execRetestSeq
  have h := entropyRetest_ports s
  split <;> simp_all
@[simp] theorem execSeq_ports (op : Byte) (csn : Word) (p : List Byte) (s : State) :
    (execSeq op csn p s).st.ports = s.ports := by
  unfold execSeq; split <;> simp

/-! ### Command packets (chapter 14) -/

@[simp] theorem doAfter_ports (a : After) (s : State) : (doAfter a s).ports = s.ports := by
  unfold doAfter; split <;> simp
@[simp] theorem execCommand_ports (op : Byte) (csn : Word) (p : List Byte) (s : State) :
    (execCommand op csn p s).st.ports = s.ports := by simp [execCommand]
@[simp] theorem concludeExec_ports (c : Chain) (r : ExecRes) : (concludeExec c r).ports = r.st.ports := by
  unfold concludeExec; split <;> simp
@[simp] theorem runChain_ports (c : Chain) (s : State) : (runChain c s).ports = s.ports := by simp [runChain]
@[simp] theorem drain_ports (n : Nat) (s : State) : (drain n s).ports = s.ports := by
  induction n generalizing s with
  | zero => rfl
  | succ n ih => unfold drain; split; · split <;> simp [ih]
                 · rfl
@[simp] theorem settle_ports (s : State) : (settle s).ports = s.ports := by simp [settle]
@[simp] theorem outOfWindow_ports (p : Packet) (s : State) : (outOfWindow p s).ports = s.ports := by simp [outOfWindow]
@[simp] theorem answerRepeat_ports (p : Packet) (s : State) : (answerRepeat p s).ports = s.ports := by
  unfold answerRepeat; split <;> simp
@[simp] theorem writeEntry_ports (c : Chain) (part : Nat) (s : State) : (writeEntry c part s).ports = s.ports := by
  simp [writeEntry]
@[simp] theorem writeChain_ports (c : Chain) (s : State) : (writeChain c s).ports = s.ports := by simp [writeChain]
@[simp] theorem accept_ports (p : Packet) (s : State) : (accept p s).ports = s.ports := by simp [accept]
@[simp] theorem judgeSequenced_ports (p : Packet) (s : State) : (judgeSequenced p s).ports = s.ports := by
  simp [judgeSequenced]
@[simp] theorem debugChallenge_ports (p : Packet) (s : State) : (debugChallenge p s).ports = s.ports := by
  simp [debugChallenge]
@[simp] theorem runUnsequenced_ports (p : Packet) (s : State) : (runUnsequenced p s).ports = s.ports := by
  simp [runUnsequenced]
@[simp] theorem judgeWhole_ports (p : Packet) (n : Nat) (s : State) : (judgeWhole p n s).ports = s.ports := by
  unfold judgeWhole; split <;> simp
@[simp] theorem badLength_ports (p : Packet) (s : State) : (badLength p s).ports = s.ports := by simp [badLength]
@[simp] theorem discardBusy_ports (s : State) : (discardBusy s).ports = s.ports := by simp [discardBusy]
@[simp] theorem judge_ports (p : Packet) (s : State) : (judge p s).ports = s.ports := by simp [judge]
@[simp] theorem badCrc_ports (p : Packet) (s : State) : (badCrc p s).ports = s.ports := by simp [badCrc]
@[simp] theorem judgeRaw_ports (b : List Byte) (s : State) : (judgeRaw b s).ports = s.ports := by simp [judgeRaw]
@[simp] theorem tearAccept_ports (raw : List Byte) (whole : Nat) (nva : Bool) (s : State) :
    (tearAccept raw whole nva s).ports = s.ports := by
  unfold tearAccept
  dsimp only; (repeat' split) <;> simp
@[simp] theorem cutCommand_ports (cut : Cut) (c : Chain) (s : State) : (cutCommand cut c s).ports = s.ports := by
  unfold cutCommand; split <;> simp
@[simp] theorem cutAfter_ports (cut : Cut) (n : Nat) (s : State) : (cutAfter cut n s).ports = s.ports := by
  induction n generalizing s with
  | zero => unfold cutAfter; split <;> simp
  | succ n ih => unfold cutAfter; split <;> simp [ih]
@[simp] theorem tearCommand_ports (raw : List Byte) (ended : Nat) (cut : Cut) (s : State) :
    (tearCommand raw ended cut s).ports = s.ports := by
  unfold tearCommand; split <;> simp
@[simp] theorem tearPacket_ports (t : Tear) (s : State) : (tearPacket t s).ports = s.ports := by
  unfold tearPacket; (repeat' split) <;> simp
@[simp] theorem receive_ports (raw : List Byte) (f : State → State) (s : State) (hf : ∀ s, (f s).ports = s.ports) :
    (receive raw f s).ports = s.ports := by simp [receive, hf]
@[simp] theorem receivePacket_ports (p : Packet) (s : State) : (receivePacket p s).ports = s.ports := by simp [receivePacket]
@[simp] theorem receiveRaw_ports (b : List Byte) (s : State) : (receiveRaw b s).ports = s.ports := by simp [receiveRaw]
@[simp] theorem skipCsn_ports (c : Word) (s : State) : (skipCsn c s).ports = s.ports := by simp [skipCsn]
@[simp] theorem timeOutChain_ports (c : Chain) (skipped : Nat) (s : State) : (timeOutChain c skipped s).ports = s.ports := by
  simp [timeOutChain]
@[simp] theorem closeGap_ports (n skipped : Nat) (s : State) : (closeGap n skipped s).ports = s.ports := by
  induction n generalizing skipped s with
  | zero => rfl
  | succ n ih =>
    unfold closeGap
    split
    · rfl
    · split <;> simp [ih]
@[simp] theorem gapTimeout_ports (s : State) : (gapTimeout s).ports = s.ports := by simp [gapTimeout]
@[simp] theorem voidChain_ports (c : Chain) (s : State) : (voidChain c s).ports = s.ports := by simp [voidChain]
@[simp] theorem resumeExec_ports (c : Chain) (s : State) : (resumeExec c s).2.2.ports = s.ports := by
  unfold resumeExec
  dsimp only; (repeat' split) <;> simp
@[simp] theorem resumeRetest_ports (raw : List Bool) (s : State) : (resumeRetest raw s).2.2.ports = s.ports := by
  unfold resumeRetest; (repeat' split) <;> simp
@[simp] theorem resumed_ports (raw : List Bool) (c : Chain) (s : State) : (resumed raw c s).2.2.ports = s.ports := by
  simp [resumed, apply_ite Prod.snd]
@[simp] theorem resumeChain_ports (raw : List Bool) (c : Chain) (s : State) : (resumeChain raw c s).ports = s.ports := by
  simp [resumeChain]
@[simp] theorem resolveBoot_ports (raw : List Bool) (n : Nat) (s : State) : (resolveBoot raw n s).ports = s.ports := by
  induction n generalizing s with
  | zero => rfl
  | succ n ih =>
    unfold resolveBoot
    split
    · rfl
    · split <;> simp [ih]
@[simp] theorem resolveAll_ports (raw : List Bool) (s : State) : (resolveAll raw s).ports = s.ports := by simp [resolveAll]

/-! ### Rows of the engine's blocks (chapters 8 and 9) -/

@[simp] theorem evalOne_ports (im : Image) (ix : Nat) (b : Block) (ins modes : List Nat) (st : BlockSt) (s : State) :
    (evalOne im ix b ins modes st s).ports = s.ports := by simp [evalOne]
@[simp] theorem timeUp_ports (types : List BlockType) (f : Nat → BlockParams → BlockSt → BlockSt) (ix : Nat) (s : State) :
    (timeUp types f ix s).ports = s.ports := by
  unfold timeUp; split <;> simp
@[simp] theorem syncFail_ports (ix : Nat) (s : State) : (syncFail ix s).ports = s.ports := by
  unfold syncFail; split <;> simp
@[simp] theorem brakeHours_ports (ix : Nat) (s : State) : (brakeHours ix s).ports = s.ports := by
  unfold brakeHours; split <;> simp
@[simp] theorem selectorUp_ports (f : Nat → ModeSt → ModeSt) (s : State) : (selectorUp f s).ports = s.ports := by
  unfold selectorUp; (repeat' split) <;> simp
@[simp] theorem handoverEnd_ports (s : State) : (handoverEnd s).ports = s.ports := by simp [handoverEnd]
@[simp] theorem channelMinutes_ports (p c n : Nat) (s : State) : (channelMinutes p c n s).ports = s.ports := by
  simp [channelMinutes]
@[simp] theorem untestedAt_ports (p c : Nat) (s : State) : (untestedAt p c s).ports = s.ports := by simp [untestedAt]
@[simp] theorem refusedAt_ports (p c : Nat) (s : State) : (refusedAt p c s).ports = s.ports := by simp [refusedAt]

/-! ### Boot and DORMANT (chapter 3) -/

@[simp] theorem bootSense_ports (addr : BitVec 2) (s : State) : (bootSense addr s).ports = s.ports := by simp [bootSense]
@[simp] theorem bootFirmware_ports (crcOk : Bool) (s : State) : (bootFirmware crcOk s).ports = s.ports := by
  simp [bootFirmware]
@[simp] theorem noteClockReset_ports (s : State) : (noteClockReset s).ports = s.ports := by simp [noteClockReset]
@[simp] theorem noteQuality_ports (s : State) : (noteQuality s).ports = s.ports := by
  unfold noteQuality; split <;> simp
@[simp] theorem monTest_ports (n : Nat) (ok : Bool) (s : State) : (monTest n ok s).ports = s.ports := by simp [monTest]
@[simp] theorem bootTests_ports (b : BootInputs) (s : State) : (bootTests b s).ports = s.ports := by
  unfold bootTests; split <;> simp
@[simp] theorem bootEntropy_ports (raw : List Bool) (s : State) : (bootEntropy raw s).ports = s.ports := by
  unfold bootEntropy; split <;> simp
@[simp] theorem bootMacros_ports (b : BootInputs) (s : State) : (bootMacros b s).ports = s.ports := by simp [bootMacros]
@[simp] theorem bootAorf_ports (noise : Half) (s : State) : (bootAorf noise s).ports = s.ports := by simp [bootAorf]
@[simp] theorem bootJournal_ports (b : BootInputs) (s : State) : (bootJournal b s).ports = s.ports := by simp [bootJournal]
@[simp] theorem bootStore_ports (b : BootInputs) (s : State) : (bootStore b s).ports = s.ports := by simp [bootStore]
@[simp] theorem noImage_ports (s : State) : (noImage s).ports = s.ports := by simp [noImage]
@[simp] theorem noteVersions_ports (code : Nat) (s : State) : (noteVersions code s).ports = s.ports := by simp [noteVersions]
@[simp] theorem bootLink_ports (seen : Option IdentSeen) (l : Nat) (s : State) : (bootLink seen l s).ports = s.ports := by
  unfold bootLink; split <;> simp
@[simp] theorem bootLinks_ports (idents : List (Option IdentSeen)) (s : State) : (bootLinks idents s).ports = s.ports := by
  simp [bootLinks]
@[simp] theorem holdLinks_ports (s : State) : (holdLinks s).ports = s.ports := by simp [holdLinks]
@[simp] theorem endBoot_ports (us : BitVec 24) (st : DvState) (s : State) : (endBoot us st s).ports = s.ports := by
  simp [endBoot]
@[simp] theorem endInFault_ports (us : BitVec 24) (code detail : Byte) (s : State) :
    (endInFault us code detail s).ports = s.ports := by simp [endInFault]
@[simp] theorem endInRun_ports (us : BitVec 24) (im : Image) (s : State) : (endInRun us im s).ports = s.ports := by
  simp [endInRun]
@[simp] theorem bootVerify_ports (b : BootInputs) (im : Image) (s : State) : (bootVerify b im s).ports = s.ports := by
  simp [bootVerify]
@[simp] theorem bootBare_ports (b : BootInputs) (s : State) : (bootBare b s).ports = s.ports := by simp [bootBare]
@[simp] theorem serviceBoot_ports (b : BootInputs) (s : State) : (serviceBoot b s).ports = s.ports := by simp [serviceBoot]
@[simp] theorem bootVerdict_ports (b : BootInputs) (s : State) : (bootVerdict b s).ports = s.ports := by
  unfold bootVerdict; (repeat' split) <;> simp
@[simp] theorem bootToStore_ports (b : BootInputs) (image : Bool) (s : State) : (bootToStore b image s).ports = s.ports := by
  simp [bootToStore]
@[simp] theorem bootOn_ports (b : BootInputs) (s : State) : (bootOn b s).ports = s.ports := by simp [bootOn]
@[simp] theorem boot_ports (b : BootInputs) (s : State) : (boot b s).ports = s.ports := by
  unfold boot
  split
  · rfl
  · dsimp only; (repeat' split) <;> simp
@[simp] theorem faultNBlink_ports (s : State) : (faultNBlink s).ports = s.ports := by
  unfold faultNBlink; split <;> simp
@[simp] theorem pinReset_ports (s : State) : (pinReset s).ports = s.ports := by simp [pinReset]
@[simp] theorem watchdogReset_ports (s : State) : (watchdogReset s).ports = s.ports := by simp [watchdogReset]
@[simp] theorem clockTrip_ports (why : BitVec 3) (t : Tear) (s : State) : (clockTrip why t s).ports = s.ports := by
  simp [clockTrip]
@[simp] theorem clockRelease_ports (s : State) : (clockRelease s).ports = s.ports := by simp [clockRelease]
@[simp] theorem wake_ports (byNrst : Bool) (s : State) : (wake byNrst s).ports = s.ports := by simp [wake]
@[simp] theorem dormantOutcome_ports (c : Chain) (s : State) : (dormantOutcome c s).ports = s.ports := by
  simp [dormantOutcome]
@[simp] theorem dormantEntered_ports (s : State) : (dormantEntered s).ports = s.ports := by
  unfold dormantEntered; split <;> simp

/-! ### Die temperature (chapter 20) -/

@[simp] theorem tempEvent_ports (code : Half) (c : Cls) (t : Byte) (s : State) : (tempEvent code c t s).ports = s.ports := by
  simp [tempEvent]
@[simp] theorem overTempTrip_ports (t : Byte) (s : State) : (overTempTrip t s).ports = s.ports := by simp [overTempTrip]
@[simp] theorem measureTemp_ports (t : Byte) (s : State) : (measureTemp t s).ports = s.ports := by simp [measureTemp]

/-! ### Rows of resets and time (chapters 2 and 3) -/

@[simp] theorem sramEcc_ports (addr : Word) (s : State) : (sramEcc addr s).ports = s.ports := by simp [sramEcc]
@[simp] theorem whileLive_ports (f : State → State) (s : State) (hf : ∀ s, (f s).ports = s.ports) :
    (whileLive f s).ports = s.ports := by simp [whileLive, hf]

/-! ### Rows of Svaent frames and entropy (chapter 11) -/

@[simp] theorem takeInStopped_ports (s : State) : (takeInStopped s).ports = s.ports := by simp [takeInStopped]
@[simp] theorem entropyRow_ports (f : State → State) (s : State) (hf : ∀ s, (f s).ports = s.ports) :
    (entropyRow f s).ports = s.ports := by simp [entropyRow, hf]

/-! ### Marionette port (chapter 18) -/

@[simp] theorem respond_ports (status : Byte) (data : Option Word) (s : State) :
    (respond status data s).ports = s.ports := by simp [respond]
@[simp] theorem probeDone_ports (s : State) : (probeDone s).ports = s.ports := by simp [probeDone]
@[simp] theorem probeData_ports (w : Word) (s : State) : (probeData w s).ports = s.ports := by simp [probeData]
@[simp] theorem probeRefuse_ports (reason : BitVec 4) (s : State) : (probeRefuse reason s).ports = s.ports := by
  simp [probeRefuse]
@[simp] theorem probe_ports (needsUnlock : Bool) (cmd : Byte) (addr : Word) (data : Option Word) (crc : Byte)
    (f : State → State) (s : State) (hf : ∀ s, (f s).ports = s.ports) :
    (probe needsUnlock cmd addr data crc f s).ports = s.ports := by simp [probe, hf]
@[simp] theorem unknownRequest_ports (cmd : Byte) (addr : Word) (crc : Byte) (s : State) :
    (unknownRequest cmd addr crc s).ports = s.ports := by simp [unknownRequest]
@[simp] theorem probeStatus_ports (s : State) : (probeStatus s).ports = s.ports := by simp [probeStatus]
@[simp] theorem challengeNew_ports (s : State) : (challengeNew s).ports = s.ports := by
  unfold challengeNew; (repeat' split) <;> simp
@[simp] theorem challengeRead_ports (addr : Word) (s : State) : (challengeRead addr s).ports = s.ports := by
  unfold challengeRead; (repeat' split) <;> simp
@[simp] theorem submitResponse_ports (c : DWord) (s : State) : (submitResponse c s).ports = s.ports := by
  simp [submitResponse]
@[simp] theorem responseWord_ports (addr data : Word) (s : State) : (responseWord addr data s).ports = s.ports := by
  unfold responseWord; (repeat' split) <;> simp
@[simp] theorem challengeExpiry_ports (s : State) : (challengeExpiry s).ports = s.ports := by simp [challengeExpiry]
@[simp] theorem writeImage_ports (off : Nat) (data : Word) (s : State) : (writeImage off data s).ports = s.ports := by
  simp [writeImage]
@[simp] theorem readBytesAt_ports (f : Nat → Option Byte) (s : State) : (readBytesAt f s).ports = s.ports := by
  simp [readBytesAt]
@[simp] theorem memRead_ports (addr : Word) (s : State) : (memRead addr s).ports = s.ports := by
  unfold memRead; (repeat' split) <;> simp
@[simp] theorem probeRegWrite_ports (i : Nat) (data : Word) (s : State) : (probeRegWrite i data s).ports = s.ports := by
  simp [probeRegWrite]
@[simp] theorem writeControl_ports (off : Nat) (data : Word) (s : State) : (writeControl off data s).ports = s.ports := by
  simp [writeControl]
@[simp] theorem writeLinkBuffer_ports (off : Nat) (data : Word) (s : State) :
    (writeLinkBuffer off data s).ports = s.ports := by simp [writeLinkBuffer]
@[simp] theorem memWrite_ports (addr data : Word) (s : State) : (memWrite addr data s).ports = s.ports := by
  unfold memWrite; (repeat' split) <;> simp
@[simp] theorem endPending_ports (s : State) : (endPending s).ports = s.ports := by simp [endPending]
@[simp] theorem endDebug_ports (s : State) : (endDebug s).ports = s.ports := by simp [endDebug]
@[simp] theorem haltCore_ports (addr : Word) (cause : Nat) (s : State) : (haltCore addr cause s).ports = s.ports := by
  simp [haltCore]
@[simp] theorem coreHalt_ports (s : State) : (coreHalt s).ports = s.ports := by simp [coreHalt]
@[simp] theorem breakHit_ports (access : Option (Word × Bool)) (pc : Word) (s : State) :
    (breakHit access pc s).ports = s.ports := by simp [breakHit]
@[simp] theorem releaseFault_ports (s : State) : (releaseFault s).ports = s.ports := by simp [releaseFault]
@[simp] theorem releaseState_ports (s : State) : (releaseState s).ports = s.ports := by simp [releaseState]
@[simp] theorem judgeBuffered_ports (s : State) : (judgeBuffered s).ports = s.ports := by
  unfold judgeBuffered; split <;> simp
@[simp] theorem endHeld_ports (s : State) : (endHeld s).ports = s.ports := by
  unfold endHeld; split <;> simp
@[simp] theorem coreResume_ports (s : State) : (coreResume s).ports = s.ports := by simp [coreResume]
@[simp] theorem coreStep_ports (s : State) : (coreStep s).ports = s.ports := by simp [coreStep]
@[simp] theorem engHalt_ports (s : State) : (engHalt s).ports = s.ports := by simp [engHalt]
@[simp] theorem engResume_ports (s : State) : (engResume s).ports = s.ports := by simp [engResume]
@[simp] theorem dryReject_ports (f : Nat × Nat × Nat) (s : State) : (dryReject f s).ports = s.ports := by simp [dryReject]
@[simp] theorem dryNext_ports (im : Image) (s : State) : (dryNext im s).ports = s.ports := by
  unfold dryNext
  dsimp only; (repeat' split) <;> simp
@[simp] theorem engStep_ports (s : State) : (engStep s).ports = s.ports := by
  unfold engStep; split <;> simp
@[simp] theorem debugReset_ports (s : State) : (debugReset s).ports = s.ports := by simp [debugReset]

/-! ### Rows of the marionette port (chapter 18) -/

@[simp] theorem protocolReset_ports (s : State) : (protocolReset s).ports = s.ports := by simp [protocolReset]

/-! ### The rows -/

/-- Every row that is not a port's own answers a state with the ports as they were. -/
theorem exec_ports_of_not_portRow (i : Instr) (s : State) (hi : portRow i = false) :
    ∃ t, exec i s = .next t ∧ t.ports = s.ports := by
  cases i with
  -- resets, boot and what goes on while firmware does not run (chapter 3)
  | powerOn | brownOut | pin | watchdog | clockWindowTrip | clockWindowRelease | dormantWake | boot | dormantEntered
  | faultNBlink | sramEccError => exact ⟨_, rfl, by simp⟩
  -- the time base and the die temperature (chapters 2 and 20)
  | ppsEdge | ppsFault | sourceLost | irigFrame | holdoverExpired | leapSecond | tsyncPulse | tsyncPulseEnd
  | temperatureMeasurement => exact ⟨_, rfl, by simp⟩
  -- host commands: each is a packet received (chapters 14 and 15)
  | ping | getIdentity | getState | getVersions | readHrf | writeHrf | tbTimeLoRead | enSnapDataRead | enSnapHold
  | enSnapRelease | evPendingClear | stageConfigBegin | stageConfigData | stageConfigCommit | activateConfig | discardStaged
  | configInfo | run | stop | setModeRequest | hostSignalsWrite | faultAck | journalRead | journalAck | journalStatus
  | commandOutcome | timeSet | leapAnnounce | leapCancel | timeStatus | timeSourceSelect | sflStatus | sflFrameIn
  | sflFrameOut | entropyRetest | portStatus | portDiagRead | outputTestNow | learnPulses | pause | resume | feed | testLine
  | printText | printStatus | fuseRead | fuseProgram | patchInstallBegin | patchInstallData | patchInstallFinish
  | patchStatus | resetDeviceWarm | resetDeviceCold | enterDormant | setEventEnables | getEventPending | debugChallenge =>
    exact ⟨_, rfl, receivePacket_ports _ _⟩
  | commandGapTimeout | cmdPacketRefused => exact ⟨_, rfl, by simp⟩
  -- the host bus and the store (chapters 12 and 13)
  | cmdReplyRead | statRead | sflWindowWrite | sflWindowRead | jrnlPointerWrite | jrnlWindowRead | attentionPeriod
  | attentionWrite | attentionBackoffEnd | stretchTimeout | targetTimeout | lineHeldLow | hostSilence | journalCommit
  | journalGap | parameterRecord => exact ⟨_, rfl, by simp⟩
  -- the engine and its blocks (chapters 7 to 10)
  | scan | reverificationComplete | countedFailureWindowEnd | discrepancy | lockNotReached | rundownElapsed
  | doorOpenWhileLocked | twohandSyncFail | contactAntivalence | feedbackFault | brakeTestEnd | brakeTestDue | restartStuck
  | restartArmed | selectorFault | modeRequestPins | modeHandoverEnd | tonElapsed | tofElapsed | pulseElapsed
  | outputUntested | outputRefused => exact ⟨_, rfl, by simp⟩
  -- Svaent frames, entropy and the controller's side of the links (chapters 4 and 11)
  | sflProducerStart | sflProducerSend | sflTakeIn | sflConnLost | entropyWordReady | entropyHealthFail
  | entropyStartupTestDone | linkCycle | uplinkIdent | uplinkDelta | uplinkRefresh | crossShortEpisodeEnd | shortToSupply
  | linkLost | linkStart | linkStartFail => exact ⟨_, rfl, by simp⟩
  -- the witness strip and the marionette port (chapters 17 and 18)
  | lineSlot | lineRendered | printerGated | printerReady | motorDisable | idcode | status | chalNew | chalRead | response
  | memRead | memWrite | coreHalt | coreResume | coreStep | engHalt | engResume | engStep | dbgReset | breakpointHit
  | debugTransferTimeout | debugChallengeExpiry | unlockRefusalEnd => exact ⟨_, rfl, by simp⟩
  | debugProtocolReset next => cases next <;> exact ⟨_, rfl, by simp⟩
  -- a port's own rows
  | _ => simp [portRow] at hi

/-- Settles O49: the field `ports` is written by a port's own rows alone, so every operation behind another row hands it on. -/
theorem portsApart : Obligations.PortsApart := by
  intro i s t hi h
  obtain ⟨u, hu, hp⟩ := exec_ports_of_not_portRow i s hi
  rw [hu] at h
  cases h
  exact hp

/-! ## A port's own rows -/

/-- Changing one element of a vector leaves every other one as it was. -/
theorem getElem_updVec_ne {α : Type} {n : Nat} (v : Vector α n) (f : α → α) {i j : Nat} (hj : j < n) (h : i ≠ j) :
    (updVec v i f)[j] = v[j] := by
  unfold updVec
  split
  · exact Vector.getElem_setIfInBounds_ne hj h
  · rfl

theorem updPort_frame (p : Fin 8) (f : PortSt → PortSt) (s : State) : PortFrame p s (updPort p.val f s) :=
  ⟨rfl, fun q hq => getElem_updVec_ne s.ports f q.isLt fun h => hq (Fin.ext h.symm)⟩

/-- Taking a free value beside the change of a port stays within the frame. -/
theorem PortFrame.of_fresh {p : Fin 8} {n : Nat} {s t : State} (h : PortFrame p { s with fresh := n } t) :
    PortFrame p s t := h

/-- Settles O50: each of the rows changes its port by `updPort`, and DOWNLINK_RUN takes a free value first. -/
theorem portFrames : Obligations.PortFrames := by
  intro s p k i c sw b framing f samples cyc sample ticks o n mA v m a w up x hx
  have frame (g : PortSt → PortSt) : ∃ t, Host.Outcome.next (updPort p.val g s) = (.next t : Out) ∧ PortFrame p s t :=
    ⟨_, rfl, updPort_frame p g s⟩
  revert x
  simp only [List.forall_mem_append, List.forall_mem_cons, List.not_mem_nil, IsEmpty.forall_iff, implies_true, and_true]
  refine ⟨⟨frame _, frame _, frame _, frame _, ⟨_, rfl, (updPort_frame p _ _).of_fresh⟩, ?_⟩, ?_⟩
  all_goals repeat' apply And.intro
  all_goals exact frame _

end Sys2Proof.Machine
end

section
/-! PROOFS. The host register file as WRITE_HRF writes it (R15, R16, R303, R329, R332): what a written register shows, and what the
others keep. -/
namespace Sys2Proof.Machine

/-! ## Host-side changes alone -/

theorem HostFrame.refl (s : State) : HostFrame s s := rfl

theorem HostFrame.trans {s t u : State} (h : HostFrame s t) (k : HostFrame t u) : HostFrame s u := by
  unfold HostFrame at *; rw [k, h]

section
variable {s t : State} (h : HostFrame s t)
include h
theorem HostFrame.set : t.set = s.set := by rw [h]
theorem HostFrame.en : t.en = s.en := by rw [h]
theorem HostFrame.dev : t.dev = s.dev := by rw [h]
theorem HostFrame.aorf : t.aorf = s.aorf := by rw [h]
theorem HostFrame.tb : t.tb = s.tb := by rw [h]
end

theorem heard_hostFrame (p : Packet) (s : State) : HostFrame s (heard p s) := by
  unfold HostFrame heard takeTag; rw [touchBus_eq]

theorem accept_hostFrame (p : Packet) {s : State} (h : StoreTakes s) : HostFrame s (accept p s) := by
  obtain ⟨ring, pos, e⟩ := accept_sound p h
  unfold HostFrame; rw [e, pushReply_eq]

theorem commitOutcome_hostFrame (c : Chain) (status : Byte) (data : List Byte) (s : State) :
    HostFrame s (commitOutcome c status data s) := by
  unfold HostFrame; rw [commitOutcome_eq]

/-! ## The store under a command's chain and outcome -/

theorem CommandStore.trans {s t u : State} (h1 : CommandStore s t) (h2 : CommandStore t u) : CommandStore s u := by
  refine ⟨by rw [h2.1, h1.1], fun hw => ?_⟩
  obtain ⟨a0, a1, a2, a3, a4, a5⟩ := h1.2 hw
  obtain ⟨b0, b1, b2, b3, b4, b5⟩ := h2.2 a0
  exact ⟨b0, b1.trans a1, b2.trans a2, b3.trans a3, b4.trans a4, b5.trans a5⟩

theorem EventStore.command {s t : State} (h : EventStore s t) : CommandStore s t := ⟨by rw [h.1], h.2⟩

theorem accept_nv (p : Packet) {s : State} (h : StoreTakes s) :
    ∃ ring pos, (accept p s).nv = { s.nv with ring := ring, ringPos := pos, chains := s.nv.chains ++ [p.chain] } := by
  obtain ⟨ring, pos, e⟩ := accept_sound p h
  exact ⟨ring, pos, by rw [e, pushReply_nv]⟩

theorem accept_takes (p : Packet) {s : State} (h : StoreTakes s) : StoreTakes (accept p s) := by
  obtain ⟨ring, pos, e⟩ := accept_nv p h
  unfold StoreTakes nvBothOut at *; rw [e]; exact h

theorem accept_jr (p : Packet) {s : State} (h : StoreTakes s) : (accept p s).jr = s.jr := by
  obtain ⟨ring, pos, e⟩ := accept_sound p h
  rw [e, pushReply_jr]

theorem accept_store (p : Packet) {s : State} (h : StoreTakes s) : CommandStore s (accept p s) := by
  obtain ⟨ring, pos, e⟩ := accept_nv p h
  exact ⟨by rw [e], fun hw => by rw [e]; exact ⟨hw, rfl, rfl, rfl, rfl, rfl⟩⟩

theorem putOutcome_store (o : OutcomeEntry) {s : State} (h : StoreTakes s) : CommandStore s (putOutcome o s) := by
  rw [putOutcome_sound o h]
  exact ⟨rfl, fun hw => ⟨hw, rfl, rfl, rfl, rfl, rfl⟩⟩

theorem commitOutcome_commandStore (c : Chain) (status : Byte) (data : List Byte) {s : State} (h : StoreTakes s) :
    CommandStore s (commitOutcome c status data s) :=
  (putOutcome_store _ h).trans (commitOutcome_store c status data h).command

/-- The outcome of a command that is not safety-affecting raises no event. -/
theorem commitOutcome_jr (c : Chain) (status : Byte) (data : List Byte) {s : State} (h : StoreTakes s)
    (hc : safetyOp c.opcode = false) : (commitOutcome c status data s).jr = s.jr := by
  rw [commitOutcome_sound c status data h]
  simp [hc, putOutcome_sound _ h]

/-! ## A sequenced command that ends at once -/

/-- The state in which a sequenced command in order executes: heard and accepted. -/
def seqStart (p : Packet) (s : State) : State := accept p (heard p s)

theorem seqStart_hostFrame (p : Packet) {s : State} (h : StoreTakes s) : HostFrame s (seqStart p s) :=
  (heard_hostFrame p s).trans (accept_hostFrame p (heard_takes p h))

theorem seqStart_takes (p : Packet) {s : State} (h : StoreTakes s) : StoreTakes (seqStart p s) :=
  accept_takes p (heard_takes p h)

theorem seqStart_jr (p : Packet) {s : State} (h : StoreTakes s) : (seqStart p s).jr = (touchBus s).jr :=
  accept_jr p (heard_takes p h)

theorem seqStart_store (p : Packet) {s : State} (h : StoreTakes s) : CommandStore s (seqStart p s) :=
  (touchBus_store s).command.trans (accept_store p (heard_takes p h))

theorem seqStart_chains (p : Packet) {s : State} (h : StoreTakes s) (hc : s.nv.chains = []) :
    (seqStart p s).nv.chains = [p.chain] := by
  obtain ⟨ring, pos, e⟩ := accept_nv p (heard_takes p h)
  unfold seqStart
  rw [e, heard_chains, hc]
  rfl

/-- A sequenced command in order whose execution ends at once, without an act that follows its outcome and with the store as the
packet left it: its outcome is committed, and the state is the execution's up to that. -/
theorem receivePacket_ends {op : Byte} {tag : BitVec 3} {csn : Word} {params : List Byte} {s u : State} {status : Byte}
    {data : List Byte} (h : Accepts tag s) (hi : InOrder csn s) (ho : opSequenced op = some true) (hl : params.length ≤ 508)
    (hd : data.length ≤ 16) (hu : u.nv = (seqStart (seqPacket op tag csn params) s).nv)
    (hx : execCommand op csn params (seqStart (seqPacket op tag csn params) s) = ends (status, data, u)) :
    let p := seqPacket op tag csn params
    let t := receivePacket p s
    Done p status data t ∧ HostFrame u t ∧ CommandStore s t ∧ (safetyOp op = false → t.jr = u.jr) := by
  intro p t
  obtain ⟨hc, hr, he, hn⟩ := hi
  have hut : StoreTakes u := by have := seqStart_takes p hn; unfold StoreTakes nvBothOut at *; rwa [hu]
  have huc : u.nv.chains = [p.chain] := by rw [hu, seqStart_chains p hn hc]
  obtain ⟨a1, a2, a3⟩ := commitOutcome_alone p.chain status data hut huc
  have ht : t = commitOutcome p.chain status data u := by
    show receivePacket p s = _
    rw [receivePacket_seq h ⟨hc, hr, he, hn⟩ ho hl]
    have hrun : runChain p.chain (accept p (heard p s)) = commitOutcome p.chain status data u := by
      unfold runChain
      rw [show execCommand p.chain.opcode p.chain.csn p.chain.params (accept p (heard p s)) = ends (status, data, u) from hx]
      unfold concludeExec
      exact ite_self _
    rw [hrun, drain_none _ _ a1]
  have hk : data.take 16 = data := List.take_of_length_le hd
  rw [ht]
  refine ⟨⟨⟨a2, a1, commitOutcome_running _ _ _ hut, ?_⟩, ?_⟩, commitOutcome_hostFrame .., ?_, ?_⟩
  · rw [hk] at a3; exact a3
  · have reply := commitOutcome_reply p.chain status data hut
    rw [hk] at reply; exact reply
  · have hs : CommandStore (seqStart p s) u := ⟨by rw [hu], fun hw => by rw [hu]; exact ⟨hw, rfl, rfl, rfl, rfl, rfl⟩⟩
    exact ((seqStart_store p hn).trans hs).trans (commitOutcome_commandStore _ _ _ hut)
  · exact commitOutcome_jr p.chain status data hut

/-! ## The entries of a WRITE_HRF (Table 15-3) -/

theorem length_leBytes (n x : Nat) : (leBytes n x).length = n := by simp [leBytes]

@[simp] theorem length_hrfEntry (i : Nat) (m v : Word) : (hrfEntry i m v).length = 12 := by
  simp [hrfEntry, bytes4, length_leBytes]

/-- Bytes past leading ones of known length are those of the rest. -/
theorem byteAt_append (l r : List Byte) (n : Nat) : byteAt (l ++ r) (l.length + n) = byteAt r n := by
  rw [byteAt, List.getElem?_append_right (Nat.le_add_right _ _), Nat.add_sub_cancel_left, byteAt]

theorem wordAt_append (l r : List Byte) (n : Nat) : wordAt (l ++ r) (l.length + n) = wordAt r n := by
  rw [wordAt, leAt, ← List.drop_drop, List.drop_left, wordAt, leAt]

theorem writeEntries_append (l r : List Byte) (hl : l.length = 12) :
    writeEntries (l ++ r) = { index := (byteAt (l ++ r) 0).toNat, mask := wordAt (l ++ r) 4, value := wordAt (l ++ r) 8 }
      :: writeEntries r := by
  have hn : (l ++ r).length / 12 = r.length / 12 + 1 := by simp [hl]
  unfold writeEntries
  rw [hn, List.range_succ_eq_map, List.map_cons, List.map_map]
  congr 1
  refine List.map_congr_left fun i _ => ?_
  simp only [Function.comp, Nat.succ_eq_add_one]
  rw [show 12 * (i + 1) = l.length + 12 * i by omega, byteAt_append, add_assoc, wordAt_append, add_assoc, wordAt_append]

theorem byteAt_hrfEntry (i : Nat) (m v : Word) (r : List Byte) (h : i < 256) :
    (byteAt (hrfEntry i m v ++ r) 0).toNat = i := by
  simp [byteAt, hrfEntry, leBytes, List.range_succ]
  omega

theorem ofLe_leBytes4 (x : Word) : BitVec.ofNat 32 (ofLe (leBytes 4 x.toNat)) = x := by
  apply BitVec.eq_of_toNat_eq
  simp [ofLe, leBytes, List.range_succ]
  omega

theorem wordAt_mid (l r : List Byte) (x : Word) : wordAt (l ++ (bytes4 x ++ r)) l.length = x := by
  have h := wordAt_append l (bytes4 x ++ r) 0
  rw [Nat.add_zero] at h
  rw [h]
  unfold wordAt leAt
  rw [List.drop_zero, List.take_append_of_le_length (by simp [bytes4, length_leBytes]),
    List.take_of_length_le (by simp [bytes4, length_leBytes])]
  exact ofLe_leBytes4 x

theorem wordAt_hrfEntry_mask (i : Nat) (m v : Word) (r : List Byte) : wordAt (hrfEntry i m v ++ r) 4 = m := by
  simpa [hrfEntry, length_leBytes] using wordAt_mid (leBytes 4 i) (bytes4 v ++ r) m

theorem wordAt_hrfEntry_value (i : Nat) (m v : Word) (r : List Byte) : wordAt (hrfEntry i m v ++ r) 8 = v := by
  simpa [hrfEntry, bytes4, length_leBytes] using wordAt_mid (leBytes 4 i ++ bytes4 m) r v

/-- The bytes of entries read back as the entries. -/
theorem writeEntries_flatMap (ws : List RegWrite) (h : ∀ e ∈ ws, e.index < 256) :
    writeEntries (ws.flatMap fun e => hrfEntry e.index e.mask e.value) = ws := by
  induction ws with
  | nil => rfl
  | cons e r ih =>
    obtain ⟨he, hr⟩ := List.forall_mem_cons.1 h
    rw [List.flatMap_cons, writeEntries_append _ _ (length_hrfEntry ..), byteAt_hrfEntry _ _ _ _ he, wordAt_hrfEntry_mask,
      wordAt_hrfEntry_value, ih hr]

theorem length_entries (ws : List RegWrite) :
    (ws.flatMap fun e => hrfEntry e.index e.mask e.value).length = 12 * ws.length := by
  induction ws with
  | nil => rfl
  | cons e r ih => rw [List.flatMap_cons, List.length_append, ih, length_hrfEntry, List.length_cons]; omega

/-! ## The registers with RW fields (Table 15-13) -/

/-- The registers of Table 15-13 that have RW fields. -/
inductive RwReg : Nat → Prop
  | tbCtrl : RwReg 0x11
  | comp : RwReg 0x18
  | holdoverMax : RwReg 0x19
  | speed : RwReg 0x21
  | attnPer : RwReg 0x23
  | attnEn : RwReg 0x24
  | silence : RwReg 0x25
  | snapCtrl : RwReg 0x66
  | snapAddr : RwReg 0x68
  | wpCtrl : RwReg 0x81
  | user (k : Nat) (hk : k < 8) : RwReg (8 + k)
  | evEnable (k : Nat) (hk : k < 8) : RwReg (0x90 + k)

/-- Table 15-13 is `rwBits`: a register without RW bits is none of these. -/
theorem rwReg_of_rwBits {i : Nat} (h : rwBits i ≠ 0) : RwReg i := by
  unfold rwBits at h
  split at h
  next hu => obtain ⟨k, rfl⟩ := Nat.exists_eq_add_of_le hu.1; exact .user k (by omega)
  next =>
    split at h
    next he => obtain ⟨k, rfl⟩ := Nat.exists_eq_add_of_le he.1; exact .evEnable k (by omega)
    next =>
      split at h
      · exact .tbCtrl
      · exact .comp
      · exact .holdoverMax
      · exact .speed
      · exact .attnPer
      · exact .attnEn
      · exact .silence
      · exact .snapCtrl
      · exact .snapAddr
      · exact .wpCtrl
      · exact .evEnable 7 (by decide)
      · exact absurd rfl h

@[simp] theorem hrf_tbCtrl (s : State) : hrf 0x11 s = tbCtrl s := rfl
@[simp] theorem hrf_comp (s : State) : hrf 0x18 s = s.set.comp.signExtend 32 := rfl
@[simp] theorem hrf_holdoverMax (s : State) : hrf 0x19 s = s.set.holdoverMax := rfl
@[simp] theorem hrf_speed (s : State) : hrf 0x21 s = s.set.speed.setWidth 32 := rfl
@[simp] theorem hrf_attnPer (s : State) : hrf 0x23 s = s.set.attnPer.setWidth 32 := rfl
@[simp] theorem hrf_attnEn (s : State) : hrf 0x24 s = s.set.attnEn.setWidth 32 := rfl
@[simp] theorem hrf_silence (s : State) : hrf 0x25 s = s.set.silence.setWidth 32 := rfl
@[simp] theorem hrf_snapCtrl (s : State) : hrf 0x66 s = pack [(0, s.en.hold.toNat), (1, s.en.hold.toNat)] := rfl
@[simp] theorem hrf_snapAddr (s : State) : hrf 0x68 s = s.en.snapAddr.setWidth 32 := rfl
@[simp] theorem hrf_wpCtrl (s : State) : hrf 0x81 s =
    pack [(0, s.set.dark.toNat), (4, s.set.printClass.toNat), (7, s.set.printEnable.toNat), (8, s.set.paused.toNat)] := rfl

@[simp] theorem putReg_tbCtrl (w : Word) (s : State) : putReg 0x11 w s =
    { s with
      set := { s.set with
        ppsEdge := w.getLsbD 2, irigCf := w.getLsbD 3, tsyncEn := w.getLsbD 4, tsyncAlways := w.getLsbD 5,
        tsyncWidth := (w >>> 16).setWidth 9 }
      dev := (writeTbCtrl w s).dev } := rfl
@[simp] theorem putReg_comp (w : Word) (s : State) : putReg 0x18 w s = { s with set := { s.set with comp := w.setWidth 16 } } := rfl
@[simp] theorem putReg_holdoverMax (w : Word) (s : State) : putReg 0x19 w s = { s with set := { s.set with holdoverMax := w } } := rfl
@[simp] theorem putReg_speed (w : Word) (s : State) : putReg 0x21 w s = { s with set := { s.set with speed := w.setWidth 2 } } := rfl
@[simp] theorem putReg_attnPer (w : Word) (s : State) :
    putReg 0x23 w s = { s with set := { s.set with attnPer := w.setWidth 16 } } := rfl
@[simp] theorem putReg_attnEn (w : Word) (s : State) : putReg 0x24 w s =
    { s with set := { s.set with attnEn := w.setWidth 8 }, hb := (enableCauses (w.setWidth 8) s).hb } := rfl
@[simp] theorem putReg_silence (w : Word) (s : State) :
    putReg 0x25 w s = { s with set := { s.set with silence := w.setWidth 16 } } := rfl
@[simp] theorem putReg_snapCtrl (w : Word) (s : State) : putReg 0x66 w s =
    { s with en := { s.en with hold := w.getLsbD 0, snapRead := if w.getLsbD 0 then s.en.snapRead else s.en.snapNew } } := rfl
@[simp] theorem putReg_snapAddr (w : Word) (s : State) :
    putReg 0x68 w s = { s with en := { s.en with snapAddr := w.setWidth 12 } } := rfl
@[simp] theorem putReg_wpCtrl (w : Word) (s : State) : putReg 0x81 w s =
    { s with set := { s.set with
        dark := w.setWidth 3, printClass := (w >>> 4).setWidth 3, printEnable := w.getLsbD 7 } } := rfl

theorem hrf_user {k : Nat} (hk : k < 8) (s : State) : hrf (8 + k) s = s.aorf.user[k] := by
  interval_cases k <;> rfl

theorem hrf_evEnable {k : Nat} (hk : k < 8) (s : State) :
    hrf (0x90 + k) s = s.set.evEnable[k] &&& rwBits (0x90 + k) := by
  rcases Nat.lt_succ_iff_lt_or_eq.1 hk with h | rfl
  · have all : ∀ x : Word, x &&& 0xFFFFFFFF = x := fun x => BitVec.and_allOnes
    interval_cases k <;> exact (all _).symm
  · rfl

theorem putReg_user {k : Nat} (hk : k < 8) (w : Word) (s : State) :
    putReg (8 + k) w s = { s with aorf := { s.aorf with user := s.aorf.user.setIfInBounds k w } } := by
  unfold putReg; rw [if_pos (by omega), Nat.add_sub_cancel_left]

theorem putReg_evEnable {k : Nat} (hk : k < 8) (w : Word) (s : State) :
    putReg (0x90 + k) w s = { s with set := { s.set with evEnable := s.set.evEnable.setIfInBounds k w } } := by
  unfold putReg; rw [if_neg (by omega), if_pos (by omega), Nat.add_sub_cancel_left]

/-- What such a register shows rests on the settings, the engine's registers and the host words alone. -/
theorem hrf_congr {i : Nat} (hi : RwReg i) {s t : State} (hs : t.set = s.set) (he : t.en = s.en)
    (hu : t.aorf.user = s.aorf.user) : hrf i t = hrf i s := by
  cases hi with
  | user k hk => rw [hrf_user hk, hrf_user hk]; simp only [hu]
  | evEnable k hk => rw [hrf_evEnable hk, hrf_evEnable hk]; simp only [hs]
  | snapCtrl => rw [hrf_snapCtrl, hrf_snapCtrl, he]
  | snapAddr => rw [hrf_snapAddr, hrf_snapAddr, he]
  | tbCtrl => rw [hrf_tbCtrl, hrf_tbCtrl]; unfold tbCtrl; rw [hs]
  | comp => rw [hrf_comp, hrf_comp, hs]
  | holdoverMax => rw [hrf_holdoverMax, hrf_holdoverMax, hs]
  | speed => rw [hrf_speed, hrf_speed, hs]
  | attnPer => rw [hrf_attnPer, hrf_attnPer, hs]
  | attnEn => rw [hrf_attnEn, hrf_attnEn, hs]
  | silence => rw [hrf_silence, hrf_silence, hs]
  | wpCtrl => rw [hrf_wpCtrl, hrf_wpCtrl, hs]

/-- A write to one register shows in no other. -/
theorem hrf_putReg_ne {i j : Nat} (hi : RwReg i) (hj : RwReg j) (hne : j ≠ i) (w : Word) (s : State) :
    hrf j (putReg i w s) = hrf j s := by
  cases hi with
  | user k hk =>
    rw [putReg_user hk]
    cases hj with
    | user l hl => rw [hrf_user hl, hrf_user hl]; exact Vector.getElem_setIfInBounds_ne hl (by omega)
    | evEnable l hl => rw [hrf_evEnable hl, hrf_evEnable hl]
    | _ => simp [tbCtrl]
  | evEnable k hk =>
    rw [putReg_evEnable hk]
    cases hj with
    | user l hl => rw [hrf_user hl, hrf_user hl]
    | evEnable l hl =>
      rw [hrf_evEnable hl, hrf_evEnable hl]
      exact congrArg (· &&& rwBits (0x90 + l)) (Vector.getElem_setIfInBounds_ne hl (by omega))
    | _ => simp [tbCtrl]
  | _ =>
    cases hj with
    | user l hl => rw [hrf_user hl, hrf_user hl]; simp
    | evEnable l hl => rw [hrf_evEnable hl, hrf_evEnable hl]; simp
    | _ => simp [tbCtrl] at hne ⊢
/-- A bit as a number, from the number it stands in. -/
theorem toNat_getLsbD {n : Nat} (w : BitVec n) (i : Nat) : (w.getLsbD i).toNat = w.toNat / 2 ^ i % 2 := by
  rw [BitVec.getLsbD, Nat.toNat_testBit]

theorem signExtend_setWidth_of_inRange (w : Word) (h : inRange 0x18 w = true) :
    (w.setWidth 16).signExtend 32 = w := by
  have hw : -32768 ≤ w.toInt ∧ w.toInt ≤ 32767 := by simpa [inRange] using h
  apply BitVec.eq_of_toInt_eq
  rw [BitVec.toInt_signExtend_of_le (by decide), BitVec.toInt_setWidth]
  rw [BitVec.toInt_eq_toNat_bmod] at *
  have := w.isLt
  simp only [Int.bmod] at *
  omega

theorem setWidth_16_of_lt (w : Word) (h : w.toNat < 65536) : (w.setWidth 16).setWidth 32 = w := by
  apply BitVec.eq_of_toNat_eq; simp; omega

/-- Two words agree under a mask where they agree in its bits. -/
theorem and_eq_and_of_bits {x y m : Word} (h : ∀ i < 32, m.getLsbD i = true → x.getLsbD i = y.getLsbD i) :
    x &&& m = y &&& m := by
  apply BitVec.eq_of_getLsbD_eq
  intro i hi
  rw [BitVec.getLsbD_and, BitVec.getLsbD_and]
  cases hm : m.getLsbD i with
  | false => simp
  | true => rw [h i hi hm]

/-- A word cut to the width of a mask keeps its bits. -/
theorem setWidth_and_of_lt (w m : Word) (n : Nat) (hm : m.toNat < 2 ^ n) : (w.setWidth n).setWidth 32 &&& m = w &&& m := by
  refine and_eq_and_of_bits fun i hi h => ?_
  have hn : i < n := by
    by_contra hle
    rw [BitVec.getLsbD, Nat.testBit_lt_two_pow (lt_of_lt_of_le hm (Nat.pow_le_pow_right (by decide) (not_lt.1 hle)))] at h
    cases h
  simp [hi, hn]

/-! ### Words packed from the fields of another word -/

theorem foldl_fields (a : Nat) (fs : List (Nat × Nat)) :
    fs.foldl (fun a f => a + f.2 * 2 ^ f.1) a = a + fs.foldl (fun a f => a + f.2 * 2 ^ f.1) 0 := by
  induction fs generalizing a with
  | nil => rfl
  | cons f r ih => rw [List.foldl_cons, List.foldl_cons, ih, ih (0 + _)]; omega

/-- A packed word, field by field. -/
theorem pack_cons (o v : Nat) (fs : List (Nat × Nat)) : pack ((o, v) :: fs) = BitVec.ofNat 32 (v * 2 ^ o) + pack fs := by
  unfold pack; rw [List.foldl_cons, foldl_fields, BitVec.ofNat_add, Nat.zero_add]

theorem pack_nil : pack [] = BitVec.ofNat 32 0 := rfl

theorem testBit_add_of_lt {L o i : Nat} (f : Nat) (hL : L < 2 ^ o) (hi : i < o) : (L + f * 2 ^ o).testBit i = L.testBit i := by
  rw [add_comm, mul_comm, Nat.testBit_two_pow_mul_add _ hL, if_pos hi]

/-- A field of a word copied to its own place above lower bits holds the word's bits. -/
theorem testBit_add_field {L o n i : Nat} (W : Nat) (hL : L < 2 ^ o) (ho : o ≤ i) (hn : i < o + n) :
    (L + W / 2 ^ o % 2 ^ n * 2 ^ o).testBit i = W.testBit i := by
  rw [add_comm, mul_comm, Nat.testBit_two_pow_mul_add _ hL, if_neg (not_lt.2 ho), Nat.testBit_mod_two_pow,
    Nat.testBit_div_two_pow, Nat.sub_add_cancel ho, decide_eq_true (by omega : i - o < n), Bool.true_and]

theorem ofNat_and_eq_and {w m : Word} {x : Nat} (h : ∀ i < 32, m.getLsbD i = true → x.testBit i = w.toNat.testBit i) :
    BitVec.ofNat 32 x &&& m = w &&& m :=
  and_eq_and_of_bits fun i hi hm => by rw [BitVec.getLsbD_ofNat, h i hi hm, decide_eq_true hi, Bool.true_and]; rfl

theorem pack_tbCtrl (w : Word) (src : BitVec 2) :
    pack [(0, src.toNat), (2, (w.getLsbD 2).toNat), (3, (w.getLsbD 3).toNat), (4, (w.getLsbD 4).toNat),
      (5, (w.getLsbD 5).toNat), (16, ((w >>> 16).setWidth 9).toNat)]
    = BitVec.ofNat 32 (src.toNat + w.toNat / 2 ^ 2 % 2 ^ 4 * 2 ^ 2 + w.toNat / 2 ^ 16 % 2 ^ 9 * 2 ^ 16) := by
  simp only [pack_cons, pack_nil, ← BitVec.ofNat_add, toNat_getLsbD, BitVec.toNat_setWidth, BitVec.toNat_ushiftRight,
    Nat.shiftRight_eq_div_pow]
  congr 1; omega

theorem pack_wpCtrl (w : Word) (paused : Nat) :
    pack [(0, (w.setWidth 3).toNat), (4, ((w >>> 4).setWidth 3).toNat), (7, (w.getLsbD 7).toNat), (8, paused)]
    = BitVec.ofNat 32 (w.toNat % 2 ^ 3 + w.toNat / 2 ^ 4 % 2 ^ 4 * 2 ^ 4 + paused * 2 ^ 8) := by
  simp only [pack_cons, pack_nil, ← BitVec.ofNat_add, toNat_getLsbD, BitVec.toNat_setWidth, BitVec.toNat_ushiftRight,
    Nat.shiftRight_eq_div_pow]
  congr 1; omega

theorem pack_snapCtrl (w : Word) (held : Nat) :
    pack [(0, (w.getLsbD 0).toNat), (1, held)] = BitVec.ofNat 32 (w.toNat % 2 ^ 1 + held * 2 ^ 1) := by
  simp only [pack_cons, pack_nil, ← BitVec.ofNat_add, toNat_getLsbD]
  congr 1; omega

/-- TB_CTRL from its writable fields, above SRC. -/
theorem tbCtrl_fields (w : Word) (src : BitVec 2) :
    BitVec.ofNat 32 (src.toNat + w.toNat / 2 ^ 2 % 2 ^ 4 * 2 ^ 2 + w.toNat / 2 ^ 16 % 2 ^ 9 * 2 ^ 16) &&& 0x01FF003C
      = w &&& 0x01FF003C := by
  refine ofNat_and_eq_and fun i hi hm => ?_
  have hs : src.toNat < 2 ^ 2 := src.isLt
  have hr : 2 ≤ i ∧ i < 2 + 4 ∨ 16 ≤ i ∧ i < 16 + 9 := by revert hm; interval_cases i <;> simp
  rcases hr with ⟨h2, h6⟩ | ⟨h16, h25⟩
  · rw [testBit_add_of_lt _ (by omega) (by omega), testBit_add_field _ hs h2 h6]
  · rw [testBit_add_field _ (by omega) h16 h25]

/-- WP_CTRL from its writable fields, below PAUSED. -/
theorem wpCtrl_fields (w : Word) (paused : Nat) :
    BitVec.ofNat 32 (w.toNat % 2 ^ 3 + w.toNat / 2 ^ 4 % 2 ^ 4 * 2 ^ 4 + paused * 2 ^ 8) &&& 0xF7 = w &&& 0xF7 := by
  refine ofNat_and_eq_and fun i hi hm => ?_
  have hr : i < 3 ∨ 4 ≤ i ∧ i < 4 + 4 := by revert hm; interval_cases i <;> simp
  rw [testBit_add_of_lt _ (by omega) (by omega)]
  rcases hr with h3 | ⟨h4, h8⟩
  · rw [testBit_add_of_lt _ (by omega) (by omega), Nat.testBit_mod_two_pow, decide_eq_true h3, Bool.true_and]
  · rw [testBit_add_field _ (by omega) h4 h8]

/-- EN_SNAP_CTRL from HOLD, below the bit that shows it. -/
theorem snapCtrl_fields (w : Word) (held : Nat) :
    BitVec.ofNat 32 (w.toNat % 2 ^ 1 + held * 2 ^ 1) &&& 1 = w &&& 1 := by
  refine ofNat_and_eq_and fun i hi hm => ?_
  have hr : i < 1 := by revert hm; interval_cases i <;> simp
  rw [testBit_add_of_lt _ (by omega) hr, Nat.testBit_mod_two_pow, decide_eq_true hr, Bool.true_and]

/-- A register shows the word put into it, in its RW bits. -/
theorem hrf_putReg_same {i : Nat} (hi : RwReg i) (w : Word) (s : State)
    (h : rangedBits i = 0xFFFFFFFF → inRange i w = true) : hrf i (putReg i w s) &&& rwBits i = w &&& rwBits i := by
  cases hi with
  | user k hk => rw [putReg_user hk, hrf_user hk]; simp
  | evEnable k hk => rw [putReg_evEnable hk, hrf_evEnable hk, BitVec.and_assoc, BitVec.and_self]; simp
  | comp => simp [signExtend_setWidth_of_inRange w (h rfl)]
  | holdoverMax => simp
  | attnPer =>
    have hw : 1 ≤ w.toNat ∧ w.toNat ≤ 1000 := by simpa [inRange] using h rfl
    simp [setWidth_16_of_lt w (by omega)]
  | silence =>
    have hw : w = 0 ∨ 10 ≤ w.toNat ∧ w.toNat ≤ 60000 := by simpa [inRange] using h rfl
    have h16 : w.toNat < 65536 := by
      rcases hw with rfl | hw
      · decide
      · omega
    rw [hrf_silence, putReg_silence, setWidth_16_of_lt w h16]
  | speed => exact setWidth_and_of_lt w 3 2 (by decide)
  | attnEn => exact setWidth_and_of_lt w 0xFF 8 (by decide)
  | snapAddr => exact setWidth_and_of_lt w 0xFFF 12 (by decide)
  | snapCtrl => rw [hrf_snapCtrl, putReg_snapCtrl, pack_snapCtrl]; exact snapCtrl_fields w _
  | wpCtrl => rw [hrf_wpCtrl, putReg_wpCtrl]; exact (congrArg (· &&& _) (pack_wpCtrl w _)).trans (wpCtrl_fields w _)
  | tbCtrl => rw [hrf_tbCtrl, putReg_tbCtrl]; exact (congrArg (· &&& _) (pack_tbCtrl w _)).trans (tbCtrl_fields w _)

/-! ## Entries applied (R303) -/

theorem putReg_hostFrame (i : Nat) (w : Word) {s t : State} (h : HostFrame s t) :
    HostFrame (putReg i w s) (putReg i w t) := by
  unfold HostFrame at *
  rw [h]
  unfold putReg
  split
  · rfl
  · split
    · rfl
    · split <;> rfl

theorem clearReg_hostFrame (i : Nat) (bits : Word) {s t : State} (h : HostFrame s t) :
    HostFrame (clearReg i bits s) (clearReg i bits t) := by
  unfold HostFrame at *
  rw [h]
  unfold clearReg
  split
  · rfl
  · split <;> rfl

theorem putReg_nv (i : Nat) (w : Word) (s : State) : (putReg i w s).nv = s.nv := by
  unfold putReg
  split
  · rfl
  · split
    · rfl
    · split <;> rfl

theorem clearReg_nv (i : Nat) (bits : Word) (s : State) : (clearReg i bits s).nv = s.nv := by
  unfold clearReg
  split
  · rfl
  · split <;> rfl

theorem applyWrite_nv (e : RegWrite) (s : State) : (applyWrite e s).nv = s.nv := by
  unfold applyWrite
  rw [clearReg_nv]
  split
  · rfl
  · rw [putReg_nv]

theorem applyWrites_nv {l : List RegWrite} {s u : State} (h : applyWrites l s = some u) : u.nv = s.nv := by
  induction l generalizing s with
  | nil => cases h; rfl
  | cons e r ih =>
    unfold applyWrites at h
    split at h
    · rw [ih h, applyWrite_nv]
    · cases h

theorem mergeReg_congr {e : RegWrite} (he : RwReg e.index) {s t : State} (h : HostFrame s t) : mergeReg e t = mergeReg e s := by
  unfold mergeReg
  rw [hrf_congr he h.set h.en (by rw [h.aorf])]

/-- A range is stated for RW fields alone. -/
theorem rangedBits_of_rwBits {i : Nat} (h : rwBits i = 0) : rangedBits i = 0 := by
  unfold rangedBits
  split
  case h_8 => rfl
  all_goals exact absurd h (by decide)

theorem writeOk_congr (e : RegWrite) {s t : State} (h : HostFrame s t) : writeOk e t = writeOk e s := by
  unfold writeOk
  by_cases hw : rwBits e.index = 0
  · simp [rangedBits_of_rwBits hw]
  · rw [mergeReg_congr (rwReg_of_rwBits hw) h]

theorem applyWrite_hostFrame (e : RegWrite) {s t : State} (h : HostFrame s t) :
    HostFrame (applyWrite e s) (applyWrite e t) := by
  unfold applyWrite
  refine clearReg_hostFrame _ _ ?_
  split
  · exact h
  next hm =>
    rw [mergeReg_congr (rwReg_of_rwBits fun h0 => hm (by simp [h0])) h]
    exact putReg_hostFrame _ _ h

/-- What a WRITE_HRF makes of the registers does not rest on the command layer, the bus, the journal and the store. -/
theorem applyWrites_hostFrame {l : List RegWrite} {s t u : State} (h : HostFrame s t) (hu : applyWrites l s = some u) :
    ∃ v, applyWrites l t = some v ∧ HostFrame u v := by
  induction l generalizing s t with
  | nil => cases hu; exact ⟨t, rfl, h⟩
  | cons e r ih =>
    unfold applyWrites at hu ⊢
    rw [writeOk_congr e h]
    split at hu
    next ho => rw [if_pos ho]; exact ih (applyWrite_hostFrame e h) hu
    next => cases hu

theorem applyWrites_outOfRange {l r : List RegWrite} {e : RegWrite} {s u : State} (hu : applyWrites l s = some u)
    (he : writeOk e u = false) : applyWrites (l ++ e :: r) s = none := by
  induction l generalizing s with
  | nil => cases hu; simp [applyWrites, he]
  | cons d l ih =>
    rw [List.cons_append]
    unfold applyWrites at hu ⊢
    split at hu
    next ho => rw [if_pos ho]; exact ih hu
    next => cases hu

theorem applyWrites_one (e : RegWrite) (s : State) :
    applyWrites [e] s = if writeOk e s then some (applyWrite e s) else none := rfl

/-! ## One entry -/

theorem applyWrite_of_rwReg {e : RegWrite} (he : RwReg e.index) (s : State) :
    applyWrite e s = if e.mask &&& rwBits e.index = 0 then s else putReg e.index (mergeReg e s) s := by
  have h1 : e.index ≠ 0x01 ∧ ¬ (0x98 ≤ e.index ∧ e.index ≤ 0x9F) := by
    generalize e.index = i at he
    cases he <;> omega
  unfold applyWrite clearReg
  rw [if_neg h1.1, if_neg h1.2]

theorem mergeReg_untouched {e : RegWrite} (h : e.mask &&& rwBits e.index = 0) (s : State) :
    mergeReg e s = hrf e.index s := by
  have hz : hrf e.index s &&& 0xFFFFFFFF = hrf e.index s := BitVec.and_allOnes
  simpa [mergeReg, h] using hz

theorem hrf_applyWrite_same {e : RegWrite} (he : RwReg e.index) {s : State} (h : writeOk e s = true) :
    hrf e.index (applyWrite e s) &&& rwBits e.index = mergeReg e s &&& rwBits e.index := by
  rw [applyWrite_of_rwReg he]
  split
  next hm => rw [mergeReg_untouched hm]
  next hm =>
    refine hrf_putReg_same he _ s fun hr => ?_
    unfold writeOk at h
    rw [hr, Bool.or_eq_true, beq_iff_eq] at h
    refine h.resolve_left fun h0 => hm ?_
    simp [show e.mask = 0 from BitVec.and_allOnes.symm.trans h0]

theorem hrf_applyWrite_ne {e : RegWrite} (he : RwReg e.index) {j : Nat} (hj : RwReg j) (hne : j ≠ e.index) (s : State) :
    hrf j (applyWrite e s) = hrf j s := by
  rw [applyWrite_of_rwReg he]
  split
  · rfl
  · exact hrf_putReg_ne he hj hne _ s

theorem applyWrite_of_readOnly {e : RegWrite} (hr : rwBits e.index = 0) (hw : w1cBits e.index = 0) (s : State) :
    applyWrite e s = s := by
  have h1 : e.index ≠ 0x01 ∧ ¬ (0x98 ≤ e.index ∧ e.index ≤ 0x9F) := by
    unfold w1cBits at hw
    constructor
    · intro h; rw [if_pos h] at hw; cases hw
    · intro h; rw [if_neg (by omega), if_pos h] at hw; cases hw
  unfold applyWrite clearReg
  rw [if_neg h1.1, if_neg h1.2, hr, if_pos (by simp)]

theorem writeOk_of_readOnly {e : RegWrite} (hr : rwBits e.index = 0) (s : State) : writeOk e s = true := by
  unfold writeOk; simp [rangedBits_of_rwBits hr]

/-! ## WRITE_HRF executed (R303) -/

/-- What WRITE_HRF leaves of the registers where its entries give u. -/
def WritesShow (u t : State) : Prop :=
  t.set = u.set ∧ t.en = u.en ∧ t.dev = u.dev ∧ t.tb = u.tb ∧ t.aorf.user = u.aorf.user
    ∧ t.aorf.settingsDiffer = decide (u.set ≠ defaultsOf u)

theorem defaultsOf_congr {s t : State} (h : t.en = s.en) : defaultsOf t = defaultsOf s := by
  unfold defaultsOf; rw [h]

theorem noteSettings_user (s : State) : (noteSettings s).aorf.user = s.aorf.user := rfl

theorem noteSettings_differ (s : State) : (noteSettings s).aorf.settingsDiffer = decide (s.set ≠ defaultsOf s) := rfl

theorem writesShow_of_noteSettings {u v t : State} (h : HostFrame u v) (ht : HostFrame (noteSettings v) t) :
    WritesShow u t := by
  refine ⟨ht.set.trans h.set, ht.en.trans h.en, ht.dev.trans h.dev, ht.tb.trans h.tb, ?_, ?_⟩
  · rw [ht.aorf, noteSettings_user, h.aorf]
  · rw [ht.aorf, noteSettings_differ, defaultsOf_congr h.en, h.set]

theorem writeRegs_some {l : List RegWrite} {s u : State} (h : applyWrites l s = some u) :
    writeRegs l s = (stOk, [BitVec.ofNat 8 l.length], noteSettings u) := by
  unfold writeRegs; rw [h]

theorem writeRegs_none {l : List RegWrite} {s : State} (h : applyWrites l s = none) :
    writeRegs l s = (stBadParam, [], s) := by
  unfold writeRegs; rw [h]

section
variable {s : State} {tag : BitVec 3} {csn : Word} (hs : Accepts tag s) (hi : InOrder csn s) {ws : List RegWrite}
  (h1 : 1 ≤ ws.length) (h16 : ws.length ≤ 16) (hx : ∀ e ∈ ws, e.index < 256) {params : List Byte}
  (hp : params = ws.flatMap fun e => hrfEntry e.index e.mask e.value)

include hp in
theorem length_params : params.length = 12 * ws.length := by rw [hp, length_entries]

include h1 h16 hx hp in
theorem execCommand_writes (csn : Word) (s : State) : execCommand 0x06 csn params s = ends (writeRegs ws s) := by
  have hl : lengthOk 0x06 params.length = true := by
    rw [length_params hp]
    show (12 * ws.length % 12 == 0 && between 1 (12 * ws.length / 12) 16) = true
    simp [between]
    omega
  unfold execCommand
  rw [if_pos hl]
  show ends (writeRegs (writeEntries params) s) = _
  rw [hp, writeEntries_flatMap ws hx]

include hs hi h1 h16 hx hp

/-- Entries that are all in range are applied. -/
theorem receivePacket_writes {u : State} (hu : applyWrites ws s = some u) :
    let p := seqPacket 0x06 tag csn params
    ∃ v, applyWrites ws (seqStart p s) = some v ∧ Done p stOk [BitVec.ofNat 8 ws.length] (receivePacket p s)
      ∧ WritesShow u (receivePacket p s) ∧ CommandStore s (receivePacket p s) ∧ (receivePacket p s).jr = v.jr := by
  intro p
  obtain ⟨v, hv, huv⟩ := applyWrites_hostFrame (seqStart_hostFrame p hi.2.2.2) hu
  have hexec : execCommand 0x06 csn params (seqStart p s) = ends (stOk, [BitVec.ofNat 8 ws.length], noteSettings v) := by
    rw [execCommand_writes h1 h16 hx hp, writeRegs_some hv]
  obtain ⟨done, frame, store, jr⟩ := receivePacket_ends (data := [BitVec.ofNat 8 ws.length]) hs hi (by decide)
    (by rw [length_params hp]; omega) (by simp) ((noteSettings_nv v).trans (applyWrites_nv hv)) hexec
  exact ⟨v, hv, done, writesShow_of_noteSettings huv frame, store, jr (by decide)⟩

/-- Where one entry is out of range nothing is applied. -/
theorem receivePacket_writes_refused {l r : List RegWrite} {e : RegWrite} {u : State} (hw : ws = l ++ e :: r)
    (hu : applyWrites l s = some u) (he : writeOk e u = false) :
    let p := seqPacket 0x06 tag csn params
    Done p stBadParam [] (receivePacket p s) ∧ HostFrame s (receivePacket p s) ∧ CommandStore s (receivePacket p s)
      ∧ (receivePacket p s).jr = (touchBus s).jr := by
  intro p
  have hf := seqStart_hostFrame p hi.2.2.2
  obtain ⟨v, hv, huv⟩ := applyWrites_hostFrame hf hu
  have hn : applyWrites ws (seqStart p s) = none := by
    rw [hw]; exact applyWrites_outOfRange hv (by rw [writeOk_congr e huv, he])
  have hexec : execCommand 0x06 csn params (seqStart p s) = ends (stBadParam, [], seqStart p s) := by
    rw [execCommand_writes h1 h16 hx hp, writeRegs_none hn]
  obtain ⟨done, frame, store, jr⟩ := receivePacket_ends hs hi (by decide) (by rw [length_params hp]; omega)
    (Nat.zero_le _) rfl hexec
  exact ⟨done, hf.trans frame, store, (jr (by decide)).trans (seqStart_jr _ hi.2.2.2)⟩

end

section
variable {s : State} {tag : BitVec 3} {csn : Word} (hs : Accepts tag s) (hi : InOrder csn s) {i : Nat} (mask v : Word)
  (hx : i < 256)
include hs hi hx

/-- One entry in range. -/
theorem receivePacket_write (ho : writeOk ⟨i, mask, v⟩ s = true) :
    let p := seqPacket 0x06 tag csn (hrfEntry i mask v)
    Done p stOk [1] (receivePacket p s) ∧ WritesShow (applyWrite ⟨i, mask, v⟩ s) (receivePacket p s)
      ∧ CommandStore s (receivePacket p s) ∧ (receivePacket p s).jr = (applyWrite ⟨i, mask, v⟩ (seqStart p s)).jr := by
  intro p
  obtain ⟨a, ha, done, shows, store, jr⟩ := receivePacket_writes hs hi (ws := [⟨i, mask, v⟩]) (by simp) (by simp)
    (by simpa using hx) (params := hrfEntry i mask v) (by simp) (applyWrites_one _ _ |>.trans (if_pos ho))
  rw [applyWrites_one, writeOk_congr _ (seqStart_hostFrame p hi.2.2.2), if_pos ho, Option.some_inj] at ha
  exact ⟨done, shows, store, jr.trans (congrArg State.jr ha.symm)⟩

/-- One entry out of range. -/
theorem receivePacket_write_refused (ho : writeOk ⟨i, mask, v⟩ s = false) :
    let p := seqPacket 0x06 tag csn (hrfEntry i mask v)
    Done p stBadParam [] (receivePacket p s) ∧ HostFrame s (receivePacket p s) := by
  obtain ⟨done, frame, -, -⟩ := receivePacket_writes_refused hs hi (ws := [⟨i, mask, v⟩]) (by simp) (by simp)
    (by simpa using hx) (params := hrfEntry i mask v) (by simp) (l := []) rfl rfl ho
  exact ⟨done, frame⟩

end

/-! ## What one WRITE_HRF does (Table 15-13) -/

/-- A row of Table 15-13: a register with RW fields, its RW bits, the bits that a range speaks of, and the range. -/
abbrev RwRow := Nat × Word × Word × (Word → Bool)

def rwSingles : List RwRow :=
  [(0x11, 0x01FF003C, 0x01FF0000, fun w => between 1 (w.toNat / 2 ^ 16 % 512) 500),
    (0x18, 0xFFFFFFFF, 0xFFFFFFFF, fun w => decide (-32768 ≤ w.toInt) && decide (w.toInt ≤ 32767)),
    (0x19, 0xFFFFFFFF, 0xFFFFFFFF, fun w => between 1 w.toNat 86400), (0x21, 3, 3, fun w => decide (w.toNat % 4 ≤ 2)),
    (0x23, 0xFFFFFFFF, 0xFFFFFFFF, fun w => between 1 w.toNat 1000), (0x24, 0xFF, 0, fun _ => true),
    (0x25, 0xFFFFFFFF, 0xFFFFFFFF, fun w => w == 0 || between 10 w.toNat 60000), (0x66, 1, 0, fun _ => true),
    (0x68, 0xFFF, 0, fun _ => true), (0x81, 0xF7, 0x70, fun w => decide (w.toNat / 16 % 8 ≤ 5)), (0x97, 0x7FFF, 0, fun _ => true)]

def rwWords (i n : Nat) : List RwRow := (List.range n).map (fun k => (i + k, 0xFFFFFFFF, 0, fun _ => true))

/-- Table 15-13. -/
def rwFields : List RwRow := rwSingles ++ rwWords 0x08 8 ++ rwWords 0x90 7

/-- The model's `rwBits`, `rangedBits` and `inRange` agree with a row of that table. -/
structure RowAgrees (x : RwRow) : Prop where
  reg    : RwReg x.1
  lt     : x.1 < 256
  rw     : x.2.1 = rwBits x.1
  ranged : x.2.2.1 = rangedBits x.1
  range  : ∀ w, x.2.2.2 w = inRange x.1 w

theorem rwFields_agree : ∀ x ∈ rwFields, RowAgrees x := by
  unfold rwFields rwSingles rwWords
  rw [List.forall_mem_append, List.forall_mem_append]
  refine ⟨⟨?_, ?_⟩, ?_⟩
  · simp only [List.forall_mem_cons, List.not_mem_nil, IsEmpty.forall_iff, implies_true, and_true]
    exact ⟨⟨.tbCtrl, by decide, rfl, rfl, fun _ => rfl⟩, ⟨.comp, by decide, rfl, rfl, fun _ => rfl⟩,
      ⟨.holdoverMax, by decide, rfl, rfl, fun _ => rfl⟩, ⟨.speed, by decide, rfl, rfl, fun _ => rfl⟩,
      ⟨.attnPer, by decide, rfl, rfl, fun _ => rfl⟩, ⟨.attnEn, by decide, rfl, rfl, fun _ => rfl⟩,
      ⟨.silence, by decide, rfl, rfl, fun _ => rfl⟩, ⟨.snapCtrl, by decide, rfl, rfl, fun _ => rfl⟩,
      ⟨.snapAddr, by decide, rfl, rfl, fun _ => rfl⟩, ⟨.wpCtrl, by decide, rfl, rfl, fun _ => rfl⟩,
      ⟨.evEnable 7 (by decide), by decide, rfl, rfl, fun _ => rfl⟩⟩
  · simp only [List.forall_mem_map, List.mem_range]
    intro k hk
    interval_cases k <;> exact ⟨.user _ (by decide), by decide, rfl, rfl, fun _ => rfl⟩
  · simp only [List.forall_mem_map, List.mem_range]
    intro k hk
    interval_cases k <;> exact ⟨.evEnable _ (by decide), by decide, rfl, rfl, fun _ => rfl⟩

/-- A range of Table 15-13 lies in the RW bits. -/
theorem rangedBits_and_rwBits {i : Nat} (hi : RwReg i) (m : Word) :
    m &&& rwBits i &&& rangedBits i = m &&& rangedBits i := by
  have h : rwBits i &&& rangedBits i = rangedBits i := by
    cases hi with
    | user k hk => interval_cases k <;> decide
    | evEnable k hk => interval_cases k <;> decide
    | _ => decide
  rw [BitVec.and_assoc, h]

theorem hrf_of_writesShow {i : Nat} (hi : RwReg i) {u t : State} (h : WritesShow u t) : hrf i t = hrf i u := by
  obtain ⟨hset, hen, -, -, huser, -⟩ := h
  exact hrf_congr hi hset hen huser

/-- The range that a write of one entry is judged by. -/
theorem writeOk_iff {i : Nat} (hi : RwReg i) (mask v : Word) (s : State) :
    writeOk ⟨i, mask, v⟩ s = true ↔
      mask &&& rwBits i &&& rangedBits i = 0 ∨ inRange i (mergeReg ⟨i, mask, v⟩ s) = true := by
  rw [rangedBits_and_rwBits hi]
  unfold writeOk
  rw [Bool.or_eq_true, beq_iff_eq]

section
variable {s : State} {tag : BitVec 3} {csn : Word} (hs : Accepts tag s) (hi : InOrder csn s)
include hs hi

theorem writeHrf_row (mask v : Word) (x : RwRow) (hx : x ∈ rwFields) :
    let m := mask &&& x.2.1
    let w := (hrf x.1 s &&& ~~~m) ||| (v &&& m)
    let p := seqPacket 0x06 tag csn (hrfEntry x.1 mask v)
    (m &&& x.2.2.1 = 0 ∨ x.2.2.2 w = true → Runs (.writeHrf tag csn (hrfEntry x.1 mask v)) s (fun t =>
      Done p stOk [1] t ∧ hrf x.1 t &&& x.2.1 = w &&& x.2.1
        ∧ ∀ y ∈ rwFields, y.1 ≠ x.1 → hrf y.1 t &&& y.2.1 = hrf y.1 s &&& y.2.1))
    ∧ (m &&& x.2.2.1 ≠ 0 → x.2.2.2 w = false → Runs (.writeHrf tag csn (hrfEntry x.1 mask v)) s (fun t =>
      Done p stBadParam [] t ∧ t.set = s.set ∧ t.en = s.en ∧ t.aorf = s.aorf ∧ t.dev = s.dev)) := by
  obtain ⟨hreg, h256, hrw, hranged, hrange⟩ := rwFields_agree x hx
  obtain ⟨i, rw, ranged, range⟩ := x
  dsimp only at hreg h256 hrw hranged hrange ⊢
  subst hrw hranged
  simp only [hrange]
  constructor
  · intro ho
    have hok := (writeOk_iff hreg mask v s).2 ho
    obtain ⟨done, shows, -, -⟩ := receivePacket_write hs hi mask v h256 hok
    refine ⟨_, rfl, done, ?_, fun y hy hne => ?_⟩
    · rw [hrf_of_writesShow hreg shows]; exact hrf_applyWrite_same (e := ⟨i, mask, v⟩) hreg hok
    · rw [hrf_of_writesShow (rwFields_agree y hy).1 shows,
        hrf_applyWrite_ne (e := ⟨i, mask, v⟩) hreg (rwFields_agree y hy).1 hne]
  · intro hm hr
    have hno : writeOk ⟨i, mask, v⟩ s = false :=
      Bool.eq_false_iff.2 fun h => ((writeOk_iff hreg mask v s).1 h).elim hm fun h => Bool.false_ne_true (hr.symm.trans h)
    obtain ⟨done, frame⟩ := receivePacket_write_refused hs hi mask v h256 hno
    exact ⟨_, rfl, done, frame.set, frame.en, frame.aorf, frame.dev⟩

/-- A register without writable fields takes every write and changes nothing. -/
theorem writeHrf_readOnly {i : Nat} (mask v : Word) (h256 : i < 256) (hr : rwBits i = 0) (hw : w1cBits i = 0) :
    Runs (.writeHrf tag csn (hrfEntry i mask v)) s (fun t => Done (seqPacket 0x06 tag csn (hrfEntry i mask v)) stOk [1] t
      ∧ t.set = s.set ∧ t.en = s.en ∧ t.dev = s.dev ∧ t.aorf.user = s.aorf.user ∧ t.jr.pend = (touchBus s).jr.pend) := by
  obtain ⟨done, shows, -, jr⟩ := receivePacket_write hs hi mask v h256 (writeOk_of_readOnly (e := ⟨i, mask, v⟩) hr s)
  rw [applyWrite_of_readOnly (e := ⟨i, mask, v⟩) hr hw] at shows jr
  obtain ⟨hset, hen, hdev, -, huser, -⟩ := shows
  exact ⟨_, rfl, done, hset, hen, hdev, huser, by rw [jr, seqStart_jr _ hi.2.2.2]⟩

end

theorem rwBits_eq_zero {i : Nat} (h : i ∉ [0x01, 0x11, 0x18, 0x19, 0x21, 0x23, 0x24, 0x25, 0x66, 0x68, 0x81])
    (h8 : ¬ (0x08 ≤ i ∧ i ≤ 0x0F)) (h90 : ¬ (0x90 ≤ i ∧ i ≤ 0x9F)) : rwBits i = 0 := by
  by_contra hw
  cases rwReg_of_rwBits hw with
  | user k hk => omega
  | evEnable k hk => omega
  | _ => exact h (by decide)

theorem w1cBits_eq_zero {i : Nat} (h : i ∉ [0x01, 0x11, 0x18, 0x19, 0x21, 0x23, 0x24, 0x25, 0x66, 0x68, 0x81])
    (h90 : ¬ (0x90 ≤ i ∧ i ≤ 0x9F)) : w1cBits i = 0 := by
  unfold w1cBits
  rw [if_neg (fun h1 => h (by simp [h1])), if_neg (by omega)]

theorem mergeReg_all {i : Nat} (h : rwBits i = 0xFFFFFFFF) (v : Word) (s : State) : mergeReg ⟨i, 0xFFFFFFFF, v⟩ s = v := by
  have hz : (0 : Word) ||| v &&& 0xFFFFFFFF = v := BitVec.zero_or.trans BitVec.and_allOnes
  simpa [mergeReg, h] using hz

theorem rwBits_evPending (n : Fin 8) : rwBits (0x98 + n.val) = 0 := by
  revert n; decide

theorem applyWrite_evPending (n : Fin 8) (m : Word) (s : State) : applyWrite ⟨0x98 + n.val, m, m⟩ s =
    { s with jr := { s.jr with pend := updVec s.jr.pend n.val (fun p => p &&& ~~~m) } } := by
  have h1 : ¬ 0x98 + n.val = 1 := by omega
  have h98 : 0x98 ≤ 0x98 + n.val ∧ 0x98 + n.val ≤ 0x9F := by omega
  have hc : clearedBits ⟨0x98 + n.val, m, m⟩ = m := by
    simp only [clearedBits, w1cBits, if_neg h1, if_pos h98, BitVec.and_self]
    exact BitVec.and_allOnes
  unfold applyWrite
  rw [hc, rwBits_evPending, if_pos (show m &&& (0 : Word) = 0 from BitVec.and_zero)]
  simp only [clearReg, if_neg h1, if_pos h98, Nat.add_sub_cancel_left]

section
variable {s : State} {tag : BitVec 3} {csn : Word} (hs : Accepts tag s) (hi : InOrder csn s)
include hs hi

/-- DV_RESET_CAUSE: DEFAULTS_RESTORED is cleared where 1 is written to it. -/
theorem writeHrf_resetCause (mask v : Word) :
    Runs (.writeHrf tag csn (hrfEntry 0x01 mask v)) s (fun t => Done (seqPacket 0x06 tag csn (hrfEntry 0x01 mask v)) stOk [1] t
      ∧ t.dev = { s.dev with defaultsRestored := s.dev.defaultsRestored && !(mask &&& v).getLsbD 13 } ∧ t.set = s.set) := by
  obtain ⟨done, ⟨hset, -, hdev, -⟩, -, -⟩ :=
    receivePacket_write hs hi mask v (i := 0x01) (by decide) (writeOk_of_readOnly rfl s)
  have hw : applyWrite ⟨0x01, mask, v⟩ s =
      { s with dev := { s.dev with defaultsRestored := s.dev.defaultsRestored && !(mask &&& v).getLsbD 13 } } := by
    simp [applyWrite, clearReg, clearedBits, rwBits, w1cBits]
  rw [hw] at hset hdev
  exact ⟨_, rfl, done, hdev, hset⟩

theorem writeHrf_holdoverMax (v : Word) (h1 : 1 ≤ v.toNat) (h2 : v.toNat ≤ 86400) :
    Runs (.writeHrf tag csn (hrfEntry 0x19 0xFFFFFFFF v)) s (fun t =>
      Done (seqPacket 0x06 tag csn (hrfEntry 0x19 0xFFFFFFFF v)) stOk [1] t
        ∧ t.set = { s.set with holdoverMax := v } ∧ t.aorf.settingsDiffer = decide (t.set ≠ defaultsOf s)
        ∧ t.en = s.en ∧ t.tb = s.tb ∧ CommandStore s t) := by
  have hok : writeOk ⟨0x19, 0xFFFFFFFF, v⟩ s = true := by
    rw [writeOk_iff .holdoverMax, mergeReg_all rfl]; right; simp [inRange, h1, h2]
  obtain ⟨done, ⟨hset, hen, -, htb, -, hdiff⟩, store, -⟩ := receivePacket_write hs hi _ v (by decide) hok
  have hw : applyWrite ⟨0x19, 0xFFFFFFFF, v⟩ s = { s with set := { s.set with holdoverMax := v } } := by
    rw [applyWrite_of_rwReg .holdoverMax, mergeReg_all rfl]; exact if_neg (by simp [rwBits])
  rw [hw] at hset hen htb hdiff
  exact ⟨_, rfl, done, hset, hdiff.trans (by rw [hset]; rfl), hen, htb, store⟩

theorem writeHrf_holdoverMax_refused (v : Word) (h : v = 0 ∨ 86400 < v.toNat) :
    Runs (.writeHrf tag csn (hrfEntry 0x19 0xFFFFFFFF v)) s (fun t =>
      Done (seqPacket 0x06 tag csn (hrfEntry 0x19 0xFFFFFFFF v)) stBadParam [] t ∧ t.set = s.set ∧ t.aorf = s.aorf) := by
  have hno : writeOk ⟨0x19, 0xFFFFFFFF, v⟩ s = false := by
    rw [Bool.eq_false_iff, ne_eq, writeOk_iff .holdoverMax, mergeReg_all rfl]
    rcases h with rfl | h
    · simp [rwBits, rangedBits, inRange]
    · simp [rwBits, rangedBits, inRange]; omega
  obtain ⟨done, frame⟩ := receivePacket_write_refused hs hi _ v (by decide) hno
  exact ⟨_, rfl, done, frame.set, frame.aorf⟩

/-- EN_SNAP_CTRL.HOLD (R161). -/
theorem receivePacket_hold (b : Bool) :
    let p := seqPacket 0x06 tag csn (hrfEntry 0x66 1 (if b then 1 else 0))
    Done p stOk [1] (receivePacket p s) ∧ (receivePacket p s).en = (holdSnapshot b s).en := by
  have hok (v : Word) : writeOk ⟨0x66, 1, v⟩ s = true := (writeOk_iff .snapCtrl 1 v s).2 (.inl rfl)
  obtain ⟨done, ⟨-, hen, -⟩, -, -⟩ := receivePacket_write hs hi 1 (if b then 1 else 0) (i := 0x66) (by decide) (hok _)
  refine ⟨done, hen.trans ?_⟩
  rw [applyWrite_of_rwReg .snapCtrl, if_neg (show ¬ (1 : Word) &&& rwBits 0x66 = 0 by decide)]
  have hm : (mergeReg ⟨0x66, 1, if b then 1 else 0⟩ s).getLsbD 0 = b := by
    cases b <;> simp [mergeReg, rwBits]
  exact congrArg (fun b => (holdSnapshot b s).en) hm

/-- EV_PENDINGn: the bits written as 1 are cleared (R329). -/
theorem evPendingClear_runs (n : Fin 8) (m : Word) :
    Runs (.evPendingClear tag csn n m) s (fun t =>
      Done (seqPacket 0x06 tag csn (hrfEntry (0x98 + n.val) m m)) stOk [1] t ∧ t.jr.pend[n.val] &&& m = 0 ∧ t.set = s.set
        ∧ t.jr.pend[n.val] = (touchBus s).jr.pend[n.val] &&& ~~~m) := by
  obtain ⟨done, ⟨hset, -⟩, -, jr⟩ := receivePacket_write hs hi m m (i := 0x98 + n.val) (by omega)
    (writeOk_of_readOnly (e := ⟨_, m, m⟩) (rwBits_evPending n) s)
  rw [applyWrite_evPending] at hset jr
  have hpend : (receivePacket (seqPacket 0x06 tag csn (hrfEntry (0x98 + n.val) m m)) s).jr.pend[n.val]
      = (touchBus s).jr.pend[n.val] &&& ~~~m := by
    rw [jr, seqStart_jr _ hi.2.2.2]
    simp [updVec]
  refine ⟨_, rfl, done, ?_, hset, hpend⟩
  rw [hpend]
  simp [BitVec.and_assoc]

end

/-- Settles O20: entries in range are applied to the registers as they stood, and where one is out of range the state is the one in
which the packet was accepted. -/
theorem registerWrites : Obligations.RegisterWrites := by
  intro s tag csn hs hi
  refine ⟨?_, ?_, ?_, ?_, ?_, ?_, ?_, ?_, ?_⟩
  · intro ws h1 h16 hx
    refine ⟨fun u hu => ?_, ?_⟩
    · obtain ⟨v, -, done, ⟨hset, hen, hdev, -, huser, hdiff⟩, store, -⟩ := receivePacket_writes hs hi h1 h16 hx rfl hu
      exact ⟨_, rfl, done, hset, hen, hdev, huser, hdiff, store⟩
    · rintro ⟨l, e, r, u, hw, hu, he⟩
      obtain ⟨done, frame, store, jr⟩ := receivePacket_writes_refused hs hi h1 h16 hx rfl hw hu he
      exact ⟨_, rfl, done, frame.set, frame.en, frame.dev, frame.aorf, by rw [jr], store⟩
  · exact writeHrf_row hs hi
  · exact writeHrf_resetCause hs hi
  · exact fun i mask v h256 h h8 h90 => writeHrf_readOnly hs hi mask v h256 (rwBits_eq_zero h h8 h90) (w1cBits_eq_zero h h90)
  · exact writeHrf_holdoverMax hs hi
  · exact writeHrf_holdoverMax_refused hs hi
  · obtain ⟨done, hen⟩ := receivePacket_hold hs hi true
    exact ⟨_, rfl, done, hen⟩
  · obtain ⟨done, hen⟩ := receivePacket_hold hs hi false
    exact ⟨_, rfl, done, hen⟩
  · exact evPendingClear_runs hs hi

end Sys2Proof.Machine
end

section
/-! PROOFS. The end of the clock-window reset, the blink code, and DORMANT as it is reached (R26, R61, R70, R71). -/

namespace Sys2Proof.Machine

/-! ## The clock-window reset and the blink code -/

/-- A step of the blink code lies within its 2n steps and their pause. -/
theorem blinkHigh_mod (n k : Nat) :
    blinkHigh n (k % (2 * n + 1)) = (decide (k % (2 * n + 1) = 2 * n) || k % (2 * n + 1) % 2 == 1) := by
  have hlt : k % (2 * n + 1) < 2 * n + 1 := Nat.mod_lt k (Nat.succ_pos _)
  have hpause : 2 * n ≤ k % (2 * n + 1) ↔ k % (2 * n + 1) = 2 * n := by omega
  unfold blinkHigh
  rw [decide_eq_decide.2 hpause]

theorem faultNBlink_blink {s : State} {n : Nat} (h : s.dev.phase = .blink n) :
    let k := (s.dev.blinkStep + 1) % (2 * n + 1)
    faultNBlink s = { s with dev := { s.dev with blinkStep := k, faultN := decide (k = 2 * n) || k % 2 == 1 } } := by
  intro k
  rw [← blinkHigh_mod]
  unfold faultNBlink
  rw [h]

/-! ## The links held (R70) -/

theorem getElem_updVec {α : Type} {n : Nat} (v : Vector α n) (f : α → α) (i : Nat) {k : Nat} (hk : k < n) :
    (updVec v i f)[k] = if i = k then f v[k] else v[k] := by
  split
  next h =>
    subst h
    unfold updVec
    rw [Vector.getElem?_eq_getElem hk]
    exact Vector.getElem_setIfInBounds_self hk
  next h => exact getElem_updVec_ne v f hk h

/-- While ENTER_DORMANT runs, no output test is abandoned with the link: its draws and the link alone change. -/
theorem dropLink_dormant {s : State} (h : s.cm.running = some .dormant) (l : Nat) :
    dropLink l s = updLink l (fun k => { k.down with seenClosed := k.seenClosed ||| k.outNow })
      { s with ent := { s.ent with waiting := s.ent.waiting.filter (fun d => !d.ofLink l) } } := by
  unfold dropLink
  simp only [updLink_cm, h]

theorem foldl_dropLink_eq {s : State} (h : s.cm.running = some .dormant) (ls : List Nat) :
    let t := ls.foldl (fun s l => dropLink l s) s
    t = { s with ent := t.ent, links := t.links } := by
  induction ls generalizing s with
  | nil => rfl
  | cons l ls ih =>
    have hl := dropLink_dormant h l
    have hrun : (dropLink l s).cm.running = some .dormant := by rw [hl]; exact h
    dsimp only [List.foldl_cons] at ih ⊢
    rw [ih hrun, hl]
    rfl

theorem dropLink_held {s : State} (h : s.cm.running = some .dormant) (l : Nat) (k : Fin 8) :
    (dropLink l s).links[k.val].held = (decide (l = k.val) || s.links[k.val].held) := by
  rw [dropLink_dormant h]
  unfold updLink
  rw [getElem_updVec]
  split <;> simp [*, Link.down]

theorem foldl_dropLink_held {s : State} (h : s.cm.running = some .dormant) (ls : List Nat) (k : Fin 8)
    (hk : k.val ∈ ls ∨ s.links[k.val].held = true) :
    (ls.foldl (fun s l => dropLink l s) s).links[k.val].held = true := by
  induction ls generalizing s with
  | nil => simpa using hk
  | cons l ls ih =>
    have hrun : (dropLink l s).cm.running = some .dormant := by rw [dropLink_dormant h]; exact h
    refine ih hrun ?_
    rw [dropLink_held h]
    rcases hk with hk | hk
    · rcases List.mem_cons.1 hk with hk | hk
      · simp [hk]
      · exact .inl hk
    · simp [hk]

/-! ## The outcome of ENTER_DORMANT (R70, Table 3-8) -/

theorem writeNext_store (s : State) : EventStore s (writeNext s) := by
  unfold writeNext
  split
  · exact commitGap_store s
  · exact commitNext_store s

theorem commitMany_store (n : Nat) (s : State) : EventStore s (commitMany n s) := by
  induction n generalizing s with
  | zero => exact .refl s
  | succ n ih => exact (writeNext_store s).trans (ih _)

theorem commitMany_apart (n : Nat) (s : State) : StoreApart s (commitMany n s) := by
  induction n generalizing s with
  | zero => exact .refl s
  | succ n ih => exact .trans (writeNext_eq s) (ih _)

/-- The state in which the outcome of ENTER_DORMANT is written: DORMANT_ENTERED is raised and the journal written out. -/
def dormantFlushed (c : Chain) (s : State) : State := flushJournal (raise 226 0x0003 .notice (argOf [(0, c.csn.toNat)]) s)

theorem dormantOutcome_eq (c : Chain) (s : State) :
    dormantOutcome c s = putOutcome (closedEntry c stOk) (dormantFlushed c s) := rfl

theorem dormantFlushed_store (c : Chain) (s : State) : EventStore s (dormantFlushed c s) :=
  (raise_store _ _ _ _ s).trans (commitMany_store _ _)

theorem dormantFlushed_apart (c : Chain) (s : State) : StoreApart s (dormantFlushed c s) :=
  .trans (raise_eq _ _ _ _ s) (commitMany_apart _ _)

/-- While the store takes it, the outcome is the newest one and stands in its slot. -/
theorem outcomeOf_putOutcome (o : OutcomeEntry) {s t : State} (h : StoreTakes s) (ht : t.nv = (putOutcome o s).nv) :
    t.nv.lastE = o.csn ∧ outcomeOf o.csn t = some o := by
  rw [putOutcome_sound o h] at ht
  have hm : o.csn.toNat % 64 < 64 := Nat.mod_lt _ (by decide)
  unfold outcomeOf
  rw [ht]
  simp [hm]

/-- LD0 to LD7 held low. -/
def linksDropped (s : State) : State := (List.range 8).foldl (fun s l => dropLink l s) s

/-- DORMANT reached from the state in which the outcome stands. -/
def reachDormant (csn : Word) (s : State) : State :=
  { s with
    aorf := s.aorf.toDormant csn, dev := s.dev.toDormant, cm := { s.cm with running := none },
    wp := { s.wp with motorOn := false, stepPin := false, strobe1 := [], strobe2 := [], strobes := [], shifts := [] } }

theorem dormantEntered_eq {s : State} {c : Chain} (hr : s.cm.running = some .dormant) (hc : headChain s = some c)
    (hd : s.dev.dvState = .dormantEntry) :
    dormantEntered s = reachDormant c.csn (dormantOutcome c (writeParams (linksDropped s))) := by
  unfold dormantEntered
  rw [hr, hc, ← linksDropped]
  exact if_neg (not_not.2 hd)

theorem linksDropped_eq {s : State} (h : s.cm.running = some .dormant) :
    linksDropped s = { s with ent := (linksDropped s).ent, links := (linksDropped s).links } := foldl_dropLink_eq h _

theorem linksDropped_held {s : State} (h : s.cm.running = some .dormant) (l : Fin 8) :
    (linksDropped s).links[l.val].held = true := foldl_dropLink_held h _ l (.inl (List.mem_range.2 l.isLt))

theorem dormantEntered_device {s : State} {c : Chain} (hr : s.cm.running = some .dormant) (hc : headChain s = some c)
    (hd : s.dev.dvState = .dormantEntry) :
    let t := dormantEntered s
    t.dev = s.dev.toDormant ∧ t.aorf = s.aorf.toDormant c.csn ∧ t.cm.running = none
      ∧ ∀ l : Fin 8, t.links[l.val].held = true := by
  have hdrop := linksDropped_eq hr
  have hheld := linksDropped_held hr
  rw [dormantEntered_eq hr hc hd, dormantOutcome_eq, putOutcome_eq, dormantFlushed_apart c, writeParams_eq]
  generalize linksDropped s = d at hdrop hheld
  refine ⟨?_, ?_, rfl, hheld⟩
  · rw [hdrop]; rfl
  · rw [hdrop]; rfl

theorem dormantEntered_outcome {s : State} {c : Chain} (hr : s.cm.running = some .dormant) (hc : headChain s = some c)
    (hd : s.dev.dvState = .dormantEntry) (hs : StoreTakes s) :
    (dormantEntered s).nv.lastE = c.csn ∧ outcomeOf c.csn (dormantEntered s) = some (closedEntry c stOk) := by
  have hnv : (linksDropped s).nv = s.nv := by rw [linksDropped_eq hr]
  have htakes : StoreTakes (linksDropped s) := by unfold StoreTakes nvBothOut at *; rwa [hnv]
  rw [dormantEntered_eq hr hc hd, dormantOutcome_eq]
  have hflush := (dormantFlushed_store c _).takes ((writeParams_store _).takes htakes)
  generalize dormantFlushed c (writeParams (linksDropped s)) = u at hflush
  exact outcomeOf_putOutcome (closedEntry c stOk) hflush rfl

/-- Settles O10: the device in DORMANT is `Dev.toDormant`, and its store holds the outcome because raising DORMANT_ENTERED and
writing the journal out leave a store that takes writes. -/
theorem releaseBlinkDormant : Obligations.ReleaseBlinkDormant := by
  intro s
  refine ⟨fun hheld => ?_, fun n hn => ?_, fun c hr hc hd hs => ⟨_, rfl, ?_⟩⟩
  · exact congrArg Host.Outcome.next (if_pos hheld)
  · exact congrArg Host.Outcome.next (faultNBlink_blink hn)
  · obtain ⟨hdev, haorf, hrun, hheld⟩ := dormantEntered_device hr hc hd
    obtain ⟨hlast, hout⟩ := dormantEntered_outcome hr hc hd hs
    show (dormantEntered s).dev.phase = .dormant ∧ (dormantEntered s).dev.faultN = false ∧ _
    rw [hdev, haorf]
    exact ⟨rfl, rfl, rfl, rfl, rfl, rfl, rfl, hlast, hrun, hout, hheld⟩

end Sys2Proof.Machine
end

section
/-! PROOFS. The sources of station time (R29, R35, R36, R44): what a PPS edge, a missing edge, the loss of a source and the end of
HOLDOVER do, and what the discipline, a step and a change of quality leave alone. -/

namespace Sys2Proof.Machine

/-! ## The writer's queue only grows as events are raised (R249) -/

theorem queueEvent_grows (time : DWord) (src : Nat) (code : Half) (c : Cls) (arg : DWord) (s : State) :
    s.jr.queue <+: (queueEvent time src code c arg s).jr.queue := by
  unfold queueEvent
  split
  · exact List.prefix_rfl
  · split
    · dsimp only
      split
      · rw [raiseCause_queue]; exact List.prefix_rfl
      · exact List.prefix_rfl
    · exact List.prefix_append _ _

theorem writeFailed_grows (b : Bool) (word addr len : Nat) (s : State) :
    s.jr.queue <+: (writeFailed b word addr len s).jr.queue := by
  unfold writeFailed loseMacro
  rw [← countRetries_queue b addr len s]
  split
  · exact List.prefix_rfl
  · dsimp only
    rw [raiseCause_queue]
    refine .trans ?_ (queueEvent_grows _ _ _ _ _ _)
    exact List.prefix_rfl

theorem tryParams_grows (s : State) : s.jr.queue <+: (tryParams s).jr.queue := by
  unfold tryParams
  split
  · exact List.prefix_rfl
  · dsimp only
    split
    · exact writeFailed_grows _ _ _ _ s
    · exact (countRetries_queue _ _ _ s).symm ▸ List.prefix_rfl

theorem writeParams_grows (s : State) : s.jr.queue <+: (writeParams s).jr.queue := by
  have hfirst := tryParams_grows { s with nv := { s.nv with due := true } }
  unfold writeParams
  dsimp only
  split
  · exact hfirst.trans (tryParams_grows _)
  · exact hfirst

theorem writeOne_grows (b : Bool) (addr len : Nat) (s : State) : s.jr.queue <+: (writeOne b addr len s).jr.queue := by
  unfold writeOne
  split
  · exact List.prefix_rfl
  · split
    · exact (writeFailed_grows _ _ _ _ s).trans (writeParams_grows _)
    · rw [countRetries_queue]

theorem enqueue_grows (time : DWord) (src : Nat) (code : Half) (c : Cls) (arg : DWord) (s : State) :
    s.jr.queue <+: (enqueue time src code c arg s).jr.queue := by
  unfold enqueue
  dsimp only
  split
  · exact (queueEvent_grows _ _ _ _ _ s).trans (writeParams_grows _)
  · exact queueEvent_grows _ _ _ _ _ s

theorem check75_grows (s : State) : s.jr.queue <+: (check75 s).jr.queue := by
  unfold check75
  split
  · dsimp only
    rw [raiseCause_queue]
    exact enqueue_grows _ _ _ _ _ { s with jr := { s.jr with full75 := true } }
  · exact List.prefix_rfl

theorem commitGap_grows (s : State) : s.jr.queue <+: (commitGap s).jr.queue := by
  unfold commitGap
  split
  · have hmirror : s.jr.queue <+: (mirror (slotOffset (seqNext s.nv.head)) 32 s).jr.queue :=
      (writeOne_grows _ _ _ s).trans (writeOne_grows _ _ _ _)
    dsimp only
    generalize mirror (slotOffset (seqNext s.nv.head)) 32 s = m at hmirror ⊢
    split
    · exact hmirror
    · have hgap (f : Params → Params) : m.jr.queue <+: (storeItem f (commitRecord (gapRecord m) m)).jr.queue := by
        rw [← commitRecord_queue (gapRecord m) m]
        exact writeParams_grows (setItem f (commitRecord (gapRecord m) m))
      refine hmirror.trans (.trans ?_ (check75_grows _))
      split
      · rw [setPending_queue]; exact hgap _
      · exact hgap _
  · exact List.prefix_rfl

theorem raise_grows (src : Nat) (code : Half) (c : Cls) (arg : DWord) (s : State) :
    s.jr.queue <+: (raise src code c arg s).jr.queue :=
  (commitGap_grows s).trans (enqueue_grows _ _ _ _ _ _)

/-! ## A change of quality (R44) -/

theorem toQuality_eq (q : Quality) (t : TimeBase) : t.toQuality q =
    { t with quality := q, lockSecs := (t.toQuality q).lockSecs, lockUs := (t.toQuality q).lockUs,
             holdoverUs := (t.toQuality q).holdoverUs } := by
  unfold TimeBase.toQuality
  dsimp only
  split <;> split <;> rfl

/-- The time base under a leap second. -/
def TimeBase.leapt (t : TimeBase) : TimeBase :=
  { t with leapPending := false, leapDelete := false, leapDue := false, leapSkip := t.leapDelete }

theorem applyLeap_tb (s : State) : (applyLeap s).tb = s.tb.leapt := by
  simp [applyLeap, TimeBase.leapt]

/-- A new quality is taken on; with a lock, a leap second that fell due is applied. -/
theorem setQuality_tb {q : Quality} {s : State} (h : s.tb.quality ≠ q) : (setQuality q s).tb =
    if s.tb.leapDue && q.locked then (s.tb.toQuality q).leapt else s.tb.toQuality q := by
  have hdue : (s.tb.toQuality q).leapDue = s.tb.leapDue := by rw [toQuality_eq]
  unfold setQuality
  simp only [if_neg h, tsyncGate, raiseCause_tb, raise_tb, hdue]
  split
  · simp [applyLeap_tb]
  · simp

theorem setQuality_tb_unlocked {q : Quality} {s : State} (h : s.tb.quality ≠ q) (hq : q.locked = false) :
    (setQuality q s).tb = s.tb.toQuality q := by
  rw [setQuality_tb h, hq, Bool.and_false]
  rfl

theorem applyLeap_eq (s : State) : applyLeap s =
    { s with tb := (applyLeap s).tb, nv := (applyLeap s).nv, jr := (applyLeap s).jr, hb := (applyLeap s).hb } := by
  unfold applyLeap
  dsimp only
  rw [raise_eq, storeItem_eq]

/-- A change of quality writes the time base, an event, and TSYNC_OUT. -/
theorem setQuality_eq (q : Quality) (s : State) : setQuality q s =
    { s with tb := (setQuality q s).tb, nv := (setQuality q s).nv, jr := (setQuality q s).jr, hb := (setQuality q s).hb,
             dev := (setQuality q s).dev } := by
  unfold setQuality
  split
  · rfl
  · dsimp only
    split
    · rw [applyLeap_eq]; unfold tsyncGate; rw [raiseCause_eq, raise_eq]
    · unfold tsyncGate; rw [raiseCause_eq, raise_eq]

theorem applyLeap_chains (s : State) : (applyLeap s).nv.chains = s.nv.chains := by
  unfold applyLeap storeItem
  dsimp only
  rw [(raise_store _ _ _ _ _).chains]
  exact (writeParams_store _).chains

theorem setQuality_chains (q : Quality) (s : State) : (setQuality q s).nv.chains = s.nv.chains := by
  have hraised (arg : DWord) : (raise 225 0x0001 .notice arg { s with tb := s.tb.toQuality q }).nv.chains = s.nv.chains :=
    (raise_store _ _ _ _ _).chains
  unfold setQuality
  split
  · rfl
  · dsimp only
    split
    · rw [applyLeap_chains]; unfold tsyncGate; rw [raiseCause_nv]; exact hraised _
    · unfold tsyncGate; rw [raiseCause_nv]; exact hraised _

theorem setQuality_unlocked_grows {q : Quality} (hq : q.locked = false) (s : State) :
    s.jr.queue <+: (setQuality q s).jr.queue := by
  unfold setQuality
  split
  · exact List.prefix_rfl
  · simp only [hq, Bool.and_false, Bool.false_eq_true, if_false]
    unfold tsyncGate
    rw [raiseCause_queue]
    exact raise_grows _ _ _ _ { s with tb := s.tb.toQuality q }

/-! ## What steps and the discipline leave alone -/

/-- What steps, the discipline and changes of quality leave alone: the links, the waiting commands, PPS as valid or not, and the
measured deviation. -/
structure SourcesKept (s t : State) : Prop where
  links : t.links = s.links
  chains : t.nv.chains = s.nv.chains
  ppsValid : t.tb.ppsValid = s.tb.ppsValid
  devPpm : t.tb.devPpm = s.tb.devPpm

namespace SourcesKept

theorem refl (s : State) : SourcesKept s s := ⟨rfl, rfl, rfl, rfl⟩

theorem trans {s t u : State} (h : SourcesKept s t) (k : SourcesKept t u) : SourcesKept s u :=
  ⟨k.links.trans h.links, k.chains.trans h.chains, k.ppsValid.trans h.ppsValid, k.devPpm.trans h.devPpm⟩

/-- Registers of the time base other than these two were written. -/
theorem of_tb {s : State} {tb : TimeBase} (hv : tb.ppsValid = s.tb.ppsValid) (hd : tb.devPpm = s.tb.devPpm) :
    SourcesKept s { s with tb := tb } := ⟨rfl, rfl, hv, hd⟩

theorem ite {s t u : State} {p : Prop} [Decidable p] (ht : SourcesKept s t) (hu : SourcesKept s u) :
    SourcesKept s (if p then t else u) := by
  split
  · exact ht
  · exact hu

end SourcesKept

theorem raise_kept (src : Nat) (code : Half) (c : Cls) (arg : DWord) (s : State) :
    SourcesKept s (raise src code c arg s) :=
  ⟨raise_links .., (raise_store _ _ _ _ _).chains, by rw [raise_tb], by rw [raise_tb]⟩

theorem writeParams_kept (s : State) : SourcesKept s (writeParams s) :=
  ⟨writeParams_links s, (writeParams_store s).chains, by rw [writeParams_tb], by rw [writeParams_tb]⟩

theorem reacquire_kept (s : State) : SourcesKept s { s with tb := s.tb.reacquire } := .of_tb rfl rfl

theorem setQuality_kept (q : Quality) (s : State) : SourcesKept s (setQuality q s) := by
  obtain ⟨hvalid, hdev⟩ : (setQuality q s).tb.ppsValid = s.tb.ppsValid ∧ (setQuality q s).tb.devPpm = s.tb.devPpm := by
    by_cases h : s.tb.quality = q
    · unfold setQuality; rw [if_pos h]; exact ⟨rfl, rfl⟩
    · rw [setQuality_tb h, toQuality_eq]
      split <;> exact ⟨rfl, rfl⟩
  exact ⟨by rw [setQuality_eq], setQuality_chains q s, hvalid, hdev⟩

theorem judgeLock_kept (s : State) : SourcesKept s (judgeLock s) :=
  .ite (.refl s) (.ite (setQuality_kept _ s) (.ite (setQuality_kept _ s) (.refl s)))

theorem stepCounter_kept (d : Int) (s : State) : SourcesKept s (stepCounter d s) := by
  refine .ite (.refl s) (.trans ?_ (raise_kept _ _ _ _ _))
  exact .of_tb rfl rfl

theorem slew_kept (s : State) : SourcesKept s (slew s) := ⟨rfl, rfl, rfl, rfl⟩

theorem dropLock_kept (s : State) : SourcesKept s (dropLock s) := (setQuality_kept _ s).trans (reacquire_kept _)

theorem setFar_ppsValid (irig : Bool) (n : Nat) (t : TimeBase) : (t.setFar irig n).ppsValid = t.ppsValid := by
  cases irig <;> rfl

theorem setFar_devPpm (irig : Bool) (n : Nat) (t : TimeBase) : (t.setFar irig n).devPpm = t.devPpm := by
  cases irig <;> rfl

theorem discipline_kept (irig acquired : Bool) (err : Int) (s : State) :
    SourcesKept s (discipline irig acquired err s) := by
  have hpoint (n : Nat) : SourcesKept s { s with tb := ({ s.tb with phaseErr := clamp32 err }).setFar irig n } :=
    .of_tb (setFar_ppsValid ..) (setFar_devPpm ..)
  unfold discipline
  dsimp only
  split
  · exact (hpoint _).trans (.ite (dropLock_kept _) (slew_kept _))
  · exact (hpoint _).trans (.ite (stepCounter_kept _ _) (slew_kept _))

/-- The check of R29 records the interval's deviation (Table 1-4). -/
theorem crossCheck_kept (counts : Nat) (s : State) :
    SourcesKept { s with tb := { s.tb with devPpm := BitVec.ofInt 16 (devTenths counts) } } (crossCheck counts s) := by
  unfold crossCheck
  dsimp only
  refine .ite (.trans (.trans (.trans ?_ (raise_kept _ _ _ _ _)) (setQuality_kept _ _)) (reacquire_kept _))
    (.ite (.trans ?_ (raise_kept _ _ _ _ _)) ?_)
  all_goals exact .of_tb rfl rfl

/-! ## A TIME_SET that waits for the edge, where no chain stands in the store -/

theorem applyTimeSet_kept (tai : DWord) (offset : Half) (flags : Byte) (s : State) :
    SourcesKept s (applyTimeSet tai offset flags s) := by
  unfold applyTimeSet
  dsimp only
  have hstep := stepCounter_kept (tai - s.tb.counter).toInt s
  generalize stepCounter (tai - s.tb.counter).toInt s = u at hstep ⊢
  have hq : SourcesKept s (if (tai - s.tb.counter).toInt = 0 then u else
      { setQuality .unsync u with tb := (setQuality .unsync u).tb.reacquire }) :=
    hstep.trans (.ite (.refl u) ((setQuality_kept _ u).trans (reacquire_kept _)))
  generalize (if (tai - s.tb.counter).toInt = 0 then u else _) = v at hq ⊢
  refine hq.trans ?_
  split
  · exact ⟨rfl, rfl, rfl, rfl⟩
  · split <;> exact ⟨rfl, rfl, rfl, rfl⟩

theorem finishRunning_nv {s : State} (h : s.nv.chains = []) (status : Byte) (data : List Byte) :
    (finishRunning status data s).nv = s.nv := by
  have hhead : headChain s = none := by unfold headChain; rw [h]; rfl
  unfold finishRunning
  rw [hhead]
  split
  · exact holdOutcome_nv _ _ s
  · cases s.cm.running <;> rfl

theorem finishRunning_kept {s : State} (h : s.nv.chains = []) (status : Byte) (data : List Byte) :
    SourcesKept s (finishRunning status data s) :=
  ⟨finishRunning_links .., by rw [finishRunning_nv h], by rw [finishRunning_tb], by rw [finishRunning_tb]⟩

theorem pendingTimeSet_kept {s : State} (h : s.nv.chains = []) : SourcesKept s (pendingTimeSet s) := by
  unfold pendingTimeSet
  split
  next tai offset flags _ =>
    have hset := (applyTimeSet_kept tai offset flags s).trans (writeParams_kept _)
    exact hset.trans (finishRunning_kept (hset.chains.trans h) _ _)
  next => exact .refl s

/-! ## PPS edges (R29, R35) -/

theorem ppsActive_iff (rising : Bool) (held : Nat) (s : State) :
    ppsActive rising held s = true ↔ (rising = !s.set.ppsEdge) ∧ 24 ≤ held := by
  cases rising <;> cases h : s.set.ppsEdge <;> simp [ppsActive, h]

/-- A valid interval counted: PPS is valid and, where it is selected, the deviation is measured (R29, Table 1-4). -/
def ppsMeasured (counts : Nat) (s : State) : State :=
  { s with tb := { s.tb with
    ppsValid := true, devPpm := if selects s 1 then BitVec.ofInt 16 (devTenths counts) else s.tb.devPpm } }

/-- The edge of a valid interval leaves it as measured, up to the check's verdict, a TIME_SET that waited, and the discipline. -/
theorem ppsPoint_kept {s : State} (h : s.nv.chains = []) (counts frac : Nat) :
    SourcesKept (ppsMeasured counts s) (ppsPoint counts frac s) := by
  unfold ppsPoint
  dsimp only
  generalize hw : noteCheck { s with tb := { s.tb with ppsValid := true } } = w
  have hcheck : SourcesKept (ppsMeasured counts s) (if selects w 1 then crossCheck counts w else w) := by
    have hsel : selects w 1 = selects s 1 := by rw [← hw]; rfl
    unfold ppsMeasured
    rw [hsel, ← hw]
    split
    · refine .trans ?_ (crossCheck_kept _ _)
      exact .of_tb rfl rfl
    · exact .of_tb rfl rfl
  generalize (if selects w 1 then _ else _) = u at hcheck ⊢
  have hset := hcheck.trans (pendingTimeSet_kept (hcheck.chains.trans h))
  generalize timeSetWaits u = applied
  generalize pendingTimeSet u = v at hset ⊢
  refine hset.trans ?_
  split
  · exact .refl v
  · generalize (if applied then _ else _) = err
    refine .trans ?_ (judgeLock_kept _)
    split
    · refine .trans ?_ (discipline_kept _ _ _ _)
      exact .of_tb rfl rfl
    · exact .of_tb (setFar_ppsValid ..) (setFar_devPpm ..)

theorem ppsEdge_first {s : State} (h : s.tb.ppsStarted = false ∨ s.tb.ppsMissed = true) (counts frac : Nat) :
    ppsEdge counts frac s = { s with tb := { s.tb with ppsStarted := true, ppsMissed := false } } :=
  if_pos (by rcases h with h | h <;> simp [h])

theorem ppsEdge_interval {s : State} (h1 : s.tb.ppsStarted = true) (h2 : s.tb.ppsMissed = false) (counts frac : Nat) :
    ppsEdge counts frac s = if ((counts : Int) - 24000000).natAbs ≤ 24000 then ppsPoint counts frac s
      else raise 225 0x0004 .warning (BitVec.ofNat 64 counts) { s with tb := s.tb.breakPps } :=
  if_neg (by simp [h1, h2])

theorem ppsEdge_chains {s : State} (h : s.nv.chains = []) (counts frac : Nat) : (ppsEdge counts frac s).nv.chains = [] := by
  unfold ppsEdge
  split
  · exact h
  · split
    · exact (ppsPoint_kept h counts frac).chains.trans h
    · exact (raise_kept _ _ _ _ _).chains.trans h

theorem ppsMissing_chains {s : State} (h : s.nv.chains = []) : (ppsMissing s).nv.chains = [] := by
  unfold ppsMissing
  split
  · exact (raise_kept _ _ _ _ _).chains.trans h
  · exact h

/-- PPS_FAULT, of a class that no enable drops, enters an open journal and changes nothing else. -/
theorem raise_ppsFault {s : State} (h : JournalOpen s) (arg : DWord) {tb : TimeBase}
    (hcount : tb.counter = s.tb.counter) (hstatus : tb.statusByte = s.tb.statusByte) :
    raise 225 0x0004 .warning arg { s with tb := tb } =
      { s with tb := tb, jr := { s.jr with queue := s.jr.queue ++ [eventOf 225 0x0004 .warning arg s] } } := by
  have he : eventOf 225 0x0004 .warning arg { s with tb := tb } = eventOf 225 0x0004 .warning arg s := by
    unfold eventOf; dsimp only; rw [hcount, hstatus]; rfl
  have hopen : JournalOpen { s with tb := tb } := h
  rw [raise_open _ _ .warning _ _ hopen (.inl (Nat.le_refl 2)), he]

/-! ## The loss of a source (R36, Table 2-3) -/

theorem afterLock_locked (s : State) : (afterLock s).locked = false := by
  unfold afterLock
  split <;> rfl

/-- The lock gone, the time base takes on the quality of Table 2-3 and nothing else; no leap second is applied. -/
theorem setQuality_afterLock {s : State} (h : s.tb.quality.locked = true) :
    (setQuality (afterLock s) s).tb = s.tb.toQuality (afterLock s) := by
  have hne : s.tb.quality ≠ afterLock s := fun he => by
    rw [he, afterLock_locked] at h
    exact Bool.false_ne_true h
  exact setQuality_tb_unlocked hne (afterLock_locked s)

/-- The time base without PPS. -/
def TimeBase.losePps (t : TimeBase) : TimeBase :=
  { t.breakPps with ppsValid := false, ppsLocked := false, ppsAcquired := false, ppsCheck := false }

/-- The time base without IRIG-B. -/
def TimeBase.loseIrig (t : TimeBase) : TimeBase :=
  { t with irigValid := false, irigRun := 0, irigLast := none, irigLocked := false, irigAcquired := false,
           irigLockRun := 0, irigFar := 0 }

/-- PPS lost as the lock of the time base: a TIME_SET that waited for its edge ends, and the quality is that of Table 2-3. -/
theorem sourceLost_pps {s : State} (hv : s.tb.ppsValid = true) (hc : s.nv.chains = []) (hq : s.tb.quality = .lockedPps) :
    ∃ u, sourceLost false s = setQuality (afterLock u) u ∧ u.tb = s.tb.losePps ∧ u.nv.chains = [] := by
  have hnote : noteCheck { s with tb :=
      { s.tb.breakPps with ppsValid := false, ppsLocked := false, ppsAcquired := false } } = { s with tb := s.tb.losePps } := by
    unfold noteCheck TimeBase.losePps
    rw [Bool.and_false]
  let r := raise 225 0x0005 .warning 1 { s with tb := s.tb.losePps }
  have hrtb : r.tb = s.tb.losePps := raise_tb _ _ _ _ _
  have hrc : r.nv.chains = [] := (raise_kept _ _ _ _ _).chains.trans hc
  let u := if timeSetWaits r then finishRunning stBadParam [] r else r
  have hu : u.tb = s.tb.losePps ∧ u.nv.chains = [] := by
    show (ite _ _ _ : State).tb = _ ∧ (ite _ _ _ : State).nv.chains = _
    split
    · rw [finishRunning_tb, finishRunning_nv hrc]; exact ⟨hrtb, hrc⟩
    · exact ⟨hrtb, hrc⟩
  have huq : (u.tb.quality == .lockedPps) = true := by rw [hu.1]; exact beq_iff_eq.2 hq
  have hlost : sourceLost false s = if u.tb.quality == .lockedPps then setQuality (afterLock u) u else u := by
    unfold sourceLost
    rw [if_neg Bool.false_ne_true, if_pos hv, hnote]
  exact ⟨u, hlost.trans (if_pos huq), hu⟩

/-- IRIG-B lost as the lock of the time base: to a PPS lock in AUTO, else to the quality of Table 2-3. -/
theorem sourceLost_irig {s : State} (hv : s.tb.irigValid = true) (hc : s.nv.chains = []) (hq : s.tb.quality = .lockedIrig) :
    ∃ u, sourceLost true s = setQuality
        (if s.set.src == 3 && s.tb.ppsLocked && s.tb.timeSetValid && !s.tb.drift then .lockedPps else afterLock u) u
      ∧ u.tb = s.tb.loseIrig ∧ u.nv.chains = [] := by
  let u := raise 225 0x0005 .warning 2 { s with tb := s.tb.loseIrig }
  have htb : u.tb = s.tb.loseIrig := raise_tb _ _ _ _ _
  have hset : u.set = s.set := raise_set _ _ _ _ _
  have huq : (u.tb.quality == .lockedIrig) = true := by rw [htb]; exact beq_iff_eq.2 hq
  have hlost : sourceLost true s = if u.tb.quality == .lockedIrig then
      if u.set.src == 3 && u.tb.ppsLocked && u.tb.timeSetValid && !u.tb.drift then setQuality .lockedPps u
      else setQuality (afterLock u) u
    else u := if_pos hv
  refine ⟨u, ?_, htb, (raise_kept _ _ _ _ _).chains.trans hc⟩
  rw [hlost, if_pos huq, hset, htb]
  exact (apply_ite (setQuality · u) _ _ _).symm

theorem sourceLost_not_valid {s : State} {irig : Bool} (h : (if irig then s.tb.irigValid else s.tb.ppsValid) = false) :
    sourceLost irig s = s := by
  cases irig
  · exact if_neg (Bool.eq_false_iff.1 h)
  · exact if_neg (Bool.eq_false_iff.1 h)

/-! ## Rows of the time base where no command waits -/

theorem whileLive_idle {f : State → State} {s : State} (hl : live s = true) (hf : (f s).nv.chains = []) :
    whileLive f s = f s := by
  unfold whileLive
  rw [if_pos hl, settle_none _ hf]

theorem runs_whileLive {i : Instr} {f : State → State} {s : State} {P : State → Prop}
    (hi : exec i s = .next (whileLive f s)) (hl : live s = true) (hf : (f s).nv.chains = []) (h : P (f s)) : Runs i s P :=
  ⟨f s, by rw [hi, whileLive_idle hl hf], h⟩

section
variable {s : State} (hl : live s = true) (hc : s.nv.chains = [])
include hl hc

theorem exec_ppsEdge (rising : Bool) (held counts : Nat) (frac : Fin 24) :
    exec (.ppsEdge rising held counts frac) s = .next (if ppsActive rising held s then ppsEdge counts frac s else s) := by
  refine congrArg Host.Outcome.next (whileLive_idle hl ?_)
  split
  · exact ppsEdge_chains hc _ _
  · exact hc

theorem exec_ppsEdge_valid {rising : Bool} {held counts : Nat} (frac : Fin 24) (ha : ppsActive rising held s = true)
    (h1 : s.tb.ppsStarted = true) (h2 : s.tb.ppsMissed = false) (hlo : 23976000 ≤ counts) (hhi : counts ≤ 24024000) :
    Runs (.ppsEdge rising held counts frac) s (fun t => t.tb.ppsValid = true ∧ t.links = s.links ∧ t.ports = s.ports
      ∧ (selects s 1 = true → t.tb.devPpm = BitVec.ofInt 16 (devTenths counts))) := by
  have hin : ((counts : Int) - 24000000).natAbs ≤ 24000 := by omega
  have kept := ppsPoint_kept hc counts frac
  refine ⟨_, exec_ppsEdge hl hc rising held counts frac, ?_⟩
  rw [if_pos ha, ppsEdge_interval h1 h2, if_pos hin]
  exact ⟨kept.ppsValid, kept.links, ppsPoint_ports .., fun hsel => kept.devPpm.trans (if_pos hsel)⟩

theorem exec_ppsEdge_rejected {rising : Bool} {held counts : Nat} (frac : Fin 24) (ha : ppsActive rising held s = true)
    (h1 : s.tb.ppsStarted = true) (h2 : s.tb.ppsMissed = false) (hout : counts < 23976000 ∨ 24024000 < counts)
    (ho : JournalOpen s) : Runs (.ppsEdge rising held counts frac) s (fun t => t.tb = s.tb.breakPps
      ∧ Gained [eventOf 225 0x0004 .warning (BitVec.ofNat 64 counts) s] s t) := by
  have hbeyond : ¬ ((counts : Int) - 24000000).natAbs ≤ 24000 := by omega
  refine ⟨_, exec_ppsEdge hl hc rising held counts frac, ?_⟩
  rw [if_pos ha, ppsEdge_interval h1 h2, if_neg hbeyond, raise_ppsFault (tb := s.tb.breakPps) ho _ rfl rfl]
  exact ⟨rfl, rfl⟩

theorem exec_ppsFault (h1 : s.tb.ppsStarted = true) (h2 : s.tb.ppsMissed = false) (ho : JournalOpen s) :
    Runs .ppsFault s (fun t => t.tb = { s.tb.breakPps with ppsMissed := true }
      ∧ Gained [eventOf 225 0x0004 .warning 0 s] s t ∧ EventFrame { s with tb := t.tb } t) := by
  have hmiss : ppsMissing s = raise 225 0x0004 .warning 0 { s with tb := { s.tb.breakPps with ppsMissed := true } } :=
    if_pos (by rw [h1, h2]; rfl)
  refine runs_whileLive rfl hl (ppsMissing_chains hc) ?_
  rw [hmiss, raise_ppsFault (tb := { s.tb.breakPps with ppsMissed := true }) ho _ rfl rfl]
  exact ⟨rfl, rfl, rfl, .of_nv rfl⟩

theorem exec_sourceLost_pps (hv : s.tb.ppsValid = true) (hq : s.tb.quality = .lockedPps) :
    Runs (.sourceLost false) s (fun t => t.tb.ppsValid = false ∧ t.tb.ppsLocked = false
      ∧ t.tb.quality = (if 600 ≤ s.tb.lockSecs.toNat then .holdover else .unsync) ∧ t.tb.counter = s.tb.counter) := by
  obtain ⟨u, hlost, htb, huc⟩ := sourceLost_pps hv hc hq
  refine runs_whileLive rfl hl (by rw [hlost, setQuality_chains]; exact huc) ?_
  have hlocked : u.tb.quality.locked = true := by rw [htb]; exact congrArg Quality.locked hq
  rw [hlost, setQuality_afterLock hlocked, toQuality_eq, afterLock, htb]
  exact ⟨rfl, rfl, rfl, rfl⟩

theorem exec_sourceLost_irig (hv : s.tb.irigValid = true) (hq : s.tb.quality = .lockedIrig) (hsrc : s.set.src = 2) :
    Runs (.sourceLost true) s (fun t => t.tb.irigValid = false ∧ t.tb.irigLocked = false
      ∧ t.tb.quality = (if 600 ≤ s.tb.lockSecs.toNat then .holdover else .unsync) ∧ t.tb.counter = s.tb.counter) := by
  obtain ⟨u, hlost, htb, huc⟩ := sourceLost_irig hv hc hq
  rw [hsrc] at hlost
  refine runs_whileLive rfl hl (by rw [hlost, setQuality_chains]; exact huc) ?_
  have hlocked : u.tb.quality.locked = true := by rw [htb]; exact congrArg Quality.locked hq
  have hafter : sourceLost true s = setQuality (afterLock u) u := hlost
  rw [hafter, setQuality_afterLock hlocked, toQuality_eq, afterLock, htb]
  exact ⟨rfl, rfl, rfl, rfl⟩

theorem exec_sourceLost_fallback (hv : s.tb.irigValid = true) (hq : s.tb.quality = .lockedIrig) (hsrc : s.set.src = 3)
    (hp : s.tb.ppsLocked = true) (hset : s.tb.timeSetValid = true) (hd : s.tb.drift = false) :
    Runs (.sourceLost true) s (fun t => t.tb.irigValid = false ∧ t.tb.irigLocked = false ∧ t.tb.quality = .lockedPps
      ∧ t.tb.counter = s.tb.counter) := by
  obtain ⟨u, hlost, htb, huc⟩ := sourceLost_irig hv hc hq
  rw [hsrc, hp, hset, hd] at hlost
  refine runs_whileLive rfl hl (by rw [hlost, setQuality_chains]; exact huc) ?_
  have hfall : sourceLost true s = setQuality .lockedPps u := hlost
  have huq : u.tb.quality ≠ .lockedPps := by rw [htb]; exact fun h => nomatch hq.symm.trans h
  rw [hfall, setQuality_tb huq, toQuality_eq, htb]
  split <;> exact ⟨rfl, rfl, rfl, rfl⟩

theorem exec_sourceLost_not_valid {irig : Bool} (h : (if irig then s.tb.irigValid else s.tb.ppsValid) = false) :
    exec (.sourceLost irig) s = .next s := by
  have hsame := sourceLost_not_valid h
  exact congrArg Host.Outcome.next ((whileLive_idle hl (by rw [hsame]; exact hc)).trans hsame)

theorem exec_holdoverExpired (h : s.tb.quality = .holdover) :
    Runs .holdoverExpired s (fun t => t.tb.quality = .unsync ∧ t.tb.counter = s.tb.counter ∧ t.aorf = s.aorf
      ∧ (JournalOpen s → GainedFirst [eventOf 225 0x0006 .warning (argOf [(0, holdoverSecs s)]) s] s t)) := by
  let r := raise 225 0x0006 .warning (argOf [(0, holdoverSecs s)]) s
  have hends : holdoverExpired s = setQuality .unsync r := if_pos h
  have hrtb : r.tb = s.tb := raise_tb _ _ _ _ _
  have hrq : r.tb.quality ≠ .unsync := by rw [hrtb, h]; exact Quality.noConfusion
  refine runs_whileLive rfl hl (by rw [hends, setQuality_chains]; exact (raise_kept _ _ _ _ _).chains.trans hc) ?_
  rw [hends]
  refine ⟨?_, ?_, ?_, fun ho => ?_⟩
  · rw [setQuality_tb_unlocked hrq rfl, toQuality_eq]
  · rw [setQuality_tb_unlocked hrq rfl, toQuality_eq, hrtb]
  · rw [setQuality_eq]; exact raise_aorf _ _ _ _ _
  · have hraised : r.jr.queue = s.jr.queue ++ [eventOf 225 0x0006 .warning (argOf [(0, holdoverSecs s)]) s] := by
      show (raise _ _ _ _ _).jr.queue = _
      rw [raise_open _ _ .warning _ _ ho (.inl (Nat.le_refl 2))]
    unfold GainedFirst
    rw [← hraised]
    exact setQuality_unlocked_grows rfl r

theorem exec_holdoverExpired_not_holdover (h : s.tb.quality ≠ .holdover) : exec .holdoverExpired s = .next s := by
  have hsame : holdoverExpired s = s := if_neg h
  exact congrArg Host.Outcome.next ((whileLive_idle hl (by rw [hsame]; exact hc)).trans hsame)

end

/-- Settles O12: with no command waiting, each row leaves what its own operation makes of the time base, and the discipline that
follows a valid interval touches neither the source's validity nor the measured deviation. -/
theorem timeSources : Obligations.TimeSources := by
  refine ⟨fun s rising held counts frac hl hc => ?_, fun s hl hc => ⟨?_, ?_, ?_, ?_, ?_, ?_, ?_⟩⟩
  · intro active
    have hiff : ppsActive rising held s = true ↔ active := ppsActive_iff rising held s
    refine ⟨fun hna => ?_, fun ha hfirst => ?_, fun ha => exec_ppsEdge_valid hl hc frac (hiff.2 ha),
      fun ha => exec_ppsEdge_rejected hl hc frac (hiff.2 ha), exec_ppsFault hl hc⟩
    · rw [exec_ppsEdge hl hc, if_neg (mt hiff.1 hna)]
    · rw [exec_ppsEdge hl hc, if_pos (hiff.2 ha), ppsEdge_first hfirst]
  · exact exec_sourceLost_pps hl hc
  · exact exec_sourceLost_irig hl hc
  · exact exec_sourceLost_fallback hl hc
  · exact fun h => exec_sourceLost_not_valid hl hc h
  · exact fun h => exec_sourceLost_not_valid hl hc h
  · exact exec_holdoverExpired hl hc
  · exact exec_holdoverExpired_not_holdover hl hc

end Sys2Proof.Machine
end

section
/-! PROOFS. What an empty queue does (R32, R34, R51): one µs of the crystal. -/

namespace Sys2Proof.Machine

theorem step_idle {s : State} (h : s.pending = []) : step s = .next (tick s) := by
  unfold step; rw [h]

theorem passUs_counter (n : Nat) (t : TimeBase) :
    (t.passUs n).counter = t.counter + BitVec.ofNat 64 (t.accAfter n / 1000000000) := by
  unfold TimeBase.passUs; dsimp only; split <;> rfl

theorem passUs_acc (n : Nat) (t : TimeBase) : (t.passUs n).acc = t.accAfter n % 1000000000 := by
  unfold TimeBase.passUs; dsimp only; split <;> rfl

theorem passUs_quality (n : Nat) (t : TimeBase) : (t.passUs n).quality = t.quality := by
  unfold TimeBase.passUs; dsimp only; split <;> rfl

theorem passUs_rate (n : Nat) (t : TimeBase) : (t.passUs n).rate = t.rate := by
  unfold TimeBase.passUs; dsimp only; split <;> rfl

theorem passUs_holdover {t : TimeBase} (h : t.quality = .holdover) (n : Nat) :
    (t.passUs n).holdoverUs = t.holdoverUs + n ∧ (t.passUs n).lockSecs = t.lockSecs := by
  unfold TimeBase.passUs; dsimp only; rw [h]; exact ⟨rfl, rfl⟩

/-- Without a trim the accumulator carries the one whole µs into the counter (R32). -/
theorem accAfter_untrimmed {t : TimeBase} (hr : t.rate = 0) (ha : t.acc < 1000000000) : t.accAfter 1 / 1000000000 = 1 := by
  unfold TimeBase.accAfter
  rw [hr, show ((0 : Word).toInt) = 0 from rfl]
  omega

theorem passUs_untrimmed {t : TimeBase} (hr : t.rate = 0) (ha : t.acc < 1000000000) :
    (t.passUs 1).counter = t.counter + 1 := by
  rw [passUs_counter, accAfter_untrimmed hr ha]; rfl

/-- The counts that move with every µs while firmware runs. -/
def countUs (n : Nat) (s : State) : State :=
  { s with
    clock := s.clock + n,
    tb := s.tb.passUs n,
    dev := { s.dev with uptimeUs := s.dev.uptimeUs + n, opUs := s.dev.opUs + n },
    hb := { s.hb with silentUs := s.hb.silentUs + n },
    cm := { s.cm with waits := if s.db.coreHalted then s.cm.waits else s.cm.waits.map (fun w => (w.1, w.2 + n)) },
    db := { s.db with chalUs := s.db.chalUs - n, clockUs := satNat 1000000 (s.db.clockUs + n) } }

/-- Beside those counts, passing time moves the operating minutes and what the store counts of them. -/
theorem passTime_eq (n : Nat) (s : State) : passTime n s = { countUs n s with
    dev := { (countUs n s).dev with opUs := (passTime n s).dev.opUs }
    nv := { s.nv with due := (passTime n s).nv.due, live := (passTime n s).nv.live } } := by
  unfold passTime
  dsimp only
  split <;> rfl

/-- Settles O2: a µs is `passTime` while firmware runs and `passUs` through a reset that keeps the counter. -/
theorem idleTick : Obligations.IdleTick := by
  intro s hp counts
  have hcounts {t : State} (ht : t.tb = s.tb.passUs 1) : counts t := by
    show _ ∧ _ ∧ _
    rw [ht]
    exact ⟨passUs_counter 1 _, passUs_acc 1 _, passUs_untrimmed⟩
  refine ⟨fun hl => ⟨passTime 1 s, ?_, ?_⟩, fun hl hc => ⟨{ s with tb := s.tb.passUs 1 }, ?_, rfl, hcounts rfl, ?_⟩,
    fun hl hc => ?_⟩
  · rw [step_idle hp, tick, if_pos hl]
  · rw [passTime_eq]
    exact ⟨hp, rfl, hcounts rfl, rfl, rfl, rfl, rfl, rfl, rfl, rfl, rfl, rfl, rfl, rfl, rfl, rfl, rfl, rfl⟩
  · rw [step_idle hp, tick, hl, hc]; rfl
  · exact ⟨passUs_quality 1 _, passUs_rate 1 _, fun hq => passUs_holdover hq 1⟩
  · rw [step_idle hp, tick, hl, hc]; rfl

end Sys2Proof.Machine
end

section
/-! PROOFS. Parameter words, run-time words and the resets of a port's logic (R48, R81, R93, R95, R110, R118, R127, R135). -/

namespace Sys2Proof.Machine

/-! ## One port changed -/

theorem getElem_updPort (p : Fin 8) (f : PortSt → PortSt) (s : State) :
    (updPort p.val f s).ports[p.val] = f s.ports[p.val] := by
  show (updVec s.ports p.val f)[p.val] = _
  rw [getElem_updVec, if_pos rfl]

theorem updVec_of_fixed {α : Type} {n : Nat} (v : Vector α n) (f : α → α) {i : Nat} (hi : i < n) (h : f v[i] = v[i]) :
    updVec v i f = v := by
  ext k hk
  rw [getElem_updVec]
  split
  next e => subst e; exact h
  next => rfl

theorem updVec_id {α : Type} {n : Nat} (v : Vector α n) (i : Nat) : updVec v i id = v := by
  by_cases hi : i < n
  · exact updVec_of_fixed v id hi rfl
  · unfold updVec; rw [Vector.getElem?_eq_none (not_lt.1 hi)]

theorem updPort_of_fixed {p : Fin 8} {f : PortSt → PortSt} {s : State} (h : f s.ports[p.val] = s.ports[p.val]) :
    updPort p.val f s = s := by
  unfold updPort; rw [updVec_of_fixed _ _ p.isLt h]

/-! ## Channels of a port -/

theorem chan_updChan (q : PortSt) (f : ChanSt → ChanSt) (c : Nat) {d : Nat} (hd : d < 6) :
    (q.updChan c f).chan d = if c = d then f (q.chan d) else q.chan d := by
  unfold PortSt.chan PortSt.updChan
  simp only [Vector.getElem?_eq_getElem hd, Option.getD_some]
  exact getElem_updVec _ _ _ hd

theorem updChan_congr {q : PortSt} {f g : ChanSt → ChanSt} {c : Nat} (h : f (q.chan c) = g (q.chan c)) :
    q.updChan c f = q.updChan c g := by
  unfold PortSt.updChan updVec
  unfold PortSt.chan at h
  split
  next x hx => rw [hx] at h; exact congrArg (fun y => { q with chans := q.chans.setIfInBounds c y }) h
  next => rfl

theorem updChan_id (q : PortSt) (c : Nat) : q.updChan c id = q := by
  unfold PortSt.updChan; rw [updVec_id]

/-- A pass over channels, each changed by a function of its own that rests on the parameter words alone: nothing but the channels
changes, and each of them once. -/
theorem foldl_updChan {f : Nat → PortSt → PortSt} {g : Nat → ChanSt → ChanSt} {ws : List Half}
    (hf : ∀ c q, q.words = ws → f c q = q.updChan c (g c)) (l : List Nat) (hl : l.Nodup) (q : PortSt) (hq : q.words = ws) :
    l.foldl (fun p c => f c p) q = { q with chans := (l.foldl (fun p c => f c p) q).chans }
      ∧ ∀ d < 6, (l.foldl (fun p c => f c p) q).chan d = if d ∈ l then g d (q.chan d) else q.chan d := by
  induction l generalizing q with
  | nil => exact ⟨rfl, fun d _ => rfl⟩
  | cons c l ih =>
    obtain ⟨hc, hl⟩ := List.nodup_cons.1 hl
    obtain ⟨hframe, hchan⟩ := ih hl (q.updChan c (g c)) hq
    rw [List.foldl_cons, hf c q hq]
    refine ⟨hframe, fun d hd => ?_⟩
    rw [hchan d hd, chan_updChan q _ c hd]
    by_cases hcd : c = d
    · subst hcd; simp [hc]
    · simp [hcd, Ne.symm hcd]

theorem eachChan_updChan {f : Nat → PortSt → PortSt} {g : Nat → ChanSt → ChanSt} {q : PortSt}
    (hf : ∀ c r, r.words = q.words → f c r = r.updChan c (g c)) :
    q.eachChan f = { q with chans := (q.eachChan f).chans } ∧ ∀ c : Fin 6, (q.eachChan f).chan c.val = g c.val (q.chan c.val) := by
  obtain ⟨hframe, hchan⟩ := foldl_updChan hf (List.range 6) List.nodup_range q rfl
  unfold PortSt.eachChan
  exact ⟨hframe, fun c => (hchan c.val c.isLt).trans (if_pos (List.mem_range.2 c.isLt))⟩

/-! ## Link loss at the port (R94) -/

theorem linkLoss_seeded {q : PortSt} (h : q.phase = .seeded) :
    q.linkLoss.phase = .ident ∧ q.linkLoss.words = q.words
      ∧ ∀ c : Fin 6, (q.linkLoss.chan c.val).closed = false ∧ (q.linkLoss.chan c.val).portOpen = true := by
  obtain ⟨hframe, hchan⟩ := eachChan_updChan (f := fun c p => p.openLatched c)
    (g := fun _ x => { x.opened with portOpen := true, wantClose := false }) (q := q) fun _ _ _ => rfl
  have hwords : (q.eachChan (fun c p => p.openLatched c)).words = q.words := by rw [hframe]
  unfold PortSt.linkLoss
  rw [if_pos (by rw [h]; rfl)]
  generalize q.eachChan (fun c p => p.openLatched c) = r at hchan hwords
  refine ⟨rfl, hwords, fun c => ?_⟩
  show (r.chan c.val).closed = false ∧ (r.chan c.val).portOpen = true
  rw [hchan c]
  exact ⟨rfl, rfl⟩

/-! ## Parameter words (R81) -/

theorem judgeWord_eq (a : Nat) (w : Half) (q : PortSt) : q.judgeWord a w = { q with diagq := (q.judgeWord a w).diagq } := by
  unfold PortSt.judgeWord PortSt.diag
  dsimp only
  split <;> split <;> rfl

theorem imageWrite_ident {q : PortSt} (h : q.phase = .ident) (a : Nat) (w : Half) :
    (q.imageWrite a w).phase = .ident ∧ (q.imageWrite a w).words = q.words.set a w ∧ (q.imageWrite a w).chans = q.chans := by
  unfold PortSt.imageWrite
  rw [h]
  dsimp only
  rw [judgeWord_eq]
  exact ⟨rfl, rfl, rfl⟩

theorem imageWrite_seeded {q : PortSt} (h : q.phase = .seeded) (a : Nat) (w : Half) : q.imageWrite a w = q.linkLoss := by
  unfold PortSt.imageWrite; rw [h]

/-! ## Run-time words (R48, R81, R110, R118, R127) -/

theorem runTime_iff (q : PortSt) : q.runTime = true ↔ q.phase = .seeded ∧ q.gotRun = true := by
  simp [PortSt.runTime]

/-- Outside a RUN frame of a seeded port a run-time word does nothing. -/
theorem runTimeWords_idle {q : PortSt} (h : q.runTime = false) (t : Nat) (w : Half) :
    q.setSamplePhase w = q ∧ q.setPhaseLo w = q ∧ q.setPhaseHi t w = q ∧ q.setLearn w = q ∧ q.setTestNow w = q := by
  have hn : ¬ q.runTime = true := Bool.eq_false_iff.1 h
  refine ⟨if_neg hn, if_neg hn, ?_, if_neg hn, if_neg hn⟩
  unfold PortSt.setPhaseHi
  split
  · exact if_neg hn
  · rfl

theorem setPhaseHi_none {q : PortSt} (h : q.phaseLo = none) (t : Nat) (w : Half) : q.setPhaseHi t w = q := by
  unfold PortSt.setPhaseHi; rw [h]

theorem setPhaseHi_some {q : PortSt} {lo : Half} (h : q.phaseLo = some lo) (hr : q.runTime = true) (t : Nat) (w : Half) :
    q.setPhaseHi t w = { q with framePhase := some ((w.setWidth 4 : BitVec 4) ++ lo), phaseAt := t } := by
  unfold PortSt.setPhaseHi; rw [h]; exact if_pos hr

theorem startLearn_input {q : PortSt} {m : Byte} {i : Fin 16} (hu : q.used i.val = true) (hs : q.srcOf i.val ≠ 0)
    (hm : m.getLsbD (q.srcOf i.val - 1) = true) :
    (q.startLearn m).inputs[i.val].learning = true ∧ (q.startLearn m).inputs[i.val].learnData = [] := by
  simp [PortSt.startLearn, hu, hs, hm]

/-- A channel under TEST_NOW: a test is asked for where it is named, enabled and not in CLAMP (R127). -/
def askTest (named : Bool) (x : ChanSt) : ChanSt := { x with asked := x.asked || (named && x.brake != .clamp) }

theorem askTest_refused {named : Bool} {x : ChanSt} (h : (named && x.brake != .clamp) = false) : askTest named x = x := by
  unfold askTest; rw [h, Bool.or_false]

theorem testNow_chans (m : BitVec 6) (q : PortSt) : (q.testNow m).inputs = q.inputs
    ∧ ∀ c : Fin 6, (q.testNow m).chan c.val = askTest (m.getLsbD c.val && q.chanEn c.val) (q.chan c.val) := by
  obtain ⟨hframe, hchan⟩ := eachChan_updChan (q := q) (f := fun c p =>
      if m.getLsbD c && p.chanEn c && (p.chan c).brake != .clamp then p.updChan c (fun x => { x with asked := true }) else p)
    (g := fun c => askTest (m.getLsbD c && q.chanEn c)) fun c r hr => by
      have hen : r.chanEn c = q.chanEn c := by unfold PortSt.chanEn PortSt.chanCfg PortSt.par; rw [hr]
      rw [hen]
      split
      next ha => exact updChan_congr (by unfold askTest; rw [ha, Bool.or_true])
      next ha => exact (updChan_id r c).symm.trans (updChan_congr (askTest_refused (Bool.eq_false_iff.2 ha)).symm)
  have htest : q.testNow m = q.eachChan _ := rfl
  rw [htest]
  exact ⟨by rw [hframe], hchan⟩

/-! ## The resets of a port's logic and its holds (R93, R95, R131, R135) -/

/-- What a reset of the logic leaves of a channel: what holds its switches. -/
def ChanSt.held (x : ChanSt) : ChanSt :=
  { ChanSt.new with closed := x.closed, brake := x.brake, charged := x.charged, chargedFw := x.chargedFw, chargedDs := x.chargedDs }

theorem logicReset_chan (q : PortSt) (c : Fin 6) : q.logicReset.chan c.val = (q.chan c.val).held := by
  unfold PortSt.chan
  rw [Vector.getElem?_eq_getElem c.isLt, Vector.getElem?_eq_getElem c.isLt]
  exact Vector.getElem_map _ c.isLt

theorem holdDecay_other (q : PortSt) (sw : Nat) {c d : Fin 6} (h : d ≠ c) : (q.holdDecay c.val sw).chan d.val = q.chan d.val :=
  (chan_updChan q _ _ d.isLt).trans (if_neg fun e => h (Fin.ext e.symm))

theorem holdDecay_same (q : PortSt) (sw : Nat) (c : Fin 6) :
    (q.holdDecay c.val sw).chan c.val = (q.chan c.val).holdDecay c.val sw :=
  (chan_updChan q _ _ c.isLt).trans (if_pos rfl)

/-- Which of the three holds goes, and whether its switch opens with it. -/
theorem ChanSt.holdDecay_cases (c : Fin 6) (sw : Fin 3) (x : ChanSt) :
    let y := x.holdDecay c.val sw.val
    (sw = 0 → y.charged = false) ∧ (sw = 1 → y.chargedFw = false) ∧ (sw = 2 → y.chargedDs = false)
      ∧ ((sw = 0 ∧ x.brake ≠ .clamp) ∨ (sw = 1 ∧ x.brake = .clamp) ∨ (sw = 2 ∧ 4 ≤ c.val) → y.closed = false ∧ y.brake = .off)
      ∧ ((sw = 0 ∧ x.brake = .clamp) ∨ (sw = 1 ∧ x.brake ≠ .clamp) ∨ (sw = 2 ∧ c.val < 4) →
        y.closed = x.closed ∧ y.brake = x.brake) := by
  match sw with
  | 0 => by_cases h : x.brake = .clamp <;> simp [ChanSt.holdDecay, ChanSt.dropped, h]
  | 1 => by_cases h : x.brake = .clamp <;> simp [ChanSt.holdDecay, ChanSt.dropped, h]
  | 2 =>
    by_cases h : 4 ≤ c.val
    · simp [ChanSt.holdDecay, ChanSt.dropped, h]
    · simp [ChanSt.holdDecay, h]

/-- Settles O52: each row changes its port by one operation, and the laws above say what that makes of the port. -/
theorem portWords : Obligations.PortWords := by
  intro s p a w c sw i q leaves
  have row {x : Instr} {f : PortSt → PortSt} {P : PortSt → Prop} (hx : exec x s = .next (updPort p.val f s))
      (h : P (f q)) : leaves x P := ⟨_, hx, by dsimp only; rw [getElem_updPort]; exact h⟩
  clear_value leaves
  have idle {x : Instr} {f : PortSt → PortSt} (hx : exec x s = .next (updPort p.val f s)) (h : f q = q) :
      exec x s = .next s := by rw [hx, updPort_of_fixed h]
  refine ⟨fun h => row rfl (imageWrite_ident h _ w), fun h => row rfl ?_, fun h hg => ?_, fun h => idle rfl (setPhaseHi_none h _ w),
    fun h => ?_, row rfl ?_, row rfl ?_, row rfl ⟨rfl, rfl, rfl⟩⟩
  · obtain ⟨hphase, hwords, hchan⟩ := linkLoss_seeded h
    rw [imageWrite_seeded h]
    exact ⟨hphase, hwords, hchan c⟩
  · have hr : q.runTime = true := (runTime_iff q).2 ⟨h, hg⟩
    refine ⟨row rfl (if_pos hr), row rfl (if_pos hr), fun lo hlo => row rfl (setPhaseHi_some hlo hr _ w), row rfl ?_, row rfl ?_⟩
    · rw [PortSt.setLearn, if_pos hr]
      exact ⟨rfl, rfl, startLearn_input⟩
    · obtain ⟨hin, hchan⟩ := testNow_chans (w.setWidth 6) q
      rw [PortSt.setTestNow, if_pos hr]
      refine ⟨hin, ?_⟩
      rw [hchan c, askTest]
      simp
  · have hn : q.runTime = false := Bool.eq_false_iff.2 fun hr => by
      obtain ⟨hphase, hrun⟩ := (runTime_iff q).1 hr
      rcases h with h | h
      · exact h hphase
      · exact Bool.false_ne_true (h.symm.trans hrun)
    obtain ⟨hsample, hlo, hhi, hlearn, htest⟩ := runTimeWords_idle hn s.clock w
    simp only [List.forall_mem_cons, List.not_mem_nil, IsEmpty.forall_iff, implies_true, and_true]
    exact ⟨idle rfl hsample, idle rfl hlo, idle rfl hhi, idle rfl hlearn, idle rfl htest⟩
  · refine ⟨rfl, rfl, rfl, rfl, ?_⟩
    rw [logicReset_chan]
    exact ⟨rfl, rfl, rfl⟩
  · refine ⟨fun d hd => holdDecay_other q _ hd, ?_⟩
    rw [holdDecay_same]
    exact ChanSt.holdDecay_cases c sw (q.chan c.val)

end Sys2Proof.Machine
end

section
/-! PROOFS. READ_HRF (R32, R52, R162, R302): each register of the request is read in the state that the reads before it leave. -/

namespace Sys2Proof.Machine

/-! ## An unsequenced command answered -/

theorem pushReply_replies (r : Reply) (s : State) : (pushReply r s).cm.replies.getLast? = some r := by
  unfold pushReply raiseCause
  dsimp only
  split <;> simp

theorem pushReply_hostFrame (r : Reply) (s : State) : HostFrame s (pushReply r s) := by
  unfold HostFrame; rw [pushReply_eq]

theorem heard_eventStore (p : Packet) (s : State) : EventStore s (heard p s) := touchBus_store s

/-- A packet of an unsequenced opcode whose length it allows is answered by the opcode's execution in the state that heard it. -/
theorem receivePacket_executes {op : Byte} {tag : BitVec 3} {params : List Byte} {s : State} (h : Accepts tag s)
    (ho : opSequenced op = some false) (hA : op ≠ 0xA0) (hk : lengthOk op params.length = true) (hl : params.length ≤ 512) :
    let p := plainPacket op tag params
    let a := execPlain op params (heard p s)
    receivePacket p s = pushReply (finalReply p a.1 0 a.2.1) a.2.2 := by
  intro p a
  rw [receivePacket_plain h ho hl, runUnsequenced_plain _ hA hk]

/-! ## Registers read one after the other (R302) -/

/-- The state after the registers of a list were read: TB_TIME_HI latched by a read of TB_TIME_LO (R32), EN_SNAP_ADDR moved by each
of EN_SNAP_DATA (R162). -/
def afterReads (l : List Nat) (s : State) : State :=
  { s with
    tb := if l.any (· == 0x12) then { s.tb with timeHi := (s.tb.counter >>> 32).setWidth 32 } else s.tb
    en := { s.en with snapAddr := s.en.snapAddr + 2 * BitVec.ofNat 12 (l.countP (· == 0x69)) } }

theorem afterReads_nil (s : State) : afterReads [] s = s := by
  unfold afterReads; simp

theorem readReg_eq (i : Nat) (s : State) : readReg i s = (hrf i s, afterReads [i] s) := by
  unfold readReg
  by_cases h : i = 0x12
  · subst h; simp [afterReads]
  · by_cases h' : i = 0x69
    · subst h'; simp [afterReads]
    · simp [afterReads, h, h']

theorem afterReads_cons (i : Nat) (l : List Nat) (s : State) : afterReads l (afterReads [i] s) = afterReads (i :: l) s := by
  have hcount : (i :: l).countP (· == 0x69) = l.countP (· == 0x69) + [i].countP (· == 0x69) := by
    simp [List.countP_cons]
  have hany : (i :: l).any (· == 0x12) = (l.any (· == 0x12) || [i].any (· == 0x12)) := by
    simp [Bool.or_comm]
  have hsnap (m n : Nat) : s.en.snapAddr + 2 * BitVec.ofNat 12 (m + n)
      = s.en.snapAddr + 2 * BitVec.ofNat 12 n + 2 * BitVec.ofNat 12 m := by
    rw [BitVec.ofNat_add, BitVec.mul_add]; ac_rfl
  unfold afterReads
  rw [hcount, hany, hsnap]
  cases l.any (· == 0x12) <;> cases [i].any (· == 0x12) <;> rfl

/-- READ_HRF reads n registers from i, a step apart, each in the state that the earlier reads leave. -/
theorem readRegs_eq (step n i : Nat) (s : State) :
    readRegs step n i s =
      ((List.range n).map (fun k => hrf (i + step * k) (afterReads ((List.range k).map (fun j => i + step * j)) s)),
        afterReads ((List.range n).map (fun j => i + step * j)) s) := by
  induction n generalizing i s with
  | zero => exact congrArg (Prod.mk []) (afterReads_nil s).symm
  | succ n ih =>
    have hindex (j : Nat) : i + step + step * j = i + step * (j + 1) := by rw [Nat.mul_succ]; omega
    unfold readRegs
    rw [readReg_eq]
    dsimp only
    rw [ih]
    simp only [hindex, afterReads_cons, List.range_succ_eq_map, List.map_cons, List.map_map, Nat.mul_zero, Nat.add_zero,
      List.range_zero, List.map_nil, afterReads_nil, Function.comp_def, Nat.succ_eq_add_one]

/-- The register that READ_HRF reads as its k-th. -/
def readIndex (rep : Bool) (start k : Nat) : Nat := if rep then start else start + k

theorem readIndex_step (rep : Bool) (start k : Nat) : readIndex rep start k = start + (if rep then 0 else 1) * k := by
  cases rep
  · exact congrArg (start + ·) (Nat.one_mul k).symm
  · exact congrArg (start + ·) (Nat.zero_mul k).symm

/-- The state in which READ_HRF reads its k-th register. -/
def readState (rep : Bool) (start : Nat) (s : State) (k : Nat) : State := afterReads ((List.range k).map (readIndex rep start)) s

theorem readState_zero (rep : Bool) (start : Nat) (s : State) : readState rep start s 0 = s := afterReads_nil s

theorem readState_en {rep : Bool} {start n : Nat} {p : Packet} {s : State}
    (h : ((List.range n).map (readIndex rep start)).countP (· == 0x69) = 0) :
    (readState rep start (heard p s) n).en = s.en := by
  unfold readState afterReads
  rw [h]
  simp [(heard_hostFrame p s).en]

theorem readState_tb {rep : Bool} {start n : Nat} {p : Packet} {s : State}
    (h : ((List.range n).map (readIndex rep start)).any (· == 0x12) = false) :
    (readState rep start (heard p s) n).tb = s.tb := by
  unfold readState afterReads
  rw [h]
  exact (heard_hostFrame p s).tb

section
variable (start count flags z : Byte) (s : State)

theorem readHrf_ok (h1 : 1 ≤ count.toNat) (h64 : count.toNat ≤ 64)
    (h : flags.getLsbD 0 = true ∨ start.toNat + count.toNat ≤ 256) :
    readHrf [start, count, flags, z] s =
      (stOk, (List.range count.toNat).flatMap (fun k =>
          bytes4 (hrf (readIndex (flags.getLsbD 0) start.toNat k) (readState (flags.getLsbD 0) start.toNat s k))),
        readState (flags.getLsbD 0) start.toNat s count.toNat) := by
  have hn : ¬ (count.toNat = 0 ∨ 64 < count.toNat ∨ (!flags.getLsbD 0 ∧ 256 < start.toNat + count.toNat)) := by
    rintro (h0 | h0 | ⟨hr, h0⟩)
    · omega
    · omega
    · rcases h with h | h
      · rw [h] at hr; exact Bool.false_ne_true hr
      · omega
  have hi : readIndex (flags.getLsbD 0) start.toNat = fun k => start.toNat + (if flags.getLsbD 0 then 0 else 1) * k :=
    funext (readIndex_step _ _)
  unfold readHrf
  rw [show byteAt [start, count, flags, z] 0 = start from rfl, show byteAt [start, count, flags, z] 1 = count from rfl,
    show byteAt [start, count, flags, z] 2 = flags from rfl, if_neg hn, readRegs_eq]
  unfold readState
  dsimp only
  rw [hi, List.flatMap_map]

theorem readHrf_badParam
    (h : count = 0 ∨ 64 < count.toNat ∨ (flags.getLsbD 0 = false ∧ 256 < start.toNat + count.toNat)) :
    readHrf [start, count, flags, z] s = (stBadParam, [], s) := by
  refine if_pos (h.imp (fun h0 => ?_) (Or.imp_right fun ⟨hr, h0⟩ => ⟨?_, h0⟩))
  · exact congrArg BitVec.toNat h0
  · show (!flags.getLsbD 0) = true
    rw [hr]; rfl

variable {s} {tag : BitVec 3} (hs : Accepts tag s)
include hs

theorem receivePacket_readHrf :
    let p := plainPacket 0x05 tag [start, count, flags, z]
    let a := readHrf [start, count, flags, z] (heard p s)
    receivePacket p s = pushReply (finalReply p a.1 0 a.2.1) a.2.2 :=
  receivePacket_executes hs rfl (by decide) rfl (by decide : (4 : Nat) ≤ 512)

/-- The registers read are answered, and what the reads move is all that a READ_HRF changes beside its answer. -/
theorem readHrf_answers (h1 : 1 ≤ count.toNat) (h64 : count.toNat ≤ 64)
    (h : flags.getLsbD 0 = true ∨ start.toNat + count.toNat ≤ 256) :
    let p := plainPacket 0x05 tag [start, count, flags, z]
    let t := receivePacket p s
    let read := readState (flags.getLsbD 0) start.toNat (heard p s)
    Answered p stOk ((List.range count.toNat).flatMap (fun k =>
        bytes4 (hrf (readIndex (flags.getLsbD 0) start.toNat k) (read k)))) t
      ∧ t.tb = (read count.toNat).tb ∧ t.en = (read count.toNat).en ∧ HostFrame { s with tb := t.tb, en := t.en } t
      ∧ EventStore s t := by
  intro p t read
  have ht : t = _ := receivePacket_readHrf start count flags z hs
  rw [readHrf_ok start count flags z _ h1 h64 h] at ht
  change t = pushReply (finalReply p stOk 0 _) (read count.toNat) at ht
  have htb : t.tb = (read count.toNat).tb := by rw [ht, pushReply_tb]
  have hen : t.en = (read count.toNat).en := by rw [ht, pushReply_en]
  refine ⟨?_, htb, hen, ?_, ?_⟩
  · rw [ht]; exact pushReply_replies _ _
  · rw [htb, hen, ht]
    refine .trans ?_ (pushReply_hostFrame _ _)
    have hf := heard_hostFrame p s
    show HostFrame { s with tb := (afterReads _ (heard p s)).tb, en := (afterReads _ (heard p s)).en } (afterReads _ (heard p s))
    generalize heard p s = u at hf
    rw [hf]
    rfl
  · rw [ht]
    exact (heard_eventStore p s).trans (.of_nv (pushReply_nv _ _))

theorem readHrf_refused (h : count = 0 ∨ 64 < count.toNat ∨ (flags.getLsbD 0 = false ∧ 256 < start.toNat + count.toNat)) :
    let p := plainPacket 0x05 tag [start, count, flags, z]
    Answered p stBadParam [] (receivePacket p s) ∧ HostFrame s (receivePacket p s) ∧ EventStore s (receivePacket p s) := by
  intro p
  rw [receivePacket_readHrf start count flags z hs, readHrf_badParam start count flags z _ h]
  exact ⟨pushReply_replies _ _, (heard_hostFrame p s).trans (pushReply_hostFrame _ _),
    (heard_eventStore p s).trans (.of_nv (pushReply_nv _ _))⟩

end

theorem enReg_snapData {s t : State} (h : t.en = s.en) : enReg 9 t = enReg 9 s := by
  show pack _ = pack _
  unfold snapValue signalCount
  rw [h]

/-- Settles O17: READ_HRF reads by `readRegs`, whose k-th register is read in `readState`. -/
theorem registerReads : Obligations.RegisterReads := by
  intro s tag hs p
  refine ⟨?_, ?_, ?_, ?_⟩
  · intro start count flags z params q rep index h seen
    refine ⟨fun h1 h64 hx => ?_, fun hx => ⟨_, rfl, readHrf_refused start count flags z hs hx⟩⟩
    have hseen (k : Nat) : readState rep start.toNat h k = seen k := by
      unfold readState afterReads
      rw [List.any_map, List.countP_map]
      rfl
    obtain ⟨ans, htb, hen, hframe, hstore⟩ := readHrf_answers start count flags z hs h1 h64 hx
    simp only [← hseen]
    exact ⟨_, rfl, ans, htb, hen, hframe, hstore⟩
  · obtain ⟨ans, -, hen, hframe, -⟩ := readHrf_answers 0x12 2 0 0 hs (by decide) (by decide) (.inr (by decide))
    rw [hen.trans (readState_en rfl)] at hframe
    rw [← (heard_hostFrame (p 0x12 2) s).tb]
    exact ⟨_, rfl, ans, hframe⟩
  · obtain ⟨ans, htb, hen, hframe, -⟩ := readHrf_answers 0x12 1 0 0 hs (by decide) (by decide) (.inr (by decide))
    rw [hen.trans (readState_en rfl)] at hframe
    rw [← (heard_hostFrame (p 0x12 1) s).tb]
    exact ⟨_, rfl, ans, htb, hframe⟩
  · obtain ⟨ans, htb, hen, hframe, -⟩ := readHrf_answers 0x69 1 0 0 hs (by decide) (by decide) (.inr (by decide))
    rw [htb.trans (readState_tb rfl)] at hframe
    have hfirst : hrf 0x69 (readState false 0x69 (heard (p 0x69 1) s) 0) = enReg 9 s := by
      rw [readState_zero]; exact enReg_snapData (heard_hostFrame _ s).en
    rw [← hfirst, ← (heard_hostFrame (p 0x69 1) s).en]
    exact ⟨_, rfl, ans, hen, hframe⟩

end Sys2Proof.Machine
end

section
/-! PROOFS. TIME_SET, its forms for leap seconds, and TIME_SOURCE_SELECT (R39, R46, R313, R314): what each makes of the time base and
of the stored TB_UTC_OFFSET, and the commands' outcomes. -/

namespace Sys2Proof.Machine

/-! ## A sequenced command in order, by how its execution goes -/

theorem runChain_ends {c : Chain} {s u : State} {status : Byte} {data : List Byte}
    (hx : execCommand c.opcode c.csn c.params s = ends (status, data, u)) : runChain c s = commitOutcome c status data u := by
  unfold runChain
  rw [hx]
  exact ite_self _

/-- The state in which a command's execution ends: events and items may have been stored, and its chain still waits. -/
structure EndsIn (p : Packet) (u : State) : Prop where
  takes : StoreTakes u
  chains : u.nv.chains = [p.chain]

theorem EndsIn.of_eventStore {p : Packet} {s u : State} (h : EndsIn p s) (hu : EventStore s u) : EndsIn p u :=
  ⟨hu.takes h.takes, hu.chains.trans h.chains⟩

theorem seqStart_endsIn {csn : Word} {s : State} (hi : InOrder csn s) (p : Packet) : EndsIn p (seqStart p s) := by
  obtain ⟨hc, -, -, hn⟩ := hi
  exact ⟨seqStart_takes p hn, seqStart_chains p hn hc⟩

section
variable {op : Byte} {tag : BitVec 3} {csn : Word} {params : List Byte} {s u : State} (h : Accepts tag s) (hi : InOrder csn s)
  (ho : opSequenced op = some true) (hl : params.length ≤ 508)
include h hi ho hl

/-- An execution that ends at once and has stored something: its outcome is committed in the state in which it ends. -/
theorem receivePacket_commits {status : Byte} {data : List Byte} (hd : data.length ≤ 16) (hu : EndsIn (seqPacket op tag csn params) u)
    (hx : execCommand op csn params (seqStart (seqPacket op tag csn params) s) = ends (status, data, u)) :
    let p := seqPacket op tag csn params
    receivePacket p s = commitOutcome p.chain status data u ∧ Done p status data (receivePacket p s) := by
  intro p
  obtain ⟨hlast, hchains, hout⟩ := commitOutcome_alone p.chain status data hu.takes hu.chains
  have ht : receivePacket p s = commitOutcome p.chain status data u := by
    rw [receivePacket_seq h hi ho hl]
    exact (congrArg (drain 8) (runChain_ends hx)).trans (drain_none _ _ hlast)
  have hreply := commitOutcome_reply p.chain status data hu.takes
  rw [List.take_of_length_le hd] at hout hreply
  rw [ht]
  exact ⟨rfl, ⟨hchains, hlast, commitOutcome_running _ _ _ hu.takes, hout⟩, hreply⟩

/-- An execution that refuses changes nothing. -/
theorem receivePacket_refuses {status : Byte}
    (hx : execCommand op csn params (seqStart (seqPacket op tag csn params) s) = refuses status (seqStart (seqPacket op tag csn params) s)) :
    let p := seqPacket op tag csn params
    Done p status [] (receivePacket p s) ∧ HostFrame s (receivePacket p s) := by
  intro p
  obtain ⟨ht, hdone⟩ := receivePacket_commits h hi ho hl (Nat.zero_le _) (seqStart_endsIn hi p) hx
  refine ⟨hdone, ?_⟩
  rw [ht]
  exact (seqStart_hostFrame p hi.2.2.2).trans (commitOutcome_hostFrame ..)

end

theorem seqStart_lastE {csn : Word} {s : State} (hi : InOrder csn s) (p : Packet) : (seqStart p s).nv.lastE = s.nv.lastE := by
  obtain ⟨ring, pos, e⟩ := accept_nv p (heard_takes p hi.2.2.2)
  unfold seqStart
  rw [e]
  exact heard_lastE p s

theorem seqStart_reply {csn : Word} {s : State} (hi : InOrder csn s) (p : Packet) :
    (seqStart p s).cm.replies.getLast? = some (acceptedReply p) := by
  obtain ⟨ring, pos, e⟩ := accept_sound p (heard_takes p hi.2.2.2)
  unfold seqStart
  rw [e]
  exact pushReply_replies _ _

theorem coreFree_running {s : State} {r : Running} (h : s.cm.running = some r) : coreFree s = false := by
  unfold coreFree; rw [h]; simp

theorem drain_busy (n : Nat) {s : State} {r : Running} (h : s.cm.running = some r) : drain n s = s := by
  cases n with
  | zero => rfl
  | succ n => unfold drain; rw [coreFree_running h]; rfl

/-- A TIME_SET that waits for the edge runs on, and nothing but the command layer has changed (R39). -/
theorem receivePacket_waits {op : Byte} {tag : BitVec 3} {csn : Word} {params : List Byte} {s : State} (h : Accepts tag s)
    (hi : InOrder csn s) (ho : opSequenced op = some true) (hl : params.length ≤ 508) {tai : DWord} {off : Half} {flags : Byte}
    (hx : execCommand op csn params (seqStart (seqPacket op tag csn params) s)
      = goesOn (.timeAtPps tai off flags) (seqStart (seqPacket op tag csn params) s)) :
    let p := seqPacket op tag csn params
    Started p (.timeAtPps tai off flags) (receivePacket p s) ∧ HostFrame s (receivePacket p s) := by
  intro p
  have ht : receivePacket p s = (goesOn (.timeAtPps tai off flags) (seqStart p s)).st := by
    have hrun : runChain p.chain (seqStart p s) = (goesOn (.timeAtPps tai off flags) (seqStart p s)).st := by
      unfold runChain
      rw [show execCommand p.chain.opcode p.chain.csn p.chain.params (seqStart p s) = _ from hx]
      rfl
    rw [receivePacket_seq h hi ho hl]
    exact (congrArg (drain 8) hrun).trans (drain_busy 8 (r := .timeAtPps tai off flags) rfl)
  have hhead : headChain (seqStart p s) = some p.chain := by
    unfold headChain
    rw [(seqStart_endsIn hi p).chains, seqStart_lastE hi p, ← hi.2.2.1]
    exact List.find?_cons_of_pos (beq_self_eq_true csn)
  rw [ht]
  exact ⟨⟨rfl, seqStart_reply hi p, hhead⟩, (seqStart_hostFrame p hi.2.2.2).trans rfl⟩

/-! ## The parameters of TIME_SET (Table 15-5) -/

theorem leBytes_succ (n x : Nat) : leBytes (n + 1) x = BitVec.ofNat 8 x :: leBytes n (x / 256) := by
  unfold leBytes
  rw [List.range_succ_eq_map, List.map_cons, List.map_map, pow_zero, Nat.div_one]
  congr 1
  refine List.map_congr_left fun i _ => ?_
  rw [Function.comp_apply, Nat.succ_eq_add_one, pow_succ', Nat.div_div_eq_div_mul]

theorem ofLe_leBytes (n x : Nat) : ofLe (leBytes n x) = x % 256 ^ n := by
  induction n generalizing x with
  | zero => rw [pow_zero, Nat.mod_one]; rfl
  | succ n ih =>
    rw [leBytes_succ, pow_succ', Nat.mod_mul, ← ih (x / 256)]
    rfl

/-- A field of n bytes behind leading ones. -/
theorem leAt_mid (l r : List Byte) (n x : Nat) : leAt (l ++ leBytes n x ++ r) l.length n = x % 256 ^ n := by
  unfold leAt
  rw [List.append_assoc, List.drop_left, List.take_left' (length_leBytes n x), ofLe_leBytes]

section
variable (tai : DWord) (off : Half) (flags : Byte)

theorem length_timeSetParams : (timeSetParams tai off flags).length = 12 := by
  simp [timeSetParams, bytes8, bytes2, length_leBytes]

theorem dwordAt_timeSetParams : dwordAt (timeSetParams tai off flags) 0 = tai := by
  have h := leAt_mid [] (bytes2 off ++ [flags, 0]) 8 tai.toNat
  rw [Nat.mod_eq_of_lt (show tai.toNat < 256 ^ 8 from tai.isLt), List.nil_append, ← List.append_assoc] at h
  unfold dwordAt
  rw [show leAt (timeSetParams tai off flags) 0 8 = tai.toNat from h, BitVec.ofNat_toNat, BitVec.setWidth_eq]

theorem halfAt_timeSetParams : halfAt (timeSetParams tai off flags) 8 = off := by
  have h := leAt_mid (bytes8 tai) [flags, 0] 2 off.toNat
  rw [Nat.mod_eq_of_lt (show off.toNat < 256 ^ 2 from off.isLt), show (bytes8 tai).length = 8 from length_leBytes 8 _] at h
  unfold halfAt
  rw [show leAt (timeSetParams tai off flags) 8 2 = off.toNat from h, BitVec.ofNat_toNat, BitVec.setWidth_eq]

theorem byteAt_timeSetParams : byteAt (timeSetParams tai off flags) 10 = flags := by
  have h := byteAt_append (bytes8 tai ++ bytes2 off) [flags, 0] 0
  rw [show (bytes8 tai ++ bytes2 off).length + 0 = 10 by simp [bytes8, bytes2, length_leBytes]] at h
  exact h

/-- Fields that no TIME_SET may carry (R313, log entry 41). -/
def timeSetBad : Bool :=
  (flags.getLsbD 1 && flags.getLsbD 3) || decide (255 < off.toNat) || (flags.getLsbD 0 && tai.toNat % 1000000 != 0)

theorem execCommand_timeSet (csn : Word) (s : State) :
    execCommand 0x40 csn (timeSetParams tai off flags) s =
      if timeSetBad tai off flags then refuses stBadParam s
      else if s.tb.quality = .lockedIrig ∨ (s.tb.quality = .lockedPps ∧ ¬ flags.getLsbD 0) then refuses stWrongState s
      else if flags.getLsbD 0 then
        if s.tb.ppsValid then goesOn (.timeAtPps tai off flags) s else refuses stBadParam s
      else succeeds (bytes8 (tai - s.tb.counter)) (writeParams (applyTimeSet tai off flags s)) := by
  unfold execCommand
  rw [length_timeSetParams, if_pos (show lengthOk 0x40 12 = true from rfl)]
  show execTimeSetSeq (timeSetParams tai off flags) s = _
  unfold execTimeSetSeq
  rw [dwordAt_timeSetParams, halfAt_timeSetParams, byteAt_timeSetParams]
  rfl

end

/-! ## A TIME_SET applied (R33, R39, R46) -/

/-- The counter stepped to a time, with the quality and the acquisition that a step ends (R33, R39). -/
def stepTo (tai : DWord) (s : State) : State :=
  let d := (tai - s.tb.counter).toInt
  let u := stepCounter d s
  if d = 0 then u else { setQuality .unsync u with tb := (setQuality .unsync u).tb.reacquire }

/-- The leap announcement after a TIME_SET: announced, cancelled, or as it stood (R46, R313). -/
def TimeBase.announce (flags : Byte) (t : TimeBase) : TimeBase :=
  if flags.getLsbD 1 then { t with leapPending := true, leapDelete := flags.getLsbD 2, leapDue := false }
  else if flags.getLsbD 3 || t.leapDue then { t with leapPending := false, leapDelete := false, leapDue := false }
  else t

theorem applyTimeSet_eq (tai : DWord) (off : Half) (flags : Byte) (s : State) : applyTimeSet tai off flags s =
    { setItem (fun p => { p with utcOffset := off.setWidth 32 }) (stepTo tai s) with
      tb := TimeBase.announce flags { (stepTo tai s).tb with timeSetValid := true } } := by
  unfold applyTimeSet TimeBase.announce setItem
  dsimp only
  rw [← stepTo]
  split
  · rfl
  · split <;> rfl

theorem announce_eq (flags : Byte) (t : TimeBase) : t.announce flags =
    { t with leapPending := (t.announce flags).leapPending, leapDelete := (t.announce flags).leapDelete,
             leapDue := (t.announce flags).leapDue } := by
  unfold TimeBase.announce
  split
  · rfl
  · split <;> rfl

theorem announce_pending {flags : Byte} (h : flags.getLsbD 1 = true) (t : TimeBase) :
    (t.announce flags).leapPending = true ∧ (t.announce flags).leapDelete = flags.getLsbD 2 := by
  unfold TimeBase.announce; rw [if_pos h]; exact ⟨rfl, rfl⟩

theorem announce_cancelled {flags : Byte} (h1 : flags.getLsbD 1 = false) (h3 : flags.getLsbD 3 = true) (t : TimeBase) :
    (t.announce flags).leapPending = false := by
  unfold TimeBase.announce; rw [h1, h3]; rfl

theorem setQuality_unsync_counter (s : State) : (setQuality .unsync s).tb.counter = s.tb.counter := by
  by_cases h : s.tb.quality = .unsync
  · unfold setQuality; rw [if_pos h]
  · rw [setQuality_tb_unlocked h rfl, toQuality_eq]

theorem setQuality_unsync_quality (s : State) : (setQuality .unsync s).tb.quality = .unsync := by
  by_cases h : s.tb.quality = .unsync
  · unfold setQuality; rw [if_pos h]; exact h
  · rw [setQuality_tb_unlocked h rfl, toQuality_eq]

theorem setQuality_unlocked_store {q : Quality} (hq : q.locked = false) (s : State) : EventStore s (setQuality q s) := by
  unfold setQuality
  split
  · exact .refl s
  · simp only [hq, Bool.and_false, Bool.false_eq_true, if_false]
    have hraise := raise_store 225 0x0001 .notice (argOf [(0, s.tb.quality.code), (1, q.code)]) { s with tb := s.tb.toQuality q }
    exact .trans hraise (.of_nv (raiseCause_nv _ _))

theorem stepCounter_store (d : Int) (s : State) : EventStore s (stepCounter d s) := by
  unfold stepCounter
  split
  · exact .refl s
  · exact raise_store _ _ _ _ { s with tb := { s.tb with counter := s.tb.counter + BitVec.ofInt 64 d } }

theorem stepCounter_counter (tai : DWord) (s : State) :
    (stepCounter (tai - s.tb.counter).toInt s).tb.counter = tai := by
  unfold stepCounter
  split
  next h =>
    have hz : tai - s.tb.counter = 0 := BitVec.eq_of_toInt_eq h
    exact (BitVec.sub_eq_iff_eq_add.1 hz |>.trans (BitVec.zero_add _)).symm
  next =>
    rw [raise_tb, BitVec.ofInt_toInt]
    exact add_sub_cancel _ _

theorem stepTo_counter (tai : DWord) (s : State) : (stepTo tai s).tb.counter = tai := by
  have hstep := stepCounter_counter tai s
  unfold stepTo
  dsimp only
  split
  · exact hstep
  · exact (setQuality_unsync_counter _).trans hstep

theorem stepTo_store (tai : DWord) (s : State) : EventStore s (stepTo tai s) := by
  have hstep := stepCounter_store (tai - s.tb.counter).toInt s
  unfold stepTo
  dsimp only
  split
  · exact hstep
  · exact hstep.trans ((setQuality_unlocked_store rfl _).trans (.of_nv rfl))

/-! ## The stored TB_UTC_OFFSET (R45, R247) -/

/-- The live TB_UTC_OFFSET and the stored one are this word, in a store that takes what is written. -/
structure OffsetHeld (w : Word) (s : State) : Prop where
  takes : StoreTakes s
  live : s.nv.live.utcOffset = w
  stored : s.nv.stored.utcOffset = w

theorem EventStore.utcOffset {s t : State} (h : EventStore s t) : t.nv.live.utcOffset = s.nv.live.utcOffset := by rw [h.1]

/-- Events leave the live item, and the record either stands or is written again from the live items. -/
theorem OffsetHeld.of_eventStore {w : Word} {s t : State} (h : OffsetHeld w s) (ht : EventStore s t)
    (hs : t.nv.stored = s.nv.stored ∨ t.nv.stored.utcOffset = t.nv.live.utcOffset) : OffsetHeld w t := by
  have hlive := ht.utcOffset.trans h.live
  refine ⟨ht.takes h.takes, hlive, ?_⟩
  rcases hs with hs | hs
  · rw [hs]; exact h.stored
  · exact hs.trans hlive

theorem OffsetHeld.writeParams {w : Word} {s : State} (h : OffsetHeld w s) : OffsetHeld w (writeParams s) := by
  refine h.of_eventStore (writeParams_store s) (.inr ?_)
  rw [writeParams_sound h.takes]

theorem queueEvent_stored (time : DWord) (src : Nat) (code : Half) (c : Cls) (arg : DWord) (s : State) :
    (queueEvent time src code c arg s).nv.stored = s.nv.stored := by
  unfold queueEvent
  split
  · rfl
  · split
    · dsimp only
      split
      · rw [raiseCause_nv]; rfl
      · rfl
    · rfl

theorem OffsetHeld.enqueue {w : Word} {s : State} (h : OffsetHeld w s) (time : DWord) (src : Nat) (code : Half) (c : Cls)
    (arg : DWord) : OffsetHeld w (enqueue time src code c arg s) := by
  have hq := h.of_eventStore (queueEvent_store time src code c arg s) (.inl (queueEvent_stored ..))
  unfold Machine.enqueue
  dsimp only
  split
  · exact hq.writeParams
  · exact hq

theorem OffsetHeld.check75 {w : Word} {s : State} (h : OffsetHeld w s) : OffsetHeld w (check75 s) := by
  unfold Machine.check75
  dsimp only
  split
  · have hfull : OffsetHeld w { s with jr := { s.jr with full75 := true } } := ⟨h.takes, h.live, h.stored⟩
    exact (hfull.enqueue _ _ _ _ _).of_eventStore (raiseCause_store _ _) (.inl (by rw [raiseCause_nv]))
  · exact h

theorem commitRecord_stored (r : Record) (s : State) : (commitRecord r s).nv.stored = s.nv.stored := by
  have hnote : (noteUnreached (recordInSlot (slotOf r.seq) s.nv.records) s).nv.stored = s.nv.stored := by
    unfold noteUnreached
    split
    · split <;> rfl
    · rfl
  unfold commitRecord
  dsimp only
  split <;> exact hnote

theorem OffsetHeld.commitGap {w : Word} {s : State} (h : OffsetHeld w s) : OffsetHeld w (commitGap s) := by
  unfold Machine.commitGap
  split
  · rw [mirror_sound h.takes.1]
    dsimp only
    split
    · exact h
    · have hrecord := h.of_eventStore (commitRecord_store (gapRecord s) s) (.inl (commitRecord_stored _ s))
      have hitem : OffsetHeld w (storeItem (fun p => { p with gap := Gap.none }) (commitRecord (gapRecord s) s)) :=
        (hrecord.of_eventStore (setGap_store (fun _ => Gap.none) _) (.inl rfl)).writeParams
      refine OffsetHeld.check75 ?_
      split
      · exact hitem.of_eventStore (setPending_store _ _) (.inl (by rw [setPending_nv]))
      · exact hitem
  · exact h

theorem OffsetHeld.raise {w : Word} {s : State} (h : OffsetHeld w s) (src : Nat) (code : Half) (c : Cls) (arg : DWord) :
    OffsetHeld w (raise src code c arg s) := h.commitGap.enqueue _ _ _ _ _

theorem OffsetHeld.of_nv {w : Word} {s t : State} (h : OffsetHeld w s) (ht : t.nv = s.nv) : OffsetHeld w t :=
  h.of_eventStore (.of_nv ht) (.inl (by rw [ht]))

theorem OffsetHeld.commitOutcome {w : Word} {s : State} (h : OffsetHeld w s) (c : Chain) (status : Byte) (data : List Byte) :
    OffsetHeld w (commitOutcome c status data s) := by
  have hput : OffsetHeld w (putOutcome (outcomeFor c status (data.take 16)) s) := by
    rw [putOutcome_sound _ h.takes]; exact ⟨h.takes, h.live, h.stored⟩
  rw [commitOutcome_sound c status data h.takes]
  refine OffsetHeld.of_nv ?_ (pushReply_nv _ _)
  split
  · refine OffsetHeld.raise ?_ _ _ _ _
    exact hput.of_nv rfl
  · exact hput.of_nv rfl

/-! ## TIME_SET executed (R39, R313) -/

section
variable (tai : DWord) (off : Half) (flags : Byte)

theorem applyTimeSet_endsIn {p : Packet} {s : State} (h : EndsIn p s) : EndsIn p (applyTimeSet tai off flags s) := by
  obtain ⟨htakes, hchains⟩ := h.of_eventStore (stepTo_store tai s)
  rw [applyTimeSet_eq]
  exact ⟨htakes, hchains⟩

theorem writeParams_offsetHeld {w : Word} {s : State} (h : StoreTakes s) (hw : s.nv.live.utcOffset = w) :
    OffsetHeld w (writeParams s) := by
  rw [writeParams_sound h]
  exact ⟨h, hw, hw⟩

theorem applyTimeSet_tb (s : State) : (applyTimeSet tai off flags s).tb =
    TimeBase.announce flags { (stepTo tai s).tb with timeSetValid := true } := by
  rw [applyTimeSet_eq]

theorem applyTimeSet_utcOffset (s : State) : (applyTimeSet tai off flags s).nv.live.utcOffset = off.setWidth 32 := by
  rw [applyTimeSet_eq]; rfl

variable {tai off flags}
variable {tag : BitVec 3} {csn : Word} {s : State} (hs : Accepts tag s) (hi : InOrder csn s)

/-- What every refusal and every wait of a TIME_SET leaves of the time base. -/
theorem seqStart_tb {csn : Word} {s : State} (hi : InOrder csn s) (p : Packet) : (seqStart p s).tb = s.tb :=
  (seqStart_hostFrame p hi.2.2.2).tb

include hs hi

theorem receivePacket_timeSet_refused {status : Byte}
    (hx : ∀ u : State, u.tb = s.tb → execCommand 0x40 csn (timeSetParams tai off flags) u = refuses status u) :
    let p := seqPacket 0x40 tag csn (timeSetParams tai off flags)
    Done p status [] (receivePacket p s) ∧ (receivePacket p s).tb = s.tb := by
  intro p
  obtain ⟨hdone, hframe⟩ := receivePacket_refuses hs hi rfl (by rw [length_timeSetParams]; decide) (hx _ (seqStart_tb hi p))
  exact ⟨hdone, hframe.tb⟩

theorem receivePacket_timeSet_bad (hb : timeSetBad tai off flags = true ∨
      (flags.getLsbD 0 = true ∧ s.tb.quality ≠ .lockedIrig ∧ s.tb.ppsValid = false)) :
    let p := seqPacket 0x40 tag csn (timeSetParams tai off flags)
    Done p stBadParam [] (receivePacket p s) ∧ (receivePacket p s).tb = s.tb := by
  refine receivePacket_timeSet_refused hs hi fun u hu => ?_
  rw [execCommand_timeSet, hu]
  by_cases hbad : timeSetBad tai off flags = true
  · rw [if_pos hbad]
  · obtain ⟨hpps, hirig, hvalid⟩ := hb.resolve_left hbad
    have hfree : ¬ (s.tb.quality = .lockedIrig ∨ (s.tb.quality = .lockedPps ∧ ¬ flags.getLsbD 0)) := by
      rintro (h | ⟨-, h⟩)
      · exact hirig h
      · exact h hpps
    rw [if_neg hbad, if_neg hfree, if_pos hpps, hvalid, if_neg Bool.false_ne_true]

theorem receivePacket_timeSet_locked (hb : timeSetBad tai off flags = false)
    (hq : s.tb.quality = .lockedIrig ∨ (s.tb.quality = .lockedPps ∧ flags.getLsbD 0 = false)) :
    let p := seqPacket 0x40 tag csn (timeSetParams tai off flags)
    Done p stWrongState [] (receivePacket p s) ∧ (receivePacket p s).tb = s.tb := by
  refine receivePacket_timeSet_refused hs hi fun u hu => ?_
  rw [execCommand_timeSet, hu, hb, if_neg Bool.false_ne_true, if_pos]
  exact hq.imp_right fun ⟨hp, h0⟩ => ⟨hp, Bool.eq_false_iff.1 h0⟩

theorem receivePacket_timeSet_waits (hb : timeSetBad tai off flags = false) (hq : s.tb.quality ≠ .lockedIrig)
    (hpps : flags.getLsbD 0 = true) (hvalid : s.tb.ppsValid = true) :
    let p := seqPacket 0x40 tag csn (timeSetParams tai off flags)
    Started p (.timeAtPps tai off flags) (receivePacket p s) ∧ (receivePacket p s).tb = s.tb := by
  intro p
  have hfree : ¬ (s.tb.quality = .lockedIrig ∨ (s.tb.quality = .lockedPps ∧ ¬ flags.getLsbD 0)) := by
    rintro (h | ⟨-, h⟩)
    · exact hq h
    · exact h hpps
  have hx : execCommand 0x40 csn (timeSetParams tai off flags) (seqStart p s) = goesOn (.timeAtPps tai off flags) (seqStart p s) := by
    rw [execCommand_timeSet, hb, if_neg Bool.false_ne_true, seqStart_tb hi, if_neg hfree, if_pos hpps, if_pos hvalid]
  obtain ⟨hstarted, hframe⟩ := receivePacket_waits hs hi rfl (by rw [length_timeSetParams]; decide) hx
  exact ⟨hstarted, hframe.tb⟩

/-- Outside a lock a TIME_SET without AT_PPS is applied at once and answers the step. -/
theorem receivePacket_timeSet (hb : timeSetBad tai off flags = false) (hq : s.tb.quality.locked = false)
    (hpps : flags.getLsbD 0 = false) :
    let p := seqPacket 0x40 tag csn (timeSetParams tai off flags)
    let t := receivePacket p s
    Done p stOk (bytes8 (tai - s.tb.counter)) t ∧ OffsetHeld (off.setWidth 32) t
      ∧ t.tb = TimeBase.announce flags { (stepTo tai (seqStart p s)).tb with timeSetValid := true } := by
  intro p t
  have hfree : ¬ (s.tb.quality = .lockedIrig ∨ (s.tb.quality = .lockedPps ∧ ¬ flags.getLsbD 0)) := by
    rintro (h | ⟨h, -⟩) <;> rw [h] at hq <;> exact Bool.false_ne_true hq.symm
  have hends := applyTimeSet_endsIn tai off flags (seqStart_endsIn hi p)
  have hx : execCommand 0x40 csn (timeSetParams tai off flags) (seqStart p s)
      = ends (stOk, bytes8 (tai - s.tb.counter), writeParams (applyTimeSet tai off flags (seqStart p s))) := by
    rw [execCommand_timeSet, hb, if_neg Bool.false_ne_true, seqStart_tb hi, if_neg hfree, hpps, if_neg Bool.false_ne_true]
    rfl
  obtain ⟨ht, hdone⟩ := receivePacket_commits hs hi rfl (by rw [length_timeSetParams]; decide)
    (by simp [bytes8, length_leBytes]) (hends.of_eventStore (writeParams_store _)) hx
  have hheld := (writeParams_offsetHeld hends.takes (applyTimeSet_utcOffset tai off flags _)).commitOutcome p.chain stOk
    (bytes8 (tai - s.tb.counter))
  change t = _ at ht
  refine ⟨hdone, by rw [ht]; exact hheld, ?_⟩
  rw [ht, (commitOutcome_hostFrame ..).tb, writeParams_tb, applyTimeSet_tb]

/-- The counter and the offset that it sets. -/
theorem receivePacket_timeSet_sets (hb : timeSetBad tai off flags = false) (hq : s.tb.quality.locked = false)
    (hpps : flags.getLsbD 0 = false) :
    let p := seqPacket 0x40 tag csn (timeSetParams tai off flags)
    let t := receivePacket p s
    Done p stOk (bytes8 (tai - s.tb.counter)) t ∧ t.tb.counter = tai ∧ t.tb.timeSetValid = true
      ∧ t.nv.live.utcOffset = off.setWidth 32 ∧ t.nv.stored.utcOffset = off.setWidth 32 := by
  obtain ⟨hdone, hheld, htb⟩ := receivePacket_timeSet hs hi hb hq hpps
  refine ⟨hdone, ?_, ?_, hheld.live, hheld.stored⟩
  · rw [htb, announce_eq]; exact stepTo_counter tai _
  · rw [htb, announce_eq]

end

/-! ## TIME_SOURCE_SELECT (R314) -/

theorem selectSource_kept (src : BitVec 2) (s : State) : EventStore s (selectSource src s)
    ∧ (selectSource src s).set = { s.set with src := src }
    ∧ (selectSource src s).tb.quality = (if s.set.src = src then s.tb.quality else .unsync)
    ∧ (selectSource src s).tb.counter = s.tb.counter := by
  unfold selectSource
  split
  next h => exact ⟨.refl s, by rw [← h], rfl, rfl⟩
  next h =>
    have hstore := setQuality_unlocked_store (q := .unsync) rfl { s with set := { s.set with src := src } }
    have hset : (setQuality .unsync { s with set := { s.set with src := src } }).set = { s.set with src := src } := by
      rw [setQuality_eq]
    have hcount := setQuality_unsync_counter { s with set := { s.set with src := src } }
    have hqual := setQuality_unsync_quality { s with set := { s.set with src := src } }
    generalize setQuality .unsync { s with set := { s.set with src := src } } = u at hstore hset hcount hqual
    unfold noteCheck
    refine ⟨.trans hstore (.of_nv rfl), hset, ?_, ?_⟩
    · dsimp only
      split <;> exact hqual
    · dsimp only
      split <;> exact hcount

section
variable {tag : BitVec 3} {csn : Word} {s : State} (hs : Accepts tag s) (hi : InOrder csn s)
include hs hi

theorem receivePacket_select (n : Byte) (hn : n.toNat ≤ 3) :
    let p := seqPacket 0x42 tag csn [n, 0, 0, 0]
    let t := receivePacket p s
    Done p stOk [n] t ∧ t.set = { s.set with src := n.setWidth 2 }
      ∧ t.tb.quality = (if s.set.src = n.setWidth 2 then s.tb.quality else .unsync) ∧ t.tb.counter = s.tb.counter := by
  intro p t
  have hframe := seqStart_hostFrame p hi.2.2.2
  have hx : execCommand 0x42 csn [n, 0, 0, 0] (seqStart p s)
      = ends (stOk, [n], noteSettings (selectSource (n.setWidth 2) (seqStart p s))) := by
    show execSourceSeq [n, 0, 0, 0] (seqStart p s) = _
    unfold execSourceSeq
    rw [show byteAt [n, 0, 0, 0] 0 = n from rfl]
    dsimp only
    rw [BitVec.ofNat_toNat, BitVec.ofNat_toNat, BitVec.setWidth_eq]
    exact if_neg (not_lt.2 hn)
  obtain ⟨hstore, hset, hqual, hcount⟩ := selectSource_kept (n.setWidth 2) (seqStart p s)
  have hends := ((seqStart_endsIn hi p).of_eventStore hstore).of_eventStore (.of_nv (noteSettings_nv _))
  obtain ⟨ht, hdone⟩ := receivePacket_commits hs hi rfl (by simp) (by simp) hends hx
  change t = _ at ht
  have hend := commitOutcome_hostFrame p.chain stOk [n] (noteSettings (selectSource (n.setWidth 2) (seqStart p s)))
  refine ⟨hdone, ?_, ?_, ?_⟩
  · rw [ht, hend.set, noteSettings_set, hset, hframe.set]
  · rw [ht, hend.tb, noteSettings_tb, hqual, hframe.set, hframe.tb]
  · rw [ht, hend.tb, noteSettings_tb, hcount, hframe.tb]

end

theorem timeSetBad_eq_false (tai : DWord) (off : Half) (flags : Byte) : timeSetBad tai off flags = false ↔
    off.toNat ≤ 255 ∧ (flags.getLsbD 1 && flags.getLsbD 3) = false ∧ (flags.getLsbD 0 = false ∨ tai.toNat % 1000000 = 0) := by
  unfold timeSetBad
  rw [Bool.or_eq_false_iff, Bool.or_eq_false_iff, decide_eq_false_iff_not, not_lt, and_assoc, and_left_comm,
    Bool.and_eq_false_iff (x := flags.getLsbD 0), bne_eq_false_iff_eq]

/-- The flags of a LEAP_ANNOUNCE (Table 15-5). -/
theorem leapFlags_bits (delete : Bool) :
    let flags : Byte := if delete then 6 else 2
    flags.getLsbD 0 = false ∧ (flags.getLsbD 1 && flags.getLsbD 3) = false ∧ flags.getLsbD 1 = true
      ∧ flags.getLsbD 2 = delete := by
  cases delete <;> decide

/-- Settles O25: BAD_PARAM, WRONG_STATE, the wait for an edge, and the TIME_SET applied at once are the four ways of
`execCommand_timeSet`. -/
theorem timeCommands : Obligations.TimeCommands := by
  intro s tag csn tai off hs hi p set
  have ok {flags : Byte} (hoff : off.toNat ≤ 255) (hleap : (flags.getLsbD 1 && flags.getLsbD 3) = false)
      (h0 : flags.getLsbD 0 = false ∨ tai.toNat % 1000000 = 0) : timeSetBad tai off flags = false :=
    (timeSetBad_eq_false tai off flags).2 ⟨hoff, hleap, h0⟩
  refine ⟨fun hoff hq => ?_, fun hoff htai hq hv => ?_, fun flags hoff hleap h0 hq => ?_, fun hoff hq => ?_,
    fun flags hbad => ?_, fun n hn => ⟨_, rfl, receivePacket_select hs hi n hn⟩⟩
  · have leap {flags : Byte} (hleap : (flags.getLsbD 1 && flags.getLsbD 3) = false) (h0 : flags.getLsbD 0 = false) :=
      receivePacket_timeSet hs hi (ok hoff hleap (.inl h0)) hq h0
    have sets {flags : Byte} (hleap : (flags.getLsbD 1 && flags.getLsbD 3) = false) (h0 : flags.getLsbD 0 = false) :
        set flags (receivePacket (p flags) s) := receivePacket_timeSet_sets hs hi (ok hoff hleap (.inl h0)) hq h0
    refine ⟨⟨_, rfl, sets rfl rfl⟩, fun delete => ⟨_, rfl, ?_⟩, ⟨_, rfl, sets rfl rfl, ?_⟩⟩
    · obtain ⟨h0, h13, h1, h2⟩ := leapFlags_bits delete
      obtain ⟨-, -, htb⟩ := leap h13 h0
      refine ⟨sets h13 h0, ?_⟩
      rw [htb, (announce_pending h1 _).1, (announce_pending h1 _).2]
      exact ⟨rfl, h2⟩
    · obtain ⟨-, -, htb⟩ := leap (flags := 8) rfl rfl
      rw [htb]
      exact announce_cancelled rfl rfl _
  · exact ⟨_, rfl, receivePacket_timeSet_waits hs hi (ok hoff rfl (.inr htai)) hq rfl hv⟩
  · exact ⟨_, rfl, receivePacket_timeSet_locked hs hi (ok hoff hleap h0) hq⟩
  · have hlock {flags : Byte} (h0 : flags.getLsbD 0 = false) :
        s.tb.quality = .lockedIrig ∨ (s.tb.quality = .lockedPps ∧ flags.getLsbD 0 = false) := by
      cases hc : s.tb.quality <;> simp_all [Quality.locked]
    refine ⟨fun delete => ⟨_, rfl, ?_⟩, ⟨_, rfl, receivePacket_timeSet_locked hs hi (ok hoff rfl (.inl rfl)) (hlock rfl)⟩⟩
    obtain ⟨h0, h13, -, -⟩ := leapFlags_bits delete
    exact receivePacket_timeSet_locked hs hi (ok hoff h13 (.inl h0)) (hlock h0)
  · refine ⟨_, rfl, receivePacket_timeSet_bad hs hi ?_⟩
    rw [← Bool.not_eq_false, timeSetBad_eq_false]
    rcases hbad with h | h | ⟨h0, h | h⟩
    · exact .inl fun ok => absurd h (not_lt.2 ok.1)
    · exact .inl fun ok => Bool.false_ne_true (ok.2.1.symm.trans h)
    · exact .inl fun ok => ok.2.2.elim (fun h1 => Bool.false_ne_true (h1.symm.trans h0)) h
    · exact .inr ⟨h0, h⟩

end Sys2Proof.Machine
end

section
/-! PROOFS. IRIG-B frames, leap seconds and TSYNC_OUT (R36, R37, R46, R51). -/

namespace Sys2Proof.Machine

/-! ## What the time base shows of IRIG-B -/

/-- What frames alone change: whether IRIG-B is valid, its format, whether a year is known, and the count of frames. -/
def TimeBase.irigShown (t : TimeBase) : Bool × BitVec 3 × Bool × Word := (t.irigValid, t.irigFmt, t.irigNoYear, t.irigStat)

theorem setQuality_irigShown (q : Quality) (s : State) : (setQuality q s).tb.irigShown = s.tb.irigShown := by
  by_cases h : s.tb.quality = q
  · unfold setQuality; rw [if_pos h]
  · rw [setQuality_tb h, toQuality_eq]
    split <;> rfl

theorem irigShown_ite {p : Prop} [Decidable p] {t u : State} {x : Bool × BitVec 3 × Bool × Word} (ht : t.tb.irigShown = x)
    (hu : u.tb.irigShown = x) : (if p then t else u).tb.irigShown = x := by
  split
  · exact ht
  · exact hu

theorem judgeLock_irigShown (s : State) : (judgeLock s).tb.irigShown = s.tb.irigShown := by
  exact irigShown_ite rfl (irigShown_ite (setQuality_irigShown _ s) (irigShown_ite (setQuality_irigShown _ s) rfl))

theorem stepCounter_irigShown (d : Int) (s : State) : (stepCounter d s).tb.irigShown = s.tb.irigShown := by
  unfold stepCounter
  split
  · rfl
  · rw [raise_tb]; rfl

theorem dropLock_irigShown (s : State) : (dropLock s).tb.irigShown = s.tb.irigShown := setQuality_irigShown .unsync s

theorem setFar_irigShown (irig : Bool) (n : Nat) (t : TimeBase) : (t.setFar irig n).irigShown = t.irigShown := by
  cases irig <;> rfl

theorem discipline_irigShown (irig acquired : Bool) (err : Int) (s : State) :
    (discipline irig acquired err s).tb.irigShown = s.tb.irigShown := by
  have hfar (e : Word) (n : Nat) : (({ s.tb with phaseErr := e } : TimeBase).setFar irig n).irigShown = s.tb.irigShown :=
    setFar_irigShown ..
  unfold discipline
  refine irigShown_ite (irigShown_ite ?_ (hfar _ _)) (irigShown_ite ?_ (hfar _ _))
  · rw [dropLock_irigShown]; exact hfar _ _
  · rw [stepCounter_irigShown]; exact hfar _ _

theorem irigPoint_irigShown (utc : Int) (frac : Nat) (s : State) : (irigPoint utc frac s).tb.irigShown = s.tb.irigShown := by
  unfold irigPoint
  dsimp only
  split
  · rfl
  · exact (judgeLock_irigShown _).trans (discipline_irigShown ..)

theorem irigPoint_chains (utc : Int) (frac : Nat) (s : State) : (irigPoint utc frac s).nv.chains = s.nv.chains := by
  unfold irigPoint
  dsimp only
  split
  · rfl
  · exact (judgeLock_kept _).chains.trans (discipline_kept _ _ _ _).chains

/-! ## IRIG-B frames (R36, R37) -/

/-- The time base under a frame that is not valid: every run of IRIG-B is broken. -/
def TimeBase.rejectIrig (mark : Option IrigMark) (t : TimeBase) : TimeBase :=
  { t with irigStat := countIrig false t.irigStat, leapSkip := false, irigLast := mark, irigRun := 0, irigLockRun := 0,
           irigFar := 0 }

/-- A frame whose fields agree, with no frame before it to follow, is valid (log entry 79). -/
theorem irigFrame_first {f : IrigFrame} {s : State} (hf : irigFieldsOk f = true) (h60 : f.second < 60)
    (hl : s.tb.irigLast = none) (frac : Nat) :
    (irigFrame f frac s).tb.irigShown =
        (true, BitVec.ofNat 3 f.fmt.val, (irigYear f s).isNone, countIrig true s.tb.irigStat)
      ∧ (irigFrame f frac s).nv.chains = s.nv.chains := by
  have hs (u : Nat) : irigSecondOk f u s = true := by unfold irigSecondOk; rw [decide_eq_true h60]; rfl
  unfold irigFrame
  simp only [hf, hs, hl, Bool.and_true, if_true]
  split
  · exact ⟨irigPoint_irigShown .., irigPoint_chains ..⟩
  · exact ⟨rfl, rfl⟩

/-- A frame whose fields do not agree is rejected. -/
theorem irigFrame_bad {f : IrigFrame} (hf : irigFieldsOk f = false) (frac : Nat) (s : State) :
    irigFrame f frac s = { s with tb := s.tb.rejectIrig none } := by
  unfold irigFrame
  simp only [hf, Bool.false_and, Bool.false_eq_true, if_false]
  rfl

theorem irigFieldsOk_of_position {f : IrigFrame} (h : f.positionOk = false) : irigFieldsOk f = false := by
  unfold irigFieldsOk; rw [h]; rfl

/-! ## Leap seconds (R45, R46) -/

theorem applyLeap_utcOffset (s : State) : (applyLeap s).nv.live.utcOffset =
    if s.tb.leapDelete then s.nv.live.utcOffset - 1 else s.nv.live.utcOffset + 1 := by
  unfold applyLeap
  exact (raise_store _ _ _ _ _).utcOffset.trans (writeParams_store _).utcOffset

theorem leapSecond_applied {s : State} (hp : s.tb.leapPending = true) (hq : s.tb.quality ≠ .unsync) :
    leapSecond s = applyLeap s := by
  have hh : s.tb.holds = true := bne_iff_ne.2 hq
  unfold leapSecond
  rw [if_pos hp, if_pos hh]

theorem leapSecond_due {s : State} (hp : s.tb.leapPending = true) (hq : s.tb.quality = .unsync) :
    leapSecond s = { s with tb := { s.tb with leapDue := true } } := by
  unfold leapSecond TimeBase.holds
  rw [if_pos hp, hq]
  rfl

/-! ## TSYNC_OUT (R51) -/

theorem tsyncRise_live {s : State} (hl : live s = true) :
    tsyncRise s = { s with dev := { s.dev with tsyncOut := tsyncAllowed s } } := by
  unfold tsyncRise counterRuns; rw [hl]; rfl

/-- Settles O13: with no command waiting each row leaves what its operation makes of the time base. -/
theorem irigLeapTsync : Obligations.IrigLeapTsync := by
  refine ⟨fun s f frac hl hc => ⟨fun hf h60 hlast => ?_, fun hpos => ?_⟩, fun s hl hc => ⟨fun hp hq => ?_, fun hp hq => ?_, ?_, ?_⟩⟩
  · obtain ⟨hshown, hchains⟩ := irigFrame_first hf h60 hlast frac.val
    simp only [TimeBase.irigShown, Prod.mk.injEq] at hshown
    exact runs_whileLive rfl hl (hchains.trans hc) hshown
  · have hbad := irigFrame_bad (irigFieldsOk_of_position hpos) frac.val s
    refine runs_whileLive rfl hl (by rw [hbad]; exact hc) ?_
    rw [hbad]
    exact ⟨rfl, rfl, rfl, rfl, rfl, rfl, rfl⟩
  · have hleap := leapSecond_applied hp hq
    refine runs_whileLive rfl hl (by rw [hleap, applyLeap_chains]; exact hc) ?_
    rw [hleap, applyLeap_utcOffset, applyLeap_tb]
    exact ⟨rfl, rfl, rfl, rfl⟩
  · have hdue := leapSecond_due hp hq
    refine runs_whileLive rfl hl (by rw [hdue]; exact hc) ?_
    rw [hdue]
    exact ⟨rfl, hp, rfl⟩
  · exact ⟨_, rfl, tsyncRise_live hl⟩
  · exact ⟨_, rfl, rfl⟩

end Sys2Proof.Machine
end

section
/-! PROOFS. What an operation of the controller changes while no command runs or waits. `Parts` names some parts of the state, and
`Within m s t` says that from `s` to `t` only the parts `m` have changed and no command has begun; an operation that does nothing
then but end a command drops out. One lemma for each operation follows the operation's own steps. -/

namespace Sys2Proof.Machine

/-! ### Parts of the state -/

/-- No accepted command waits and none is in execution. -/
def Idle (s : State) : Prop := s.nv.chains = [] ∧ s.cm.running = none

/-- The command journal and the configuration banks are as they were. -/
def BanksKept (s t : State) : Prop :=
  t.nv.chains = s.nv.chains ∧ t.nv.bankA = s.nv.bankA ∧ t.nv.bankB = s.nv.bankB ∧ t.nv.outcomes = s.nv.outcomes

theorem BanksKept.refl (s : State) : BanksKept s s := ⟨rfl, rfl, rfl, rfl⟩

theorem BanksKept.trans {s t u : State} (h : BanksKept s t) (k : BanksKept t u) : BanksKept s u :=
  ⟨k.1.trans h.1, k.2.1.trans h.2.1, k.2.2.1.trans h.2.2.1, k.2.2.2.trans h.2.2.2⟩

/-- Ports, fuse rows, the queue, the clock and the SRAM, which no row of the controller touches. -/
def CoreKept (s t : State) : Prop :=
  t.ports = s.ports ∧ t.fu.rows = s.fu.rows ∧ t.pending = s.pending ∧ t.clock = s.clock ∧ t.sram = s.sram

/-- Some parts of the state: `put s t` is `s` with these parts as they are in `t`. -/
structure Parts where
  put : State → State → State
  put_self : ∀ s, put s s = s := by exact fun _ => rfl
  put_put : ∀ s t u, put (put s t) u = put s u := by exact fun _ _ _ => rfl
  put_core : ∀ s t, CoreKept s (put s t) := by exact fun _ _ => ⟨rfl, rfl, rfl, rfl, rfl⟩

/-- The parts `n` are among the parts `m`. -/
def Parts.Covers (m n : Parts) : Prop := ∀ s t, m.put s (n.put s t) = n.put s t

/-- From an idle state `s`, only the parts `m` have changed on the way to `t`, and no command has begun. -/
structure Within (m : Parts) (s t : State) : Prop where
  result : Idle s → Idle t ∧ BanksKept s t ∧ t = m.put s t

namespace Within

variable {m n : Parts} {s t u : State}

protected theorem refl (s : State) : Within m s s := ⟨fun i => ⟨i, .refl s, (m.put_self s).symm⟩⟩

theorem trans (h : Within m s t) (k : Within m t u) : Within m s u := ⟨fun i => by
  obtain ⟨it, bt, et⟩ := h.result i
  obtain ⟨iu, bu, eu⟩ := k.result it
  refine ⟨iu, bt.trans bu, ?_⟩
  calc u = m.put t u := eu
    _ = m.put (m.put s t) u := by rw [← et]
    _ = m.put s u := m.put_put s t u⟩

theorem mono (h : Within n s t) (c : m.Covers n := by exact fun _ _ => rfl) : Within m s t := ⟨fun i => by
  obtain ⟨it, bt, et⟩ := h.result i
  refine ⟨it, bt, ?_⟩
  calc t = n.put s t := et
    _ = m.put s (n.put s t) := (c s t).symm
    _ = m.put s t := by rw [← et]⟩

/-- One step more, which changes no other parts. -/
theorem step (h : Within m s t) (k : Within n t u) (c : m.Covers n := by exact fun _ _ => rfl) : Within m s u :=
  h.trans (k.mono c)

/-- Fields of these parts written, no command begun. -/
theorem write (hi : Idle s → Idle t := by exact id) (hb : BanksKept s t := by exact ⟨rfl, rfl, rfl, rfl⟩)
    (h : t = m.put s t := by rfl) : Within m s t := ⟨fun i => ⟨hi i, hb, h⟩⟩

/-- What an idle state makes of an operation. -/
theorem of_idle (h : Idle s → u = t) (k : Within m s t) : Within m s u :=
  ⟨fun i => h i ▸ k.result i⟩

protected theorem ite {c : Prop} [Decidable c] (h : Within m s t) (k : Within m s u) : Within m s (if c then t else u) := by
  split
  · exact h
  · exact k

/-- One step more where a condition holds. -/
theorem whenever {c : Prop} [Decidable c] (h : Within m s t) (k : Within n t u) (d : m.Covers n := by exact fun _ _ => rfl) :
    Within m s (if c then u else t) := .ite (h.step k d) h

/-- One step more unless a condition holds. -/
theorem otherwise {c : Prop} [Decidable c] (h : Within m s t) (k : Within n t u) (d : m.Covers n := by exact fun _ _ => rfl) :
    Within m s (if c then t else u) := .ite h (h.step k d)

theorem foldl {α : Type} (g : State → α → State) (h : ∀ s a, Within m s (g s a)) (l : List α) (s : State) :
    Within m s (l.foldl g s) := by
  induction l generalizing s with
  | nil => exact .refl s
  | cons a r ih => exact (h s a).trans (ih _)

theorem settle (h : Within m s t) : Within m s (settle t) := ⟨fun i => by
  obtain ⟨it, k⟩ := h.result i
  rw [settle_none t it.1]
  exact ⟨it, k⟩⟩

theorem core (h : Within m s t) (i : Idle s) : CoreKept s t := (h.result i).2.2 ▸ m.put_core s t

end Within

/-! ### Events and the parameter store -/

/-- The store, the journal and the host bus. -/
def events : Parts where
  put s t := { s with nv := t.nv, jr := t.jr, hb := t.hb }

theorem EventStore.banks {s t : State} (h : EventStore s t) : BanksKept s t :=
  ⟨h.chains, by rw [h.1], by rw [h.1], h.outcomes⟩

theorem within_events {s t : State} (h : StoreApart s t) (k : BanksKept s t) : Within events s t :=
  ⟨fun i => ⟨⟨k.1.trans i.1, (congrArg (fun x => x.cm.running) h).trans i.2⟩, k, h⟩⟩

theorem raiseAt_within (time : DWord) (src : Nat) (code : Half) (c : Cls) (arg : DWord) (s : State) :
    Within events s (raiseAt time src code c arg s) :=
  within_events (raiseAt_eq ..) ((commitGap_store s).trans (enqueue_store ..)).banks

theorem raise_within (src : Nat) (code : Half) (c : Cls) (arg : DWord) (s : State) : Within events s (raise src code c arg s) :=
  raiseAt_within _ src code c arg s

theorem raiseCause_within (bit : Nat) (s : State) : Within events s (raiseCause bit s) :=
  within_events (by rw [StoreApart, raiseCause_eq]) (raiseCause_store bit s).banks

theorem writeParams_within (s : State) : Within events s (writeParams s) :=
  within_events (writeParams_eq s) (writeParams_store s).banks

theorem setItem_within (f : Params → Params) (s : State) : Within events s (setItem f s) := .write

theorem storeItem_within (f : Params → Params) (s : State) : Within events s (storeItem f s) :=
  (setItem_within f s).trans (writeParams_within _)

theorem storedFirst_within (s : State) : Within events s (storedFirst s) := (Within.refl s).whenever (writeParams_within s)

/-! ### Commands that are not in execution -/

theorem finishRunning_idle {s : State} (i : Idle s) (status : Byte) (data : List Byte) : finishRunning status data s = s := by
  simp [finishRunning, holdOutcome, i.2]

theorem finishRunning_within {m : Parts} (status : Byte) (data : List Byte) (s : State) :
    Within m s (finishRunning status data s) := .of_idle (fun i => finishRunning_idle i status data) (.refl s)

end Sys2Proof.Machine
end

section
/-! PROOFS. The rows of time, of the strip and of Svaent frames while no command runs or waits: one lemma for each operation, in the
order of the model, over the parts of the state that its rows may change. -/

namespace Sys2Proof.Machine

/-! ### Station time (chapter 2) -/

/-- The time base with TSYNC_OUT, events, the free values and the links. -/
def timeParts : Parts where
  put s t := { s with tb := t.tb, dev := { s.dev with tsyncOut := t.dev.tsyncOut }, jr := t.jr, hb := t.hb, nv := t.nv,
                      fresh := t.fresh, links := t.links }

theorem applyLeap_within (s : State) : Within timeParts s (applyLeap s) :=
  .step (.step (.refl s) (storeItem_within ..)) (.step .write (raise_within ..) : Within timeParts _ _)

theorem tsyncGate_within (s : State) : Within timeParts s (tsyncGate s) := .write

theorem setQuality_within (q : Quality) (s : State) : Within timeParts s (setQuality q s) :=
  .ite (.refl s) (.whenever (.trans (.step (.step .write (raise_within ..)) (raiseCause_within ..)) (tsyncGate_within _))
    (applyLeap_within _))

theorem judgeLock_within (s : State) : Within timeParts s (judgeLock s) :=
  .ite (.refl s) (.ite (setQuality_within _ s) (.ite (setQuality_within _ s) (.refl s)))

theorem stepCounter_within (d : Int) (s : State) : Within timeParts s (stepCounter d s) :=
  .ite (.refl s) (.step .write (raise_within ..))

theorem slew_within (s : State) : Within timeParts s (slew s) := .write

theorem dropLock_within (s : State) : Within timeParts s (dropLock s) := (setQuality_within _ s).trans .write

theorem discipline_within (irig acquired : Bool) (err : Int) (s : State) : Within timeParts s (discipline irig acquired err s) :=
  .ite (.ite (.trans .write (dropLock_within _)) (.trans .write (slew_within _)))
    (.ite (.trans .write (stepCounter_within _ _)) (.trans .write (slew_within _)))

theorem crossCheck_within (counts : Nat) (s : State) : Within timeParts s (crossCheck counts s) :=
  .ite (.trans (.step .write (raise_within ..)) (dropLock_within _))
    (.ite (.step .write (raise_within ..)) .write)

theorem pendingTimeSet_within (s : State) : Within timeParts s (pendingTimeSet s) :=
  .of_idle (fun i => by unfold pendingTimeSet; rw [i.2]) (.refl s)

theorem ppsPoint_within (counts frac : Nat) (s : State) : Within timeParts s (ppsPoint counts frac s) := by
  unfold ppsPoint
  extract_lets _ valid checked _ set _ _ _ _ _ locked judged
  have hset : Within timeParts s set :=
    .trans (.whenever (.write : Within timeParts s valid) (crossCheck_within ..)) (pendingTimeSet_within checked)
  have hlocked : Within timeParts s locked := hset.trans .write
  have hjudged : Within timeParts s judged := .ite (hlocked.trans (discipline_within ..)) (hlocked.trans .write)
  exact .ite hset (hjudged.trans (judgeLock_within _))

theorem ppsEdge_within (counts frac : Nat) (s : State) : Within timeParts s (ppsEdge counts frac s) :=
  .ite .write (.ite (ppsPoint_within counts frac s) (.step .write (raise_within ..)))

theorem ppsMissing_within (s : State) : Within timeParts s (ppsMissing s) :=
  .ite (.step .write (raise_within ..)) (.refl s)

theorem sourceLost_within (irig : Bool) (s : State) : Within timeParts s (sourceLost irig s) := by
  unfold sourceLost
  extract_lets _ irigLost _ ppsLost ended
  have hirig : Within timeParts s irigLost := .step .write (raise_within ..)
  have hpps : Within timeParts s ended :=
    .whenever (.step .write (raise_within ..) : Within timeParts s ppsLost) (finishRunning_within (m := timeParts) ..)
  exact .ite (.ite (hirig.trans (.ite (.ite (setQuality_within ..) (setQuality_within ..)) (.refl _))) (.refl s))
    (.ite (.whenever hpps (setQuality_within ..)) (.refl s))

theorem irigPoint_within (utc : Int) (frac : Nat) (s : State) : Within timeParts s (irigPoint utc frac s) :=
  .ite (.refl s) (.trans (.trans .write (discipline_within ..)) (judgeLock_within _))

theorem irigFrame_within (f : IrigFrame) (frac : Nat) (s : State) : Within timeParts s (irigFrame f frac s) :=
  .ite (.ite (.trans .write (irigPoint_within ..)) .write) .write

theorem holdoverExpired_within (s : State) : Within timeParts s (holdoverExpired s) :=
  .ite (.trans (.mono (raise_within ..)) (setQuality_within ..)) (.refl s)

theorem leapSecond_within (s : State) : Within timeParts s (leapSecond s) :=
  .ite (.ite (applyLeap_within s) .write) (.refl s)

theorem whileLive_within {m : Parts} {f : State → State} {s : State} (h : Within m s (f s)) : Within m s (whileLive f s) :=
  .ite h.settle (.refl s)

/-! ### The witness strip (chapter 17) -/

/-- The printer with its pins, and events. -/
def stripParts : Parts where
  put s t := { s with wp := t.wp, dev := { s.dev with pins := t.dev.pins }, jr := t.jr, hb := t.hb, nv := t.nv }

theorem lineDone_within (k : LineKind) (s : State) : Within stripParts s (lineDone k s) := by
  cases k with
  | record | host | test => exact (storeItem_within _ s).mono
  | resume | date => exact .write
  | skip => exact .step (.step .write (storeItem_within _ _)) (raise_within ..)
  | blankFeed =>
    unfold lineDone
    dsimp only
    split
    · exact .ite (storeItem_within _ s).mono (.refl s)
    · exact .refl s

theorem endLine_within (s : State) : Within stripParts s (endLine s) := by
  unfold endLine
  split
  · exact .refl s
  · exact .ite .write (.trans (lineDone_within _ s) .write)

theorem noteLate_within (k : LineKind) (s : State) : Within stripParts s (noteLate k s) :=
  .step .write (raise_within ..)

theorem noteStarted_within (k : LineKind) (s : State) : Within stripParts s (noteStarted k s) :=
  .ite (storeItem_within _ s).mono (.refl s)

/-- The line that stands next begins, if there is one. -/
theorem beginNext_within (due : Bool) (s : State) :
    Within stripParts s (match nextLine s with | some n => beginLine n due s | none => s) := by
  split
  · exact .write
  · exact .refl s

theorem dotLine_within (k : LineKind) (s : State) : Within stripParts s (dotLine k s) :=
  .ite .write (.trans (.trans (noteStarted_within k s) .write)
    (.ite (.refl _) (.trans (endLine_within _) (.ite (.refl _) (beginNext_within true _)))))

theorem lineSlotOf_within (k : LineKind) (s : State) : Within stripParts s (lineSlotOf k s) :=
  .ite (.refl s) (.ite (.refl s) (.ite .write (.ite .write (.ite .write
    (.ite (.trans (noteLate_within k s) (dotLine_within k _)) (dotLine_within k s))))))

theorem lineSlot_within (s : State) : Within stripParts s (lineSlot s) := by
  refine .ite (.refl s) (.trans (.write : Within stripParts s { s with wp := s.wp.quiet }) (.ite .write (.ite (.refl _) ?_)))
  split
  · exact lineSlotOf_within _ _
  · exact .ite .write (.ite (.refl _) (beginNext_within false _))

theorem lineRendered_within (s : State) : Within stripParts s (lineRendered s) := by
  refine .ite (.refl s) ?_
  split
  · exact .ite .write .write
  · exact .write

theorem printerGated_within (sensors : BitVec 3) (s : State) : Within stripParts s (printerGated sensors s) :=
  .ite (.refl s) (.ite .write (.ite .write (.step .write (raise_within ..))))

theorem printerReady_within (s : State) : Within stripParts s (printerReady s) :=
  .ite (.refl s) (.ite .write (.step .write (raise_within ..)))

theorem motorDisable_within (s : State) : Within stripParts s (motorDisable s) := .write

/-! ### Svaent frames (chapter 11) -/

/-- The Svaent queues and connections, events, the free values and the engine. -/
def svaentParts : Parts where
  put s t := { s with sf := t.sf, jr := t.jr, hb := t.hb, nv := t.nv, fresh := t.fresh, en := t.en }

theorem updCons_within (n : Nat) (f : ConsSt → ConsSt) (s : State) : Within svaentParts s (updCons n f s) := .write

theorem rejectRemote_within (n reason : Nat) (seq : BitVec 28) (s : State) : Within svaentParts s (rejectRemote n reason seq s) := by
  unfold rejectRemote
  split
  · exact (raise_within ..).mono
  · exact .step .write (raise_within ..)

theorem placeFrame_within (bytes : List Byte) (s : State) : Within svaentParts s (placeFrame bytes s) :=
  .ite (.otherwise (.whenever .write (raiseCause_within ..)) (raise_within ..)) .write

theorem producerSend_within (n : Nat) (s : State) : Within svaentParts s (producerSend n s) := by
  unfold producerSend
  split
  · exact .trans .write (placeFrame_within ..)
  · exact .refl s

theorem sendAllDue_within (s : State) : Within svaentParts s (sendAllDue s) :=
  .foldl _ (fun s n => producerSend_within n s) _ s

theorem judgeRR_within (n : Nat) (f : SflFrame) (s : State) : Within svaentParts s (judgeRR n f s) := by
  refine .ite (rejectRemote_within ..) ?_
  split
  · exact rejectRemote_within ..
  · exact .ite (rejectRemote_within ..) (.ite .write (.ite .write (.ite .write (rejectRemote_within ..))))

theorem connLost_within (n reason : Nat) (was : ConsSt) (s : State) : Within svaentParts s (connLost n reason was s) :=
  .ite (.step (updCons_within ..) (raise_within ..)) (.refl s)

theorem judgeSeq_within (n : Nat) (f : SflFrame) (age : Word) (s : State) : Within svaentParts s (judgeSeq n f age s) := by
  unfold judgeSeq
  dsimp only
  split
  · exact .whenever (.trans (.step .write (raise_within ..)) (connLost_within ..)) (judgeRR_within ..)
  · exact .whenever (.trans .write (.ite (connLost_within ..) (.whenever (.refl _) (raise_within ..)))) (judgeRR_within ..)
  · exact .whenever .write (rejectRemote_within ..)
  · exact .write
  · exact .write

theorem judgeFrame_within (b : List Byte) (s : State) : Within svaentParts s (judgeFrame b s) := by
  refine .ite .write ?_
  dsimp only
  split
  · exact .write
  · exact .ite .write (judgeSeq_within ..)

theorem judgeFrames_within (l : List (List Byte)) (s : State) : Within svaentParts s (l.foldl (fun s b => judgeFrame b s) s) :=
  .foldl _ (fun s b => judgeFrame_within b s) l s

theorem expire_within (n : Nat) (s : State) : Within svaentParts s (expire n s) := by
  unfold expire
  split
  · exact .refl s
  · exact .ite (.trans (updCons_within ..) (connLost_within ..)) (.refl s)

theorem takeIn_within (s : State) : Within svaentParts s (takeIn s) := by
  have h (l : List (List Byte)) : Within svaentParts s
      ((List.range 32).foldl (fun s n => expire n s) (l.foldl (fun s b => judgeFrame b s) { s with sf := { s.sf with inq := [] } })) :=
    .trans .write (.trans (judgeFrames_within ..) (.foldl _ (fun s n => expire_within n s) _ _))
  unfold takeIn
  dsimp only
  split
  · exact h _
  · exact h _
  · exact h _
  · exact .write

theorem takeInStopped_within (s : State) : Within svaentParts s (takeInStopped s) := .ite (takeIn_within s) (.refl s)

/-- The watchdog of a connection that a frame of the queue has not restarted. -/
theorem watchdogRun_within (n : Nat) (before : ConsSt) (s : State) :
    Within svaentParts s
      (if getCons n s = before ∧ ((getCons n s).state = .pending ∨ (getCons n s).state = .valid) then
        connLost n 1 (getCons n s) (updCons n (fun c => { c with state := .expired }) s)
      else s) :=
  .ite (.trans (updCons_within ..) (connLost_within ..)) (.refl s)

theorem connWatchdog_within (n : Nat) (s : State) : Within svaentParts s (connWatchdog n s) := by
  have h : Within svaentParts s (s.sf.inq.foldl (fun s b => judgeFrame b s) { s with sf := { s.sf with inq := [] } }) :=
    .trans .write (judgeFrames_within ..)
  unfold connWatchdog
  split
  · exact h.trans (watchdogRun_within ..)
  · exact h.trans (watchdogRun_within ..)
  · exact h.trans (watchdogRun_within ..)
  · exact .refl s

end Sys2Proof.Machine
end

section
/-! PROOFS. Entropy, the exit from RUN and into FAULT, the scan, the selector and the die temperature while no command runs or
waits: one lemma for each operation over the parts of the state that its rows may change. -/

namespace Sys2Proof.Machine

/-! ### Entropy (chapter 11) -/

/-- The entropy source and all that a draw reaches, with events. -/
def entropyParts : Parts where
  put s t := { s with ent := t.ent, links := t.links, en := t.en, sf := t.sf, cm := t.cm, db := t.db,
                      jr := t.jr, hb := t.hb, nv := t.nv }

theorem addDraw_within (d : Draw) (s : State) : Within entropyParts s (addDraw d s) := .write

theorem pushReply_within (r : Reply) (s : State) : Within entropyParts s (pushReply r s) := .step .write (raiseCause_within ..)

theorem startProducer_within (n : Fin 32) (cid : Word) (s : State) : Within entropyParts s (startProducer n cid s) :=
  .ite (.refl s) (.ite .write (.step .write (raise_within ..)))

theorem deliver_within (d : Draw) (w : DWord) (s : State) : Within entropyParts s (deliver d w s) := by
  cases d with
  | link => exact .whenever .write (addDraw_within ..)
  | engineLoad => exact .ite .write .write
  | engineFold => exact .ite .write .write
  | producer => exact startProducer_within ..
  | challenge => exact .ite (pushReply_within ..) (.trans .write (pushReply_within ..))

theorem serve_within (n : Nat) (s : State) : Within entropyParts s (serve n s) := by
  induction n generalizing s with
  | zero => exact .refl s
  | succ n ih =>
    unfold serve
    split
    · exact .trans (.trans .write (deliver_within ..)) (ih _)
    · exact .refl s

theorem serveAll_within (s : State) : Within entropyParts s (serveAll s) := serve_within ..

theorem failDraw_within (d : Draw) (s : State) : Within entropyParts s (failDraw d s) := by
  cases d with
  | link | engineLoad | engineFold => exact .write
  | producer => exact .ite (.step .write (raise_within ..)) .write
  | challenge => exact .trans .write (pushReply_within ..)

theorem request_within (d : Draw) (s : State) : Within entropyParts s (request d s) := by
  unfold request
  split
  · exact failDraw_within ..
  · exact failDraw_within ..
  · exact .trans (addDraw_within ..) (serveAll_within _)

theorem requestProducer_within (n : Fin 32) (s : State) : Within entropyParts s (requestProducer n s) :=
  .trans .write (request_within ..)

theorem producerStart_within (n : Fin 32) (s : State) : Within entropyParts s (producerStart n s) :=
  .ite (requestProducer_within n s) (.refl s)

theorem drawAgain_within (s : State) : Within entropyParts s (drawAgain s) :=
  .trans (.whenever (.refl s) (request_within ..))
    (.trans (.foldl _ (fun s _ => .ite (request_within _ s) (.refl s)) _ _)
      (.foldl _ (fun s n => .ite (requestProducer_within n s) (.refl s)) _ _))

theorem failDraws_within (l : List Draw) (s : State) : Within entropyParts s (l.foldl (fun s d => failDraw d s) s) :=
  .foldl _ (fun s d => failDraw_within d s) l s

theorem healthFail_within (test : Nat) (s : State) : Within entropyParts s (healthFail test s) :=
  .trans (.whenever (.step .write (raise_within ..)) (raise_within ..)) (failDraws_within ..)

theorem finishRetest_within (status : Byte) (s : State) : Within entropyParts s (finishRetest status s) := by
  unfold finishRetest
  split
  · exact finishRunning_within ..
  · exact .refl s

theorem startupTestDone_within (raw : List Bool) (s : State) : Within entropyParts s (startupTestDone raw s) := by
  unfold startupTestDone
  split
  · refine .ite ?_ (.trans (healthFail_within ..) (finishRetest_within ..))
    dsimp only
    split
    · exact .trans (.trans (.step .write (raise_within ..)) (drawAgain_within _)) (finishRetest_within ..)
    · exact .trans (.trans (.trans .write (drawAgain_within _)) (serveAll_within _)) (finishRetest_within ..)
  · exact .refl s

theorem entropyBlock_within (raw : List Bool) (s : State) : Within entropyParts s (entropyBlock raw s) :=
  .ite .write (.trans .write (.ite (.trans .write (serveAll_within _)) (.refl _)))

theorem entropyBits_within (raw : List Bool) (s : State) : Within entropyParts s (entropyBits raw s) := by
  unfold entropyBits
  dsimp only
  split
  · exact .ite (.trans .write (entropyBlock_within ..)) (.trans .write (healthFail_within ..))
  · exact .ite .write (.trans (.trans .write (healthFail_within ..)) (finishRetest_within ..))
  · exact .refl s

/-! ### Out of RUN (chapters 3 and 7) -/

/-- The engine and the device's state with all that a scan and the exit from RUN reach. -/
def runParts : Parts where
  put s t := { s with en := t.en, dev := t.dev, sf := t.sf, ent := t.ent, links := t.links, cm := t.cm,
                      jr := t.jr, hb := t.hb, nv := t.nv, fresh := t.fresh }

/-- The same with the always-on registers, which an entry into LOCKOUT writes. -/
def engineParts : Parts where
  put s t := { s with en := t.en, dev := t.dev, aorf := t.aorf, sf := t.sf, ent := t.ent, links := t.links, cm := t.cm,
                      jr := t.jr, hb := t.hb, nv := t.nv, fresh := t.fresh }

theorem rejectWaiting_within (n : Nat) (q : Option (BitVec 28)) (s : State) :
    Within runParts s (match q with | some seq => rejectRemote n 9 seq s | none => s) := by
  split
  · exact (rejectRemote_within ..).mono
  · exact .refl s

theorem rejectAll_within (n reason : Nat) (l : List (BitVec 28)) (s : State) :
    Within runParts s (l.foldl (fun s seq => rejectRemote n reason seq s) s) :=
  .foldl _ (fun s seq => (rejectRemote_within n reason seq s).mono) l s

theorem dropRestarts_within (n : Nat) (s : State) : Within runParts s (dropRestarts n s) :=
  .trans (.trans (.trans .write (rejectWaiting_within ..)) (rejectWaiting_within ..)) (rejectAll_within ..)

theorem leaveRun_within (s : State) : Within runParts s (leaveRun s) := by
  unfold leaveRun
  extract_lets dropped
  have h : Within runParts s dropped :=
    .trans (sendAllDue_within s).mono (.foldl _ (fun s n => dropRestarts_within n s) _ _)
  clear_value dropped
  exact h.trans .write

theorem endModeRequest_within (s : State) : Within runParts s (endModeRequest s) := by
  unfold endModeRequest
  split
  · exact finishRunning_within ..
  · exact .refl s

theorem noteDisagree_within (s : State) : Within runParts s (noteDisagree s) := by
  unfold noteDisagree
  extract_lets noted
  have h : Within runParts s noted := .foldl _ (fun s _ => (raise_within _ _ _ _ s).mono) _ s
  exact h.trans .write

theorem stopEngine_within (s : State) : Within runParts s (stopEngine s) := by
  unfold stopEngine
  extract_lets stopped _ _ _ idled
  have h : Within runParts s stopped := (leaveRun_within s).trans (noteDisagree_within _)
  have hidled : Within runParts s idled := by
    clear_value stopped
    exact h.trans .write
  exact hidled.trans (endModeRequest_within _)

theorem setState_within (new : DvState) (why : Nat) (s : State) : Within runParts s (setState new why s) :=
  .ite (.refl s) (.step (.step .write (raise_within ..)) (raiseCause_within ..))

theorem faultEntry_within (verify : Bool) (code detail : Byte) (s : State) :
    Within runParts s (faultEntry verify code detail s) := by
  unfold faultEntry
  extract_lets stopped _ _ marked
  have h : Within runParts s stopped := stopEngine_within s
  have hmarked : Within runParts s marked := by
    clear_value stopped
    exact h.trans .write
  exact hmarked.trans (setState_within ..)

theorem enterLockout_within (why : Nat) (s : State) : Within engineParts s (enterLockout why s) :=
  .step .write (setState_within ..)

theorem codingFailure_within (code : Byte) (check : Word) (detail : Byte) (evCode : Half) (evArg : DWord) (s : State) :
    Within engineParts s (codingFailure code check detail evCode evArg s) := by
  unfold codingFailure
  extract_lets again _ checked entered failed halted
  have hfailed : Within engineParts s failed :=
    .step (.step (.step (.write : Within engineParts s checked) (raise_within ..)) (faultEntry_within ..)) (storeItem_within ..)
  have hhalted : Within engineParts s halted := .step (raise_within ..).mono (storeItem_within ..)
  exact .ite (.whenever hfailed (enterLockout_within ..)) (.ite (hhalted.trans .write) (.refl s))

/-! ### The scan (R146) -/

theorem raiseBlk_within (im : Image) (ix : Nat) (b : Block) (evs : List BlkEvent) (s : State) :
    Within events s (raiseBlk im ix b evs s) := .foldl _ (fun s _ => raise_within _ _ _ _ s) evs s

theorem reportBlk_within (im : Image) (ix : Nat) (b : Block) (r : BlkRes) (s : State) :
    Within events s (reportBlk im ix b r s) :=
  .trans (.trans (.whenever (.refl s) (setItem_within ..)) (.whenever (.refl _) (storedFirst_within _))) (raiseBlk_within ..)

theorem takeModesel_within (im : Image) (ix : Nat) (b : Block) (r : ModeRes) (s : State) :
    Within runParts s (takeModesel im ix b r s) := .step .write (raiseBlk_within ..)

theorem applyModesel_within (im : Image) (ix : Nat) (b : Block) (r : ModeRes) (s : State) :
    Within runParts s (applyModesel im ix b r s) := by
  refine (takeModesel_within im ix b r s).trans ?_
  unfold applyModesel answerMode
  split
  · exact finishRunning_within ..
  · exact .refl _

theorem takeRestart_within (mode : Mode) (ix : Nat) (b : Block) (s : State) : Within runParts s (takeRestart mode ix b s) := by
  unfold takeRestart
  extract_lets n c given reason cleared rejected
  have h : Within runParts s rejected := .trans (.write : Within runParts s cleared) (rejectAll_within ..)
  split
  · exact h
  · exact .ite (h.step (raise_within ..)) (h.step (rejectRemote_within ..))

theorem runBlock_within (im : Image) (dOld d k : Word) (mode : Mode) (ix : Nat) (p : Work × State) :
    Within runParts p.2 (runBlock im dOld d k mode ix p).2 := by
  unfold runBlock
  split
  · exact .refl _
  · split
    · exact .refl _
    · exact .step (.trans (.whenever (.refl _) (applyModesel_within ..)) (.whenever (.refl _) (takeRestart_within ..)))
        (reportBlk_within ..)

theorem scanFold_within (e : ScanEnv) (im : Image) (mode : Mode) (s : State) :
    Within runParts s (scanFold e im mode s).2 := by
  have h (l : List Nat) (p : Work × State) :
      Within runParts p.2 (l.foldl (fun p ix => runBlock im s.en.lfsr (scanSeed s) (s.en.scanNo + 1) mode ix p) p).2 := by
    induction l generalizing p with
    | nil => exact .refl _
    | cons ix r ih => exact (runBlock_within ..).trans (ih _)
  exact .trans (.write : Within runParts s (clearFolds s)) (h _ (_, clearFolds s))

theorem noteRefused_within (b : OutBind) (on : Bool) (s : State) : Within runParts s (noteRefused b on s) :=
  .ite (.step .write (raise_within ..)) (.refl s)

theorem putCode_within (b : OutBind) (k : Word) (x : Sent) (s : State) : Within runParts s (putCode b k x s) := .write

theorem publishBind_within (im : Image) (d k : Word) (words : List Word) (old : Option (List Word)) (ix : Nat) (b : OutBind)
    (s : State) : Within runParts s (publishBind im d k words old ix b s) := by
  unfold publishBind
  extract_lets _ _ _ _ _ _ _ noted _ _ _ _ _ _ _ held
  have hnoted : Within runParts s noted := .whenever (.refl s) (noteRefused_within ..)
  have hheld : Within runParts s held := by
    clear_value noted
    exact hnoted.trans .write
  exact hheld.trans (putCode_within ..)

theorem publishBinds_within (im : Image) (d k : Word) (words : List Word) (old : Option (List Word)) (l : List Nat) (s : State) :
    Within runParts s (l.foldl (fun s i =>
      match im.outs[i]? with
      | some b => publishBind im d k words old i b s
      | none => s) s) := by
  refine .foldl _ (fun s i => ?_) l s
  split
  · exact publishBind_within ..
  · exact .refl s

theorem handoverEvents_within (before : List Nat) (s : State) : Within runParts s (handoverEvents before s) :=
  .ite (.trans (noteDisagree_within s) (.foldl _ (fun s _ => (raise_within _ _ _ _ s).mono) _ _)) (.refl s)

theorem markProducer_within (im : Image) (d : Word) (words : List Word) (old : Option (List Word)) (rose : Bool) (b : Block)
    (s : State) : Within runParts s (markProducer im d words old rose b s) := by
  unfold markProducer
  dsimp only
  split
  · exact .refl s
  · exact .ite (.refl s) (.ite .write .write)

theorem markProducers_within (im : Image) (d : Word) (w : Work) (old : Option (List Word)) (l : List Nat) (s : State) :
    Within runParts s (l.foldl (fun s i =>
      match im.blocks[i]? with
      | some b => if b.type = .sflOut then markProducer im d w.words old (stAt w.sts b i).armed b s else s
      | none => s) s) := by
  refine .foldl _ (fun s i => ?_) l s
  split
  · exact .ite (markProducer_within ..) (.refl s)
  · exact .refl s

theorem publish_within (im : Image) (d k : Word) (w : Work) (old : Option (List Word)) (execUs : Half) (s : State) :
    Within runParts s (publish im d k w old execUs s) := by
  unfold publish
  extract_lets before idled bound handed auxed shown marked
  have hbound : Within runParts s bound := .trans (.write : Within runParts s idled) (publishBinds_within ..)
  have hhanded : Within runParts s handed := hbound.trans (handoverEvents_within ..)
  have hshown : Within runParts s shown := by
    clear_value handed
    exact hhanded.trans .write
  have hmarked : Within runParts s marked := hshown.trans (markProducers_within ..)
  clear_value marked
  exact hmarked.trans .write

theorem scanStart_within (s : State) : Within runParts s (scanStart s) :=
  .step (.step .write (sendAllDue_within _)) (takeIn_within _)

theorem scanPhases_within (e : ScanEnv) (im : Image) (s : State) : Within engineParts s (scanPhases e im s) := by
  have h : Within engineParts s (scanEval e im s).2 := (scanFold_within ..).mono
  unfold scanPhases
  dsimp only
  split
  · exact h.trans (.trans .write (codingFailure_within ..))
  · exact h.trans (.step .write (publish_within ..))

theorem scanBody_within (e : ScanEnv) (im : Image) (s : State) : Within engineParts s (scanBody e im s) :=
  (scanStart_within s).mono.trans (scanPhases_within ..)

theorem haltedStop_within (s : State) : Within runParts s (haltedStop s) := by
  unfold haltedStop
  extract_lets noted
  have h : Within runParts s noted := noteDisagree_within s
  clear_value noted
  exact h.trans .write

theorem scan_within (e : ScanEnv) (s : State) : Within engineParts s (scan e s) := by
  refine .ite (.refl s) ?_
  split
  · exact .refl s
  · split
    · exact .ite (scanBody_within ..) (codingFailure_within ..)
    · exact .ite (.ite (.trans .write (scanBody_within ..)) (haltedStop_within s).mono) (.refl s)
    · exact .refl s

/-! ### Re-verification, the selector and the die temperature (chapters 7, 9 and 20) -/

theorem reverifyDone_within (pass : Bool) (check : Word) (us : Half) (s : State) :
    Within engineParts s (reverifyDone pass check us s) :=
  .ite (.ite (.step .write (raise_within ..)) (.trans (.step .write (raise_within ..)) (enterLockout_within ..))) (.refl s)

theorem evalOne_within (im : Image) (ix : Nat) (b : Block) (ins modes : List Nat) (st : BlockSt) (s : State) :
    Within engineParts s (evalOne im ix b ins modes st s) := .step .write (reportBlk_within ..)

theorem selectorUp_within (f : Nat → ModeSt → ModeSt) (s : State) : Within engineParts s (selectorUp f s) := by
  unfold selectorUp
  split
  · exact .refl s
  · split
    · exact .refl s
    · exact (takeModesel_within ..).mono.trans (evalOne_within ..)

theorem tempEvent_within (code : Half) (c : Cls) (t : Byte) (s : State) : Within events s (tempEvent code c t s) :=
  raise_within ..

theorem overTempTrip_within (t : Byte) (s : State) : Within engineParts s (overTempTrip t s) :=
  .whenever (.step .write (tempEvent_within ..)) (faultEntry_within ..)

theorem measureTemp_within (t : Byte) (s : State) : Within engineParts s (measureTemp t s) :=
  .trans (.trans (.write : Within engineParts s { s with dev := { s.dev with dieTemp := t } })
      (.ite (.step .write (tempEvent_within ..)) (.refl _)))
    (.ite (overTempTrip_within ..) (.ite (.step .write (tempEvent_within ..)) (.refl _)))

end Sys2Proof.Machine
end

section
/-! PROOFS. The controller's side of the links while no command runs or waits: link starts and losses, uplink frames and what they
report. A report that is a coding failure may enter LOCKOUT, and nothing else of them reaches the always-on registers. -/

namespace Sys2Proof.Machine

/-! ### Link starts and losses (R86, R94) -/

/-- The links with the engine's blocks behind their inputs and the draws, and events. -/
def linkParts : Parts where
  put s t := { s with links := t.links, jr := t.jr, hb := t.hb, nv := t.nv, short := t.short, en := t.en, fresh := t.fresh,
                      ent := t.ent }

theorem updLink_within (l : Nat) (f : Link → Link) (s : State) : Within linkParts s (updLink l f s) := .write

theorem updRestarts_within (which : Nat → Nat → Bool) (f : BlockSt → BlockSt) (s : State) :
    Within linkParts s (updRestarts which f s) := by
  unfold updRestarts
  split
  · exact .refl s
  · exact .write

theorem disarmRestarts_within (p : Nat) (s : State) : Within linkParts s (disarmRestarts p s) := updRestarts_within ..

theorem noteUncleanSource_within (p k : Nat) (s : State) : Within linkParts s (noteUncleanSource p k s) := updRestarts_within ..

theorem dropLink_idle {s : State} (i : Idle s) (l : Nat) :
    dropLink l s = updLink l (fun k => { k.down with seenClosed := k.seenClosed ||| k.outNow })
      { s with ent := { s.ent with waiting := s.ent.waiting.filter (fun d => !d.ofLink l) } } := by
  unfold dropLink updLink
  dsimp only
  rw [i.2]

theorem dropLink_within (l : Nat) (s : State) : Within linkParts s (dropLink l s) := .of_idle (dropLink_idle · l) .write

theorem abandonLearn_idle {s : State} (i : Idle s) (p : Nat) : abandonLearn p s = s := by
  unfold abandonLearn
  rw [i.2]

theorem abandonLearn_within (p : Nat) (s : State) : Within linkParts s (abandonLearn p s) :=
  .of_idle (abandonLearn_idle · p) (.refl s)

theorem noteStartFail_within (l : Nat) (s : State) : Within linkParts s (noteStartFail l s) :=
  .trans (.otherwise (.refl s) (raise_within ..)) (updLink_within ..)

theorem linkLost_within (l cause : Nat) (s : State) : Within linkParts s (linkLost l cause s) := by
  unfold linkLost
  extract_lets k told
  have h : Within linkParts s told := .step (.step (.refl s) (raise_within ..)) (raiseCause_within ..)
  have hfailed : Within linkParts s (if k.phase ≤ 5 then noteStartFail l told else told) := .whenever h (noteStartFail_within ..)
  exact .ite ((hfailed.trans (dropLink_within ..)).trans (abandonLearn_within ..)) (.refl s)

theorem linkStartFail_within (l : Nat) (s : State) : Within linkParts s (linkStartFail l s) :=
  .ite (.trans (noteStartFail_within ..) (dropLink_within ..)) (.refl s)

theorem linkStart_within (l : Nat) (s : State) : Within linkParts s (linkStart l s) :=
  .ite (.trans (updLink_within ..) (disarmRestarts_within ..)) (.refl s)

/-! ### Uplink frames (R77, R83 to R88) -/

/-- What an uplink frame may change while no coding failure is reported: the link's own parts, what a draw reaches, and the
registers of the port's revision and of a version mismatch. -/
def uplinkParts : Parts where
  put s t := { s with links := t.links, jr := t.jr, hb := t.hb, nv := t.nv, short := t.short, en := t.en, fresh := t.fresh,
                      ent := t.ent, sf := t.sf, cm := t.cm, db := t.db,
                      fu := { s.fu with revs := t.fu.revs, mismatch := t.fu.mismatch } }

theorem checkRate_within (l : Nat) (s : State) : Within linkParts s (checkRate l s) :=
  .whenever (.whenever (updLink_within ..) (raise_within ..)) (raise_within ..)

theorem badUplink_within (l : Nat) (s : State) : Within linkParts s (badUplink l s) :=
  .whenever (.trans (updLink_within ..) (checkRate_within ..)) (linkLost_within ..)

theorem queuePhase_within (l : Nat) (s : State) : Within linkParts s (queuePhase l s) := .write

theorem noteDelay_within (l rt : Nat) (s : State) : Within linkParts s (noteDelay l rt s) :=
  .whenever (updLink_within ..) (queuePhase_within ..)

theorem judgeEcho_within (l : Nat) (s : State) : Within linkParts s (judgeEcho l s) := .otherwise (.refl s) (linkLost_within ..)

theorem channelUntested_within (p c : Nat) (s : State) : Within linkParts s (channelUntested p c s) :=
  .ite (.refl s) (.step (.trans (storedFirst_within s).mono (updLink_within ..)) (raise_within ..))

theorem judgeChannel_within (p c : Nat) (isOpen : Bool) (s : State) : Within linkParts s (judgeChannel p c isOpen s) :=
  .ite (.refl s) (.whenever (.whenever (.refl s) (channelUntested_within ..)) (updLink_within ..))

theorem judgeChannels_within (p : Nat) (which : State → Nat → Bool) (l : List Nat) (s : State) :
    Within linkParts s (l.foldl (fun s c => if which s c then judgeChannel p c true s else s) s) :=
  .foldl _ (fun s _ => .ite (judgeChannel_within _ _ _ s) (.refl s)) l s

theorem takeCommon_within (l : Nat) (f : Frame) (s : State) : Within linkParts s (takeCommon l f s) :=
  .trans (.trans (updLink_within ..)
    (judgeChannels_within l (fun s c => showsOpen (getLink l s) c f && (getLink l s).judged) _ _)) (judgeEcho_within ..)

theorem linkUp_within (l : Nat) (s : State) : Within linkParts s (linkUp l s) := by
  unfold linkUp
  extract_lets k arg told judged up
  have hup : Within linkParts s up :=
    .trans (.trans (.mono (raise_within ..) : Within linkParts s told) (queuePhase_within ..)) (updLink_within ..)
  exact .otherwise hup (.foldl _ (fun s c => judgeChannel_within l c true s) _ _ : Within linkParts _ _)

theorem noteMismatch_within (code port : Nat) (s : State) : Within uplinkParts s (noteMismatch code port s) :=
  .step .write (raise_within ..)

theorem strapFault_within (l : Nat) (s : State) : Within linkParts s (strapFault l s) :=
  .ite (.refl s) (.step (updLink_within ..) (raise_within ..))

theorem revFault_within (l : Nat) (s : State) : Within uplinkParts s (revFault l s) :=
  .ite (.refl s) (.whenever (.step (.step .write (raise_within ..)) (raiseCause_within ..)) (noteMismatch_within ..))

theorem linkCheck_within (l : Nat) (s : State) : Within uplinkParts s (linkCheck l s) :=
  .trans (.trans (.step .write (strapFault_within ..)) (revFault_within ..)) (.ite (.refl _) (.ite .write .write))

theorem confirm_within (l : Nat) (ok : Bool) (done : State → State) (s : State) (h : ∀ s, Within uplinkParts s (done s)) :
    Within uplinkParts s (confirm l ok done s) := .whenever (.mono (updLink_within ..)) (h _)

theorem beginSeed_within (l : Fin 8) (s : State) : Within uplinkParts s (beginSeed l s) := .step .write (request_within ..)

theorem uplinkIdent_within (l : Fin 8) (framing : Bool) (f : Frame) (rt : Nat) (s : State) :
    Within uplinkParts s (uplinkIdent l framing f rt s) := by
  unfold uplinkIdent
  extract_lets k taken seen
  have htaken : Within linkParts s taken := .trans (noteDelay_within ..) (takeCommon_within ..)
  have hseen : Within linkParts s seen := htaken.trans (updLink_within ..)
  refine .ite (.refl s) (.ite (badUplink_within ..).mono (.ite (linkLost_within ..).mono (.ite htaken.mono ?_)))
  split
  · exact (hseen.trans (updLink_within ..)).mono
  · exact (hseen.whenever (updLink_within ..)).mono
  · exact hseen.mono.trans (linkCheck_within ..)
  · exact hseen.mono.trans (confirm_within _ _ _ _ (beginSeed_within l))
  · exact hseen.mono.trans (confirm_within _ _ _ _ fun s => (linkUp_within l s).mono)
  · exact hseen.mono

theorem takeEdge_within (l : Nat) (f : Frame) (r : Word) (s : State) : Within linkParts s (takeEdge l f r s) :=
  .otherwise (.mono (raiseAt_within ..)) (updRestarts_within ..)

/-! ### Diagnostics (R115, R118, R120) -/

theorem setChLatch_within (p c bit : Nat) (s : State) : Within linkParts s (setChLatch p c bit s) := updLink_within ..

theorem setChLatches_within (p mask bit : Nat) (s : State) : Within linkParts s (setChLatches p mask bit s) :=
  .foldl _ (fun s _ => .ite (setChLatch_within _ _ _ s) (.refl s)) _ s

theorem setInLatch_within (p i : Nat) (on : Bool) (s : State) : Within linkParts s (setInLatch p i on s) := updLink_within ..

theorem latchSource_within (p k : Nat) (s : State) : Within linkParts s (latchSource p k s) :=
  .foldl _ (fun s _ => .ite (setInLatch_within _ _ _ s) (.refl s)) _ s

theorem channelTested_within (p c : Nat) (s : State) : Within linkParts s (channelTested p c s) := by
  unfold channelTested
  extract_lets _ was clear stored shown _ cleared
  have hstored : Within linkParts s stored := .ite (storeItem_within ..).mono (setItem_within ..).mono
  have hcleared : Within linkParts s cleared := by
    clear_value stored
    exact hstored.trans .write
  exact hcleared.whenever (raise_within ..)

theorem noteTest_within (p c kind : Nat) (passed : Bool) (s : State) : Within linkParts s (noteTest p c kind passed s) := by
  unfold noteTest
  extract_lets counts judged
  have h : Within linkParts s judged := .whenever (.refl s) (channelTested_within ..)
  refine h.trans (.of_idle (t := judged) (fun i => ?_) (.refl _))
  rw [i.2]

theorem noteLearn_within (p i : Nat) (ok : Bool) (s : State) : Within linkParts s (noteLearn p i ok s) :=
  .of_idle (fun h => by unfold noteLearn; rw [h.2]) (.refl s)

theorem nameSource_within (p k : Nat) (s : State) : Within linkParts s (nameSource p k s) :=
  .trans .write (noteUncleanSource_within ..)

theorem noteCrossShort_within (p own q partner : Nat) (s : State) : Within linkParts s (noteCrossShort p own q partner s) := by
  unfold noteCrossShort
  extract_lets named _ _ paired
  have h : Within linkParts s named := .trans (nameSource_within ..) (nameSource_within ..)
  have hpaired : Within linkParts s paired := by
    clear_value named
    exact h.trans .write
  exact hpaired.otherwise (raise_within ..)

theorem noteForeign_within (p k : Nat) (s : State) : Within linkParts s (noteForeign p k s) := by
  unfold noteForeign
  extract_lets seen
  have h : Within linkParts s seen := .trans (latchSource_within ..) (updRestarts_within ..)
  clear_value seen
  exact .ite h (h.trans .write)

theorem raiseDiag_within (p : Nat) (code arg : Half) (s : State) : Within linkParts s (raiseDiag p code arg s) := by
  unfold raiseDiag
  split
  · exact .step (.step .write (raise_within ..)) (raiseCause_within ..)
  · exact .step (.step (.refl s) (raise_within ..)) (raiseCause_within ..)
  · split
    · exact .whenever (.step (.refl s) (raise_within ..)) (raiseCause_within ..)
    · exact .refl s

theorem takeRefresh_within (l : Nat) (f : Frame) (s : State) : Within linkParts s (takeRefresh l f s) := updLink_within ..

theorem endOutputTest_within (l : Nat) (f : Frame) (s : State) : Within linkParts s (endOutputTest l f s) :=
  .of_idle (fun h => by unfold endOutputTest; rw [h.2]) (.refl s)

/-! ### Coding failures that a port reports (R92, R158) -/

/-- What an uplink frame may change in all: a coding failure it reports stops the engine and changes the device's state. -/
def deviceParts : Parts where
  put s t := { s with links := t.links, jr := t.jr, hb := t.hb, nv := t.nv, short := t.short, en := t.en, fresh := t.fresh,
                      ent := t.ent, sf := t.sf, cm := t.cm, db := t.db, dev := t.dev, aorf := t.aorf,
                      fu := { s.fu with revs := t.fu.revs, mismatch := t.fu.mismatch } }

/-- LOCKOUT stands where it was, and the always-on registers are as they were unless it has been entered. -/
def AorfTells (s t : State) : Prop :=
  (s.dev.dvState = .lockout → t.dev.dvState = .lockout) ∧ (t.dev.dvState ≠ .lockout → t.aorf = s.aorf)

theorem AorfTells.trans {s t u : State} (h : AorfTells s t) (k : AorfTells t u) : AorfTells s u :=
  ⟨fun hs => k.1 (h.1 hs), fun hu => (k.2 hu).trans (h.2 fun ht => hu (k.1 ht))⟩

theorem AorfTells.of_eq {s t : State} (hd : t.dev.dvState = s.dev.dvState) (ha : t.aorf = s.aorf) : AorfTells s t :=
  ⟨fun hs => hd.trans hs, fun _ => ha⟩

/-- The step of an uplink frame. -/
structure UplinkStep (s t : State) : Prop where
  parts : Within deviceParts s t
  aorf : Idle s → AorfTells s t

theorem UplinkStep.trans {s t u : State} (h : UplinkStep s t) (k : UplinkStep t u) : UplinkStep s u :=
  ⟨h.parts.trans k.parts, fun i => (h.aorf i).trans (k.aorf (h.parts.result i).1)⟩

/-- An uplink frame that reports no coding failure touches neither the device's state nor the always-on registers. -/
theorem Within.uplink {s t : State} (h : Within uplinkParts s t) : UplinkStep s t :=
  ⟨h.mono, fun i =>
    have e := (h.result i).2.2
    .of_eq ((congrArg (fun x => x.dev.dvState) e).trans rfl) ((congrArg State.aorf e).trans rfl)⟩

theorem Within.link {s t : State} (h : Within linkParts s t) : UplinkStep s t := h.mono.uplink

theorem UplinkStep.ite {c : Prop} [Decidable c] {s t u : State} (h : UplinkStep s t) (k : UplinkStep s u) :
    UplinkStep s (if c then t else u) := by
  split
  · exact h
  · exact k

theorem UplinkStep.refl (s : State) : UplinkStep s s := (Within.refl s : Within uplinkParts s s).uplink

theorem setState_dvState (new : DvState) (why : Nat) (s : State) : (setState new why s).dev.dvState = new := by
  unfold setState
  split
  · assumption
  · simp [withPins]

theorem enterLockout_dvState (why : Nat) (s : State) : (enterLockout why s).dev.dvState = .lockout := setState_dvState ..

theorem Within.aorf {s t : State} (h : Within runParts s t) (i : Idle s) : t.aorf = s.aorf :=
  (congrArg State.aorf (h.result i).2.2).trans rfl

theorem not_lockout_of_stateRunStop {s : State} (h : stateRunStop s = true) : s.dev.dvState ≠ .lockout := by
  intro hs
  simp [stateRunStop, hs] at h

theorem codingFailure_aorfTells {s : State} (i : Idle s) (code : Byte) (check : Word) (detail : Byte) (evCode : Half)
    (evArg : DWord) : AorfTells s (codingFailure code check detail evCode evArg s) := by
  unfold codingFailure
  extract_lets again _ checked entered failed halted
  split
  next hrun =>
    have hs := not_lockout_of_stateRunStop hrun
    split
    · exact ⟨fun h => absurd h hs, fun h => absurd (enterLockout_dvState _ failed) h⟩
    · have hentered : Within runParts s entered :=
        .trans (.step (.write : Within runParts s checked) (raise_within ..)) (faultEntry_within ..)
      exact ⟨fun h => absurd h hs, fun _ => (hentered.step (storeItem_within ..) : Within runParts s failed).aorf i⟩
  · split
    · have hhalted : Within events s halted := .trans (raise_within ..) (storeItem_within ..)
      have e := (hhalted.result i).2.2
      exact .of_eq ((congrArg (fun x => x.dev.dvState) e).trans rfl) ((congrArg State.aorf e).trans rfl)
    · exact .of_eq rfl rfl

theorem portReport_step (l : Nat) (s : State) : UplinkStep s (portReport l s) :=
  ⟨(codingFailure_within ..).mono, fun i => codingFailure_aorfTells i ..⟩

theorem takeSeqFault_step (l : Nat) (f : Frame) (s : State) : UplinkStep s (takeSeqFault l f s) := by
  exact .ite (portReport_step l s) (.refl s)

theorem takeEdges_within (l : Nat) (f : Frame) (rs : List Word) (s : State) :
    Within linkParts s (rs.foldl (fun s r => takeEdge l f r s) s) := .foldl _ (fun s r => takeEdge_within l f r s) rs s

theorem uplinkDelta_step (l : Fin 8) (framing : Bool) (f : Frame) (rt : Nat) (s : State) :
    UplinkStep s (uplinkDelta l framing f rt s) := by
  have h : Within linkParts s (takeCommon l f (noteDelay l rt s)) := .trans (noteDelay_within ..) (takeCommon_within ..)
  exact .ite (.refl s) (.ite (badUplink_within ..).link (.ite h.link
    ((h.link.trans (takeSeqFault_step ..)).trans (takeEdges_within ..).link)))

/-- The cases are the codes in the order in which `diagEffect` names them; only SCAN_SEQ_FAULT and CODE_STALE, the first two, report a
coding failure. -/
theorem diagEffect_step (p : Nat) (code arg : Half) (s : State) : UplinkStep s (diagEffect p code arg s) := by
  unfold diagEffect
  dsimp only
  split
  · exact (setChLatches_within ..).link.trans (portReport_step ..)
  · exact (setChLatch_within ..).link.trans (portReport_step ..)
  · exact ((setInLatch_within ..).trans (updRestarts_within ..)).link
  · exact ((setItem_within ..).mono.trans (noteLearn_within ..)).link
  · exact (noteLearn_within ..).link
  · exact (setInLatch_within ..).link
  · exact (noteForeign_within ..).link
  · exact (noteCrossShort_within ..).link
  · exact ((latchSource_within ..).trans (noteUncleanSource_within ..)).link
  · exact (noteTest_within ..).link
  · exact ((setChLatch_within ..).trans (noteTest_within ..)).link
  · exact ((setChLatch_within ..).trans (noteTest_within ..)).link
  · exact (setChLatch_within ..).link
  · exact (setChLatch_within ..).link
  · exact (setChLatch_within ..).link
  · exact (Within.ite (setChLatches_within ..) (.refl s)).link
  · exact (setChLatches_within ..).link
  · exact .refl s

theorem takeDiag_step (p : Nat) (code arg : Half) (s : State) : UplinkStep s (takeDiag p code arg s) := by
  unfold takeDiag
  split
  · exact .refl s
  · exact (Within.trans (updLink_within ..) (raiseDiag_within ..)).link.trans (diagEffect_step ..)

theorem uplinkRefresh_step (l : Fin 8) (framing : Bool) (f : Frame) (rt : Nat) (s : State) :
    UplinkStep s (uplinkRefresh l framing f rt s) := by
  have h : Within linkParts s (takeCommon l f (noteDelay l rt s)) := .trans (noteDelay_within ..) (takeCommon_within ..)
  have hshown : UplinkStep s (checkRate l (takeRefresh l f (takeSeqFault l f (takeCommon l f (noteDelay l rt s))))) :=
    (h.link.trans (takeSeqFault_step ..)).trans (Within.trans (takeRefresh_within ..) (checkRate_within ..)).link
  exact .ite (.refl s) (.ite (badUplink_within ..).link (.ite h.link
    ((hshown.trans (takeDiag_step ..)).trans (Within.trans (updLink_within ..) (endOutputTest_within ..)).link)))

end Sys2Proof.Machine
end

section
/-! PROOFS. The rows of the controller: each stays within its own parts (R35, R94, R147, R174, R229, R237, R351, R401). A row that
names a block's time is judged in every state, so its lemmas do without the idle one. -/

namespace Sys2Proof.Machine

/-! ### Rows that name a block's time (R174) -/

/-- Only block ix, the words, and what events reach have changed. -/
structure BlockStep (ix : Nat) (s t : State) : Prop where
  parts : t = { s with en := t.en, hb := t.hb, jr := t.jr, nv := t.nv }
  engine : t.en = { s.en with blocks := t.en.blocks, words := t.en.words }
  others : ∀ j, j ≠ ix → t.en.blocks[j]? = s.en.blocks[j]?

theorem StoreApart.blockStep {s t : State} (h : StoreApart s t) (ix : Nat) : BlockStep ix s t := by
  have hen : t.en = s.en := (congrArg State.en h).trans rfl
  refine ⟨?_, by rw [hen], fun _ _ => by rw [hen]⟩
  calc t = { s with nv := t.nv, jr := t.jr, hb := t.hb } := h
    _ = { s with en := t.en, hb := t.hb, jr := t.jr, nv := t.nv } := by rw [hen]

theorem BlockStep.trans {ix : Nat} {s t u : State} (h : BlockStep ix s t) (k : BlockStep ix t u) : BlockStep ix s u := by
  refine ⟨?_, by rw [k.engine, h.engine], fun j hj => (k.others j hj).trans (h.others j hj)⟩
  rw [k.parts, h.parts]

theorem StoreApart.foldl {α : Type} (g : State → α → State) (h : ∀ s a, StoreApart s (g s a)) (l : List α) (s : State) :
    StoreApart s (l.foldl g s) := by
  induction l generalizing s with
  | nil => exact .refl s
  | cons a r ih => exact (h s a).trans (ih _)

theorem reportBlk_apart (im : Image) (ix : Nat) (b : Block) (r : BlkRes) (s : State) : StoreApart s (reportBlk im ix b r s) := by
  have hcleared : StoreApart s
      (if r.brReset then clearBrake (2 * b.params.brakePort.val + b.params.brakeIx.val) s else s) := by
    split
    · exact setItem_eq _ s
    · exact .refl s
  have hstored (t : State) : StoreApart t (if b.type == .sbc && !r.evs.isEmpty then storedFirst t else t) := by
    split
    · unfold storedFirst
      split
      · exact writeParams_eq t
      · exact .refl t
    · exact .refl t
  exact (hcleared.trans (hstored _)).trans (.foldl _ (fun s _ => raise_eq _ _ _ _ s) _ _)

theorem evalOne_blockStep (im : Image) (ix : Nat) (b : Block) (ins modes : List Nat) (st : BlockSt) (s : State) :
    BlockStep ix s (evalOne im ix b ins modes st s) := by
  unfold evalOne
  extract_lets r _ kept
  have h : BlockStep ix s kept := ⟨rfl, rfl, fun j hj => List.getElem?_set_ne (Ne.symm hj)⟩
  exact h.trans ((reportBlk_apart im ix b r kept).blockStep ix)

/-- What a row that names a time of block ix does: a step of that block, and none where the block does not run. -/
def TimedStep (ix : Nat) (s t : State) : Prop := BlockStep ix s t ∧ (blockInRun ix s = none → t = s)

theorem TimedStep.refl (ix : Nat) (s : State) : TimedStep ix s s := ⟨(StoreApart.refl s).blockStep ix, fun _ => rfl⟩

theorem timeUp_timedStep (types : List BlockType) (f : Nat → BlockParams → BlockSt → BlockSt) (ix : Nat) (s : State) :
    TimedStep ix s (timeUp types f ix s) := by
  unfold timeUp
  split
  next hrun =>
    split
    · exact ⟨evalOne_blockStep .., fun h => nomatch hrun.symm.trans h⟩
    · exact .refl ix s
  · exact .refl ix s

theorem syncFail_timedStep (ix : Nat) (s : State) : TimedStep ix s (syncFail ix s) := by
  unfold syncFail
  split
  next hrun =>
    split
    · exact ⟨evalOne_blockStep .., fun h => nomatch hrun.symm.trans h⟩
    · exact .refl ix s
  · exact .refl ix s

theorem brakeHours_apart (ix : Nat) (s : State) : StoreApart s (brakeHours ix s) := by
  unfold brakeHours
  split
  · split
    · exact setItem_eq _ s
    · exact .refl s
  · exact .refl s

theorem brakeHours_of_not_running {ix : Nat} {s : State} (h : blockInRun ix s = none) : brakeHours ix s = s := by
  unfold brakeHours
  rw [h]

theorem brakeTestDue_timedStep (ix : Nat) (s : State) : TimedStep ix s (timeUp [.sbc] (fun _ _ st => st) ix (brakeHours ix s)) := by
  refine ⟨((brakeHours_apart ix s).blockStep ix).trans (timeUp_timedStep ..).1, fun h => ?_⟩
  rw [brakeHours_of_not_running h]
  exact (timeUp_timedStep ..).2 h

theorem blockRows_timedStep (s : State) (ix : Nat) :
    ∀ i ∈ [Instr.discrepancy ix, .lockNotReached ix, .rundownElapsed ix, .doorOpenWhileLocked ix, .twohandSyncFail ix,
      .contactAntivalence ix, .feedbackFault ix, .brakeTestEnd ix, .brakeTestDue ix, .restartStuck ix, .restartArmed ix,
      .tonElapsed ix, .tofElapsed ix, .pulseElapsed ix], Runs i s (TimedStep ix s) := by
  have timed (types : List BlockType) (f : Nat → BlockParams → BlockSt → BlockSt) :
      ∃ t, Host.Outcome.next (timeUp types f ix s) = (.next t : Out) ∧ TimedStep ix s t := ⟨_, rfl, timeUp_timedStep types f ix s⟩
  simp only [List.forall_mem_cons, List.not_mem_nil, IsEmpty.forall_iff, implies_true, and_true]
  exact ⟨timed _ _, timed _ _, timed _ _, timed _ _, ⟨_, rfl, syncFail_timedStep ix s⟩, timed _ _, timed _ _, timed _ _,
    ⟨_, rfl, brakeTestDue_timedStep ix s⟩, timed _ _, timed _ _, timed _ _, timed _ _, timed _ _⟩

/-! ### The other rows, while no command runs or waits -/

section
variable (s : State)

theorem timeRows_within (x : Bool) (held n : Nat) (frac : Fin 24) (f : IrigFrame) :
    ∀ i ∈ [Instr.ppsEdge x held n frac, .ppsFault, .sourceLost x, .irigFrame f frac, .holdoverExpired, .leapSecond],
      Runs i s (Within timeParts s) := by
  simp only [List.forall_mem_cons, List.not_mem_nil, IsEmpty.forall_iff, implies_true, and_true]
  exact ⟨⟨_, rfl, whileLive_within (.ite (ppsEdge_within ..) (.refl s))⟩, ⟨_, rfl, whileLive_within (ppsMissing_within s)⟩,
    ⟨_, rfl, whileLive_within (sourceLost_within x s)⟩, ⟨_, rfl, whileLive_within (irigFrame_within f frac s)⟩,
    ⟨_, rfl, whileLive_within (holdoverExpired_within s)⟩, ⟨_, rfl, whileLive_within (leapSecond_within s)⟩⟩

theorem stripRows_within (sensors : BitVec 3) :
    ∀ i ∈ [Instr.lineSlot, .lineRendered, .printerGated sensors, .printerReady, .motorDisable], Runs i s (Within stripParts s) := by
  simp only [List.forall_mem_cons, List.not_mem_nil, IsEmpty.forall_iff, implies_true, and_true]
  exact ⟨⟨_, rfl, lineSlot_within s⟩, ⟨_, rfl, lineRendered_within s⟩, ⟨_, rfl, printerGated_within sensors s⟩,
    ⟨_, rfl, printerReady_within s⟩, ⟨_, rfl, motorDisable_within s⟩⟩

theorem svaentRows_within (c : Fin 32) :
    ∀ i ∈ [Instr.sflProducerSend c, .sflTakeIn, .sflConnLost c], Runs i s (Within svaentParts s) := by
  simp only [List.forall_mem_cons, List.not_mem_nil, IsEmpty.forall_iff, implies_true, and_true]
  exact ⟨⟨_, rfl, producerSend_within c s⟩, ⟨_, rfl, takeInStopped_within s⟩, ⟨_, rfl, connWatchdog_within c s⟩⟩

theorem entropyRows_within (c : Fin 32) (raw : List Bool) :
    ∀ i ∈ [Instr.sflProducerStart c, .entropyWordReady raw, .entropyHealthFail raw, .entropyStartupTestDone raw],
      Runs i s (Within entropyParts s) := by
  simp only [List.forall_mem_cons, List.not_mem_nil, IsEmpty.forall_iff, implies_true, and_true]
  exact ⟨⟨_, rfl, producerStart_within c s⟩, ⟨_, rfl, whileLive_within (entropyBits_within raw s)⟩,
    ⟨_, rfl, whileLive_within (entropyBits_within raw s)⟩, ⟨_, rfl, whileLive_within (startupTestDone_within raw s)⟩⟩

theorem engineRows_within (b : Byte) (x : Bool) (w : Word) (e : ScanEnv) :
    ∀ i ∈ [Instr.temperatureMeasurement b, .reverificationComplete x w 0, .selectorFault, .modeRequestPins, .scan e],
      Runs i s (Within engineParts s) := by
  simp only [List.forall_mem_cons, List.not_mem_nil, IsEmpty.forall_iff, implies_true, and_true]
  exact ⟨⟨_, rfl, whileLive_within (measureTemp_within b s)⟩, ⟨_, rfl, (reverifyDone_within x w 0 s).settle⟩,
    ⟨_, rfl, selectorUp_within _ s⟩, ⟨_, rfl, selectorUp_within _ s⟩, ⟨_, rfl, (scan_within e s).settle⟩⟩

/-! ### Links but for one -/

/-- Every other link is as it was. -/
def OtherLinks (l : Fin 8) (s t : State) : Prop := ∀ m : Fin 8, m ≠ l → t.links[m.val] = s.links[m.val]

variable {s} {t u : State} {l : Fin 8}

theorem OtherLinks.trans (h : OtherLinks l s t) (k : OtherLinks l t u) : OtherLinks l s u :=
  fun m hm => (k m hm).trans (h m hm)

theorem OtherLinks.of_links (h : t.links = s.links) : OtherLinks l s t := fun _ _ => by rw [h]

theorem updLink_otherLinks (l : Fin 8) (f : Link → Link) (s : State) : OtherLinks l s (updLink l f s) :=
  fun m hm => getElem_updVec_ne s.links f m.isLt fun h => hm (Fin.ext h.symm)

theorem noteStartFail_otherLinks (l : Fin 8) (s : State) : OtherLinks l s (noteStartFail l s) := by
  unfold noteStartFail
  extract_lets k told
  refine .trans (.of_links ?_) (updLink_otherLinks l _ told)
  unfold told
  split
  · rfl
  · simp

theorem dropLink_otherLinks (i : Idle s) (l : Fin 8) : OtherLinks l s (dropLink l s) := by
  rw [dropLink_idle i]
  exact .trans (.of_links rfl) (updLink_otherLinks l _ _)

theorem linkLost_otherLinks (i : Idle s) (l : Fin 8) (cause : Nat) : OtherLinks l s (linkLost l cause s) := by
  unfold linkLost
  extract_lets k told
  have htold : Within linkParts s told := .step (.step (.refl s) (raise_within ..)) (raiseCause_within ..)
  have hfailed : Within linkParts s (if k.phase ≤ 5 then noteStartFail l told else told) := .whenever htold (noteStartFail_within ..)
  have hothers : OtherLinks l s (if k.phase ≤ 5 then noteStartFail l told else told) := by
    refine .trans (t := told) (.of_links (by simp [told])) ?_
    split
    · exact noteStartFail_otherLinks l told
    · exact .of_links rfl
  split
  · rw [abandonLearn_idle ((hfailed.trans (dropLink_within ..)).result i).1]
    exact hothers.trans (dropLink_otherLinks (hfailed.result i).1 l)
  · exact .of_links rfl

theorem linkStartFail_otherLinks (i : Idle s) (l : Fin 8) : OtherLinks l s (linkStartFail l s) := by
  unfold linkStartFail
  split
  · exact (noteStartFail_otherLinks l s).trans (dropLink_otherLinks ((noteStartFail_within ..).result i).1 l)
  · exact .of_links rfl

theorem disarmRestarts_links (p : Nat) (s : State) : (disarmRestarts p s).links = s.links := by
  unfold disarmRestarts updRestarts
  split
  · rfl
  · rfl

theorem linkStart_otherLinks (l : Fin 8) (s : State) : OtherLinks l s (linkStart l s) := by
  unfold linkStart
  dsimp only
  split
  · unfold startLink
    exact (updLink_otherLinks l _ s).trans (.of_links (disarmRestarts_links ..))
  · exact .of_links rfl

theorem OtherLinks.settle (h : OtherLinks l s t) (ht : Idle t) : OtherLinks l s (settle t) := by
  rw [settle_none t ht.1]
  exact h

theorem linkRows_within (i : Idle s) (l : Fin 8) (cause : Fin 4) :
    ∀ r ∈ [Instr.linkLost l cause, .linkStart l, .linkStartFail l], Runs r s (fun t => Within linkParts s t ∧ OtherLinks l s t) := by
  have hlost := linkLost_within l.val (cause.val + 1) s
  have hfail := linkStartFail_within l.val s
  simp only [List.forall_mem_cons, List.not_mem_nil, IsEmpty.forall_iff, implies_true, and_true]
  exact ⟨⟨_, rfl, hlost.settle, (linkLost_otherLinks i l _).settle (hlost.result i).1⟩,
    ⟨_, rfl, linkStart_within l s, linkStart_otherLinks l s⟩,
    ⟨_, rfl, hfail.settle, (linkStartFail_otherLinks i l).settle (hfail.result i).1⟩⟩

theorem UplinkStep.settle (h : UplinkStep s t) : UplinkStep s (settle t) := by
  refine ⟨h.parts.settle, fun i => ?_⟩
  rw [settle_none t (h.parts.result i).1.1]
  exact h.aorf i

theorem uplinkRows_step (l : Fin 8) (framing : Bool) (u : Frame) (rt : Nat) :
    ∀ r ∈ [Instr.uplinkIdent l framing u rt, .uplinkDelta l framing u rt, .uplinkRefresh l framing u rt],
      Runs r s (UplinkStep s) := by
  simp only [List.forall_mem_cons, List.not_mem_nil, IsEmpty.forall_iff, implies_true, and_true]
  exact ⟨⟨_, rfl, (uplinkIdent_within l framing u rt s).uplink.settle⟩, ⟨_, rfl, (uplinkDelta_step l framing u rt s).settle⟩,
    ⟨_, rfl, (uplinkRefresh_step l framing u rt s).settle⟩⟩

/-! ### The statement -/

/-- No row touches the ports, the fuse rows, the banks, the outcomes, the queue, the clock or the SRAM. -/
theorem Within.own {m : Parts} (h : Within m s t) (i : Idle s) :
    t.ports = s.ports ∧ t.fu.rows = s.fu.rows ∧ t.nv.bankA = s.nv.bankA ∧ t.nv.bankB = s.nv.bankB
      ∧ t.nv.outcomes = s.nv.outcomes ∧ t.pending = s.pending ∧ t.clock = s.clock ∧ t.sram = s.sram := by
  obtain ⟨-, ⟨-, hA, hB, hout⟩, -⟩ := h.result i
  obtain ⟨hports, hrows, hpending, hclock, hsram⟩ := h.core i
  exact ⟨hports, hrows, hA, hB, hout, hpending, hclock, hsram⟩

/-- What the parts leave out is as it was. -/
theorem Within.field {m : Parts} (h : Within m s t) (i : Idle s) {α : Type} (g : State → α)
    (hg : ∀ u, g (m.put s u) = g s := by exact fun _ => rfl) : g t = g s :=
  (congrArg g (h.result i).2.2).trans (hg t)

end

/-- Settles O48: each row stays within its parts, and these leave out what the statement says is unchanged; the rows that name a
block's time are steps of that block. -/
theorem rowFrames : Obligations.RowFrames := by
  refine ⟨fun s ix r hr => ?_, fun s held n frac f x c l p cause framing u rt b sensors e w raw hchains hrunning => ?_⟩
  · obtain ⟨t, ht, ⟨hparts, hengine, hothers⟩, hnone⟩ := blockRows_timedStep s ix r hr
    exact ⟨t, ht, hparts, hengine, hothers, hnone⟩
  have i : Idle s := ⟨hchains, hrunning⟩
  refine ⟨fun r hr => ?_, fun r hr => ?_, fun r hr => ?_, fun r hr => ?_, fun r hr => ?_, fun r hr => ?_, fun r hr => ?_⟩
  · obtain ⟨t, ht, h⟩ := timeRows_within s x held n frac f r hr
    have e := (h.result i).2.2
    have hdev := congrArg State.dev e
    exact ⟨t, ht, h.own i, by rw [hdev]; exact e, hdev⟩
  · obtain ⟨t, ht, h⟩ := stripRows_within s sensors r hr
    have e := (h.result i).2.2
    have hdev := congrArg State.dev e
    exact ⟨t, ht, h.own i, by rw [hdev]; exact e, hdev⟩
  · obtain ⟨t, ht, h⟩ := svaentRows_within s c r hr
    exact ⟨t, ht, h.own i, (h.result i).2.2⟩
  · obtain ⟨t, ht, h⟩ := entropyRows_within s c raw r hr
    exact ⟨t, ht, h.own i, h.field i State.tb, h.field i State.set, h.field i State.aorf, h.field i State.wp, h.field i State.dev⟩
  · obtain ⟨t, ht, h, hothers⟩ := linkRows_within i l cause r hr
    exact ⟨t, ht, h.own i, (h.result i).2.2, hothers⟩
  · obtain ⟨t, ht, h⟩ := uplinkRows_step l framing u rt r hr
    exact ⟨t, ht, h.parts.own i, h.parts.field i State.tb, h.parts.field i State.set, h.parts.field i State.wp, (h.aorf i).2⟩
  · obtain ⟨t, ht, h⟩ := engineRows_within s b x w e r hr
    exact ⟨t, ht, h.own i, h.field i State.tb, h.field i State.set, h.field i State.wp, h.field i State.fu, h.field i State.db⟩

end Sys2Proof.Machine
end

section
/-! PROOFS. What every step keeps (R67, R235, R237, R249): the check of the AORF, the canonical form of both banks, and the sizes of
the queues. One lemma for each operation, in the order of the model; few of them write what the invariant speaks of, and the others
hand it on. -/

namespace Sys2Proof.Machine

variable {s t : State}

/-! ### What an operation must leave for the invariant to go on -/

/-- The parts the invariant speaks of are as they were, but for the AORF, which carries its check. -/
theorem Inv.reseal (h : Inv s) (ha : t.aorf.crc = crc16 t.aorf.deviceBytes)
    (k : (t.nv.bankA, t.nv.bankB, t.jr.queue, t.sf.outq, t.sf.inq, t.ent.pool)
      = (s.nv.bankA, s.nv.bankB, s.jr.queue, s.sf.outq, s.sf.inq, s.ent.pool)) : Inv t := by
  obtain ⟨-, h⟩ := h
  simp only [Prod.mk.injEq] at k
  obtain ⟨hA, hB, hq, ho, hi, hp⟩ := k
  unfold QueuesFit at h
  rw [← hA, ← hB, ← hq, ← ho, ← hi, ← hp] at h
  exact ⟨ha, h⟩

/-- The parts the invariant speaks of are as they were. -/
theorem Inv.keep (h : Inv s) (k : (t.aorf, t.nv.bankA, t.nv.bankB, t.jr.queue, t.sf.outq, t.sf.inq, t.ent.pool)
      = (s.aorf, s.nv.bankA, s.nv.bankB, s.jr.queue, s.sf.outq, s.sf.inq, s.ent.pool)) : Inv t := by
  obtain ⟨ha, k⟩ := Prod.mk.inj k
  exact h.reseal (by rw [ha]; exact h.1) k

/-- Of what the invariant speaks of, an operation has written the store and the journal writer alone, within an event's bounds. -/
theorem Inv.of_event (h : Inv s) (e : StoreApart s t) (k : EventStore s t)
    (q : s.jr.queue.length ≤ 64 → t.jr.queue.length ≤ 64) : Inv t := by
  obtain ⟨haorf, hA, hB, hq, ho, hi, hp⟩ := h
  have hbanks := k.1
  rw [e, Inv, QueuesFit]
  rw [hbanks]
  exact ⟨haorf, hA, hB, q hq, ho, hi, hp⟩

theorem Inv.ite {c : Prop} [Decidable c] (h : Inv s) (k : Inv t) : Inv (if c then s else t) := by
  split
  · exact h
  · exact k

theorem Inv.foldl {α : Type} {g : State → α → State} {l : List α} (h : Inv s) (hg : ∀ {s} a, Inv s → Inv (g s a)) :
    Inv (l.foldl g s) := by
  induction l generalizing s with
  | nil => exact h
  | cons a r ih => exact ih (hg a h)

/-- The second of a pair carried through a fold. -/
theorem Inv.foldl_snd {α β : Type} {g : β × State → α → β × State} {l : List α} {p : β × State} (h : Inv p.2)
    (hg : ∀ {p} a, Inv p.2 → Inv (g p a).2) : Inv (l.foldl g p).2 := by
  induction l generalizing p with
  | nil => exact h
  | cons a r ih => exact ih (hg a h)

/-! ### Store, events and the journal writer (chapter 12) -/

theorem raiseCause_inv {bit : Nat} (h : Inv s) : Inv (raiseCause bit s) := .ite h (h.keep rfl)

theorem setItem_inv {f : Params → Params} (h : Inv s) : Inv (setItem f s) := h.keep rfl

theorem writeParams_inv (h : Inv s) : Inv (writeParams s) :=
  h.of_event (writeParams_eq s) (writeParams_store s) (writeParams_queue s)

theorem storeItem_inv {f : Params → Params} (h : Inv s) : Inv (storeItem f s) := writeParams_inv (setItem_inv h)

theorem storedFirst_inv (h : Inv s) : Inv (storedFirst s) := .ite (writeParams_inv h) h

theorem queueEvent_inv {time : DWord} {src : Nat} {code : Half} {c : Cls} {arg : DWord} (h : Inv s) :
    Inv (queueEvent time src code c arg s) :=
  h.of_event (queueEvent_eq ..) (queueEvent_store ..) (queueEvent_queue _ _ _ _ _ s)

theorem loseMacro_inv {b : Bool} {kind : Nat} {addr : Word} {spoilt : Option (Nat × Nat)} (h : Inv s) :
    Inv (loseMacro b kind addr spoilt s) :=
  .ite h (raiseCause_inv (queueEvent_inv (setItem_inv (h.keep rfl))))

theorem macroFail_inv {b : Bool} {kind : Nat} {addr : Word} {spoilt : Option (Nat × Nat)} (h : Inv s) :
    Inv (macroFail b kind addr spoilt s) := .ite h (writeParams_inv (loseMacro_inv h))

theorem writeOne_inv {b : Bool} {addr len : Nat} (h : Inv s) : Inv (writeOne b addr len s) :=
  h.of_event (writeOne_eq ..) (writeOne_store ..) (writeOne_queue _ _ _ s)

theorem mirror_inv {addr len : Nat} (h : Inv s) : Inv (mirror addr len s) := writeOne_inv (writeOne_inv h)

theorem setPending_inv {src : Nat} (h : Inv s) : Inv (setPending src s) := .ite h (raiseCause_inv (h.keep rfl))

theorem commitRecord_inv {r : Record} (h : Inv s) : Inv (commitRecord r s) :=
  h.of_event (commitRecord_apart r s) (commitRecord_store r s) (commitRecord_queue r s ▸ id)

theorem check75_inv (h : Inv s) : Inv (check75 s) := h.of_event (check75_apart s) (check75_store s) (check75_queue s)

theorem commitNext_inv (h : Inv s) : Inv (commitNext s) := by
  have hq := h.2.2.2.1
  unfold commitNext
  split
  · exact h
  · have hm : Inv (mirror (slotOffset (seqNext s.nv.head)) 32 s) := mirror_inv h
    have hdropped : Inv { mirror (slotOffset (seqNext s.nv.head)) 32 s with
        jr := { (mirror (slotOffset (seqNext s.nv.head)) 32 s).jr with
          queue := (mirror (slotOffset (seqNext s.nv.head)) 32 s).jr.queue.drop 1 } } := by
      obtain ⟨haorf, hA, hB, hqueue, hsf⟩ := hm
      exact ⟨haorf, hA, hB, by rw [List.length_drop]; omega, hsf⟩
    exact .ite h (.ite hm (check75_inv (.ite (setPending_inv (commitRecord_inv hdropped)) (commitRecord_inv hdropped))))

theorem commitGap_inv (h : Inv s) : Inv (commitGap s) := h.of_event (commitGap_eq s) (commitGap_store s) (commitGap_queue s)

theorem writeNext_inv (h : Inv s) : Inv (writeNext s) := .ite (commitGap_inv h) (commitNext_inv h)

theorem commitMany_inv {n : Nat} (h : Inv s) : Inv (commitMany n s) := by
  induction n generalizing s with
  | zero => exact h
  | succ n ih => exact ih (writeNext_inv h)

theorem raiseAt_inv {time : DWord} {src : Nat} {code : Half} {c : Cls} {arg : DWord} (h : Inv s) :
    Inv (raiseAt time src code c arg s) :=
  (commitGap_inv h).of_event (enqueue_eq ..) (enqueue_store ..) (enqueue_queue _ _ _ _ _ _)

theorem raise_inv {src : Nat} {code : Half} {c : Cls} {arg : DWord} (h : Inv s) : Inv (raise src code c arg s) := raiseAt_inv h

theorem flushJournal_inv (h : Inv s) : Inv (flushJournal s) := commitMany_inv h

/-! ### Replies, outcomes and faults (chapters 3, 9, 11 and 14) -/

theorem updLink_inv {l : Nat} {f : Link → Link} (h : Inv s) : Inv (updLink l f s) := h.keep rfl

theorem updPort_inv {p : Nat} {f : PortSt → PortSt} (h : Inv s) : Inv (updPort p f s) := h.keep rfl

theorem updProd_inv {n : Nat} {f : ProdSt → ProdSt} (h : Inv s) : Inv (updProd n f s) := h.keep rfl

theorem updCons_inv {n : Nat} {f : ConsSt → ConsSt} (h : Inv s) : Inv (updCons n f s) := h.keep rfl

theorem pushReply_inv {r : Reply} (h : Inv s) : Inv (pushReply r s) := raiseCause_inv (h.keep rfl)

theorem putOutcome_inv {o : OutcomeEntry} (h : Inv s) : Inv (putOutcome o s) := .ite (mirror_inv h) ((mirror_inv h).keep rfl)

theorem commitOutcome_inv {c : Chain} {status : Byte} {data : List Byte} (h : Inv s) : Inv (commitOutcome c status data s) := by
  have ho : Inv { putOutcome (outcomeFor c status (data.take 16)) s with
      cm := { (putOutcome (outcomeFor c status (data.take 16)) s).cm with running := none } } := (putOutcome_inv h).keep rfl
  exact .ite ho (pushReply_inv (.ite (raise_inv ho) ho))

theorem holdOutcome_inv {status : Byte} {data : List Byte} (h : Inv s) : Inv (holdOutcome status data s) := by
  unfold holdOutcome
  split
  · exact h
  · exact h
  · exact h.keep rfl

theorem finishRunning_inv {status : Byte} {data : List Byte} (h : Inv s) : Inv (finishRunning status data s) := by
  refine .ite (holdOutcome_inv h) ?_
  split
  · exact commitOutcome_inv h
  · exact h

theorem setState_inv {new : DvState} {why : Nat} (h : Inv s) : Inv (setState new why s) :=
  .ite h (raiseCause_inv (raise_inv (h.keep rfl)))

theorem rejectRemote_inv {n reason : Nat} {seq : BitVec 28} (h : Inv s) : Inv (rejectRemote n reason seq s) := by
  unfold rejectRemote
  split
  · exact raise_inv h
  · exact raise_inv (h.keep rfl)

/-- A frame joins the 64 of the queue or takes the place of the oldest (R235). -/
theorem placeFrame_inv {bytes : List Byte} (h : Inv s) : Inv (placeFrame bytes s) := by
  obtain ⟨haorf, hA, hB, hq, hout, hin, hpool⟩ := h
  unfold placeFrame
  split
  next hfits =>
    have hplaced : Inv { s with sf := { s.sf with outq := s.sf.outq ++ [bytes], outLoss := 0 } } :=
      ⟨haorf, hA, hB, hq, by simp; omega, hin, hpool⟩
    have hcause := Inv.ite (c := (s.sf.outq ++ [bytes]).length = 32) (raiseCause_inv (bit := 4) hplaced) hplaced
    exact .ite hcause (raise_inv hcause)
  next => exact ⟨haorf, hA, hB, hq, by simp; omega, hin, hpool⟩

theorem producerSend_inv {n : Nat} (h : Inv s) : Inv (producerSend n s) := by
  unfold producerSend
  split
  · exact placeFrame_inv (h.keep rfl)
  · exact h

theorem sendAllDue_inv (h : Inv s) : Inv (sendAllDue s) := h.foldl fun _ h => producerSend_inv h

theorem dropRestarts_inv {n : Nat} (h : Inv s) : Inv (dropRestarts n s) := by
  unfold dropRestarts
  refine Inv.foldl ?_ fun _ h => rejectRemote_inv h
  have hcleared : Inv (updCons n (fun c => { c with rrNow := none, rrNext := none, rrBad := [] }) s) := h.keep rfl
  dsimp only
  split <;> split
  · exact rejectRemote_inv (rejectRemote_inv hcleared)
  · exact rejectRemote_inv hcleared
  · exact rejectRemote_inv hcleared
  · exact hcleared

theorem endModeRequest_inv (h : Inv s) : Inv (endModeRequest s) := by
  unfold endModeRequest
  split
  · exact finishRunning_inv h
  · exact h

theorem noteDisagree_inv (h : Inv s) : Inv (noteDisagree s) := (h.foldl fun _ h => raise_inv h).keep rfl

theorem leaveRun_inv (h : Inv s) : Inv (leaveRun s) := by
  unfold leaveRun
  extract_lets dropped
  have hdropped : Inv dropped := (sendAllDue_inv h).foldl fun _ => dropRestarts_inv
  clear_value dropped
  exact hdropped.keep rfl

theorem stopEngine_inv (h : Inv s) : Inv (stopEngine s) := by
  unfold stopEngine
  extract_lets settled
  have hsettled : Inv settled := noteDisagree_inv (leaveRun_inv h)
  clear_value settled
  exact endModeRequest_inv (hsettled.keep rfl)

theorem faultEntry_inv {verify : Bool} {code detail : Byte} (h : Inv s) : Inv (faultEntry verify code detail s) := by
  unfold faultEntry
  extract_lets stopped
  have hstopped : Inv stopped := stopEngine_inv h
  clear_value stopped
  exact setState_inv (hstopped.keep rfl)

theorem enterFault_inv {code detail : Byte} (h : Inv s) : Inv (enterFault code detail s) := faultEntry_inv h

theorem Aorf.crc_update (a : Aorf) (c : Half) : ({ a with crc := c } : Aorf).crc = c := rfl

theorem Aorf.crc_seal (a : Aorf) : a.seal.crc = crc16 a.deviceBytes := a.crc_update (crc16 a.deviceBytes)

theorem Aorf.deviceBytes_update (a : Aorf) (c : Half) : ({ a with crc := c } : Aorf).deviceBytes = a.deviceBytes := rfl

theorem Aorf.deviceBytes_seal (a : Aorf) : a.seal.deviceBytes = a.deviceBytes := a.deviceBytes_update (crc16 a.deviceBytes)

theorem Aorf.seal_sealed (a : Aorf) : a.seal.crc = crc16 a.seal.deviceBytes := by rw [Aorf.crc_seal, Aorf.deviceBytes_seal]

theorem enterLockout_inv {why : Nat} (h : Inv s) : Inv (enterLockout why s) := setState_inv (h.reseal (Aorf.seal_sealed _) rfl)

theorem codingFailure_inv {code : Byte} {check : Word} {detail : Byte} {evCode : Half} {evArg : DWord} (h : Inv s) :
    Inv (codingFailure code check detail evCode evArg s) := by
  have hfault : Inv (storeItem (fun p => { p with failAge := some 0 }) (faultEntry (!inWindow s) code detail
      (raise 226 evCode .fault evArg { s with en := { s.en with check := check } }))) :=
    storeItem_inv (faultEntry_inv (raise_inv (h.keep rfl)))
  exact .ite (.ite (enterLockout_inv hfault) hfault)
    (.ite ((storeItem_inv (f := fun p => { p with failAge := some 0 }) (raise_inv h)).keep rfl) h)

theorem noteSettings_inv (h : Inv s) : Inv (noteSettings s) := h.reseal (Aorf.seal_sealed _) rfl

theorem tsyncGate_inv (h : Inv s) : Inv (tsyncGate s) := h.keep rfl

theorem tearRecord_inv {r : Record} (h : Inv s) : Inv (tearRecord r s) := .ite (h.keep rfl) (.ite (commitRecord_inv h) h)

theorem tearSlot_inv (h : Inv s) : Inv (tearSlot s) := .ite (h.keep rfl) h

theorem tearWrite_inv {k : Kind} {x : Tear} (h : Inv s) : Inv (tearWrite k x s) := by
  refine .ite h ?_
  split
  · exact tearRecord_inv h
  · exact tearSlot_inv h
  · exact .ite (h.keep rfl) h
  · exact .ite (h.keep rfl) h
  · exact h

theorem Aorf.atReset_sealed (k : Kind) (joined clears : Bool) (last : DvState) (a : Aorf) :
    (a.atReset k joined clears last).crc = crc16 (a.atReset k joined clears last).deviceBytes := by
  cases k <;> exact Aorf.seal_sealed _

/-- A reset empties the queues and writes the AORF with its check (R64, R67). -/
theorem assertReset_inv {k : Kind} {byNrst : Bool} {x : Tear} (h : Inv s) : Inv (assertReset k byNrst x s) := by
  have htorn := tearWrite_inv (k := k) (x := x) h
  have hempty : QueuesFit State.reset := ⟨Nat.zero_le _, Nat.zero_le _, Nat.zero_le _, Nat.zero_le _⟩
  unfold assertReset
  apply tsyncGate_inv
  exact ⟨Aorf.atReset_sealed .., htorn.2.1, htorn.2.2.1, hempty⟩

/-! ### Entropy (chapter 11) -/

theorem newChallenge_inv {w : DWord} (h : Inv s) : Inv (newChallenge w s) := h.keep rfl

theorem addDraw_inv {d : Draw} (h : Inv s) : Inv (addDraw d s) := h.keep rfl

theorem startProducer_inv {n : Fin 32} {cid : Word} (h : Inv s) : Inv (startProducer n cid s) :=
  .ite h (.ite (addDraw_inv h) (raise_inv (h.keep rfl)))

theorem deliver_inv {d : Draw} {w : DWord} (h : Inv s) : Inv (deliver d w s) := by
  cases d with
  | link l => exact .ite (addDraw_inv (h.keep rfl)) (h.keep rfl)
  | engineLoad => exact .ite (addDraw_inv h) (h.keep rfl)
  | engineFold l => exact .ite (addDraw_inv h) (h.keep rfl)
  | producer n => exact startProducer_inv h
  | challenge p => exact .ite (pushReply_inv h) (pushReply_inv (newChallenge_inv h))

/-- The pool with its first words given away. -/
theorem Inv.pool_tail {w : DWord} {pool : List DWord} {waiting : List Draw} (h : Inv s) (hp : s.ent.pool = w :: pool) :
    Inv { s with ent := { s.ent with pool := pool, waiting := waiting } } := by
  obtain ⟨haorf, hA, hB, hq, hout, hin, hpool⟩ := h
  rw [hp, List.length_cons] at hpool
  exact ⟨haorf, hA, hB, hq, hout, hin, by dsimp only; omega⟩

theorem serve_inv {n : Nat} (h : Inv s) : Inv (serve n s) := by
  induction n generalizing s with
  | zero => exact h
  | succ n ih =>
    unfold serve
    split
    next hp _ => exact ih (deliver_inv (h.pool_tail hp))
    next => exact h

theorem serveAll_inv (h : Inv s) : Inv (serveAll s) := serve_inv h

theorem failDraw_inv {d : Draw} (h : Inv s) : Inv (failDraw d s) := by
  cases d with
  | link l => exact h.keep rfl
  | engineLoad | engineFold => exact h.keep rfl
  | producer n => exact .ite (raise_inv (h.keep rfl)) (h.keep rfl)
  | challenge p => exact pushReply_inv (h.keep rfl)

theorem request_inv {d : Draw} (h : Inv s) : Inv (request d s) := by
  unfold request
  split
  · exact failDraw_inv h
  · exact failDraw_inv h
  · exact serveAll_inv (addDraw_inv h)

theorem requestLoad_inv (h : Inv s) : Inv (requestLoad s) := request_inv (h.keep rfl)

theorem requestProducer_inv {n : Fin 32} (h : Inv s) : Inv (requestProducer n s) := request_inv (h.keep rfl)

theorem producerStart_inv {n : Fin 32} (h : Inv s) : Inv (producerStart n s) := .ite (requestProducer_inv h) h

theorem drawAgain_inv (h : Inv s) : Inv (drawAgain s) :=
  ((Inv.ite (request_inv h) h).foldl fun _ h => .ite (request_inv h) h).foldl fun _ h => .ite (requestProducer_inv h) h

theorem healthFail_inv {test : Nat} (h : Inv s) : Inv (healthFail test s) := by
  obtain ⟨haorf, hA, hB, hq, hout, hin, -⟩ := h
  have hraised : Inv (raise 231 0x0901 .warning
      (argOf [(0, test), (1, (s.ent.failures + 1).toNat), (2, satNat 255 s.ent.waiting.length)])
      { s with ent := { s.ent with
          pool := [], waiting := [], failures := s.ent.failures + 1, lastRct := test == 1, lastApt := test == 2, block := [],
          state := if s.ent.failures + 1 = 3 then .locked else .unhealthy } }) :=
    raise_inv ⟨haorf, hA, hB, hq, hout, hin, Nat.zero_le _⟩
  exact (Inv.ite (raise_inv hraised) hraised).foldl fun _ h => failDraw_inv h

theorem finishRetest_inv {status : Byte} (h : Inv s) : Inv (finishRetest status s) := by
  unfold finishRetest
  split
  · exact finishRunning_inv h
  · exact h

/-- The health tests do not touch the pool. -/
theorem Entropy.testAll_pool (raw : List Bool) (e : Entropy) : (e.testAll raw).1.pool = e.pool := by
  induction raw generalizing e with
  | nil => rfl
  | cons b r ih =>
    unfold Entropy.testAll
    dsimp only
    split
    · exact ih _
    · rfl

/-- The source healthy after its start-up test. -/
theorem Inv.healthy {raw : List Bool} (h : Inv s) :
    Inv { s with ent := { (s.ent.afresh.testAll raw).1 with state := .healthy } } :=
  h.keep (by rw [Entropy.testAll_pool]; rfl)

theorem startupTestDone_inv {raw : List Bool} (h : Inv s) : Inv (startupTestDone raw s) := by
  unfold startupTestDone
  split
  · refine .ite ?_ (finishRetest_inv (healthFail_inv h))
    dsimp only
    split
    · exact finishRetest_inv (drawAgain_inv (raise_inv h.healthy))
    · exact finishRetest_inv (serveAll_inv (drawAgain_inv h.healthy))
  · exact h

/-- A word joins fewer than 16 (R237). -/
theorem entropyWord_inv {w : DWord} (h : Inv s) : Inv (entropyWord w s) := by
  unfold entropyWord
  split
  next hfits =>
    obtain ⟨haorf, hA, hB, hq, hout, hin, -⟩ := h
    exact serveAll_inv ⟨haorf, hA, hB, hq, hout, hin, by simp; omega⟩
  next => exact h

theorem entropyBlock_inv {raw : List Bool} (h : Inv s) : Inv (entropyBlock raw s) := .ite (h.keep rfl) (entropyWord_inv (h.keep rfl))

theorem entropyBits_inv {raw : List Bool} (h : Inv s) : Inv (entropyBits raw s) := by
  have htested : Inv { s with ent := (s.ent.testAll raw).1 } := h.keep (by rw [Entropy.testAll_pool])
  unfold entropyBits
  dsimp only
  split
  · exact .ite (entropyBlock_inv htested) (healthFail_inv htested)
  · exact .ite htested (finishRetest_inv (healthFail_inv htested))
  · exact h

theorem entropyRetest_inv (h : Inv s) : Inv (entropyRetest s).2 := by
  unfold entropyRetest
  split
  · exact h
  · exact h
  · exact h.keep rfl
  · exact h.keep rfl

end Sys2Proof.Machine
end

section
/-! PROOFS. The invariant under station time, Svaent frames, the store rows, the host bus, the strip and the registers. -/

namespace Sys2Proof.Machine

variable {s : State}

/-! ### Time base (chapter 2) -/

theorem applyLeap_inv (h : Inv s) : Inv (applyLeap s) := by
  unfold applyLeap
  exact raise_inv ((storeItem_inv h).keep rfl)

theorem setQuality_inv {q : Quality} (h : Inv s) : Inv (setQuality q s) := by
  unfold setQuality
  refine .ite h ?_
  extract_lets old toQuality told
  have htold : Inv told := tsyncGate_inv (raiseCause_inv (raise_inv (h.keep rfl)))
  exact .ite (applyLeap_inv htold) htold

theorem judgeLock_inv (h : Inv s) : Inv (judgeLock s) := .ite h (.ite (setQuality_inv h) (.ite (setQuality_inv h) h))

theorem stepCounter_inv {d : Int} (h : Inv s) : Inv (stepCounter d s) := .ite h (raise_inv (h.keep rfl))

theorem slew_inv (h : Inv s) : Inv (slew s) := h.keep rfl

theorem dropLock_inv (h : Inv s) : Inv (dropLock s) := (setQuality_inv (q := .unsync) h).keep rfl

theorem discipline_inv {irig acquired : Bool} {err : Int} (h : Inv s) : Inv (discipline irig acquired err s) :=
  .ite (.ite (dropLock_inv (h.keep rfl)) (slew_inv (h.keep rfl))) (.ite (stepCounter_inv (h.keep rfl)) (slew_inv (h.keep rfl)))

theorem crossCheck_inv {counts : Nat} (h : Inv s) : Inv (crossCheck counts s) := by
  unfold crossCheck
  extract_lets _ _ _ _ _ noted _ _ unsynced
  have hnoted : Inv noted := h.keep rfl
  have hunsynced : Inv unsynced := setQuality_inv (raise_inv (hnoted.keep rfl))
  exact .ite (hunsynced.keep rfl) (.ite (raise_inv (hnoted.keep rfl)) hnoted)

theorem noteCheck_inv (h : Inv s) : Inv (noteCheck s) := h.keep rfl

theorem applyTimeSet_inv {tai : DWord} {offset : Half} {flags : Byte} (h : Inv s) : Inv (applyTimeSet tai offset flags s) := by
  unfold applyTimeSet
  extract_lets _ stepped unsynced timed _ valid offsetSet
  have hstepped : Inv stepped := stepCounter_inv h
  have htimed : Inv timed := .ite hstepped ((setQuality_inv hstepped : Inv unsynced).keep rfl)
  have hvalid : Inv valid := htimed.keep rfl
  have hset : Inv offsetSet := setItem_inv hvalid
  exact .ite (hset.keep rfl) (.ite (hset.keep rfl) hset)

theorem pendingTimeSet_inv (h : Inv s) : Inv (pendingTimeSet s) := by
  unfold pendingTimeSet
  split
  · exact finishRunning_inv (writeParams_inv (applyTimeSet_inv h))
  · exact h

theorem ppsPoint_inv {counts frac : Nat} (h : Inv s) : Inv (ppsPoint counts frac s) := by
  unfold ppsPoint
  extract_lets _ valid checked _ set _ _ _ _ _ locked judged
  have hvalid : Inv valid := noteCheck_inv (h.keep rfl)
  have hset : Inv set := pendingTimeSet_inv (.ite (crossCheck_inv hvalid) hvalid)
  have hlocked : Inv locked := hset.keep rfl
  exact .ite hset (judgeLock_inv (.ite (discipline_inv hlocked) (hlocked.keep rfl)))

theorem ppsEdge_inv {counts frac : Nat} (h : Inv s) : Inv (ppsEdge counts frac s) :=
  .ite (h.keep rfl) (.ite (ppsPoint_inv h) (raise_inv (h.keep rfl)))

theorem ppsMissing_inv (h : Inv s) : Inv (ppsMissing s) := .ite (raise_inv (h.keep rfl)) h

theorem sourceLost_inv {irig : Bool} (h : Inv s) : Inv (sourceLost irig s) := by
  unfold sourceLost
  extract_lets _ irigLost _ ppsLost ended
  have hirig : Inv irigLost := raise_inv (h.keep rfl)
  have hpps : Inv ppsLost := raise_inv (h.keep rfl)
  have hended : Inv ended := .ite (finishRunning_inv hpps) hpps
  exact .ite (.ite (.ite (.ite (setQuality_inv hirig) (setQuality_inv hirig)) hirig) h)
    (.ite (.ite (setQuality_inv hended) hended) h)

theorem irigPoint_inv {utc : Int} {frac : Nat} (h : Inv s) : Inv (irigPoint utc frac s) :=
  .ite h (judgeLock_inv (discipline_inv (h.keep rfl)))

theorem irigFrame_inv {f : IrigFrame} {frac : Nat} (h : Inv s) : Inv (irigFrame f frac s) :=
  .ite (.ite (irigPoint_inv (h.keep rfl)) (h.keep rfl)) (h.keep rfl)

theorem holdoverExpired_inv (h : Inv s) : Inv (holdoverExpired s) := .ite (setQuality_inv (raise_inv h)) h

theorem leapSecond_inv (h : Inv s) : Inv (leapSecond s) := .ite (.ite (applyLeap_inv h) (h.keep rfl)) h

theorem selectSource_inv {src : BitVec 2} (h : Inv s) : Inv (selectSource src s) := by
  have hunsynced : Inv (setQuality .unsync { s with set := { s.set with src := src } }) := setQuality_inv (h.keep rfl)
  exact .ite h (noteCheck_inv (hunsynced.keep rfl))

theorem countMinutes_inv {n : Nat} (h : Inv s) : Inv (countMinutes n s) := h.keep rfl

theorem passTime_inv {n : Nat} (h : Inv s) : Inv (passTime n s) := .ite (h.keep rfl) (countMinutes_inv (h.keep rfl))

theorem tick_inv (h : Inv s) : Inv (tick s) := .ite (passTime_inv h) (.ite (h.keep rfl) h)

theorem tsyncRise_inv (h : Inv s) : Inv (tsyncRise s) := .ite (h.keep rfl) h

theorem tsyncFall_inv (h : Inv s) : Inv (tsyncFall s) := h.keep rfl

/-! ### Svaent frames (chapter 11) -/

/-- A frame joins a queue that is not full (R235). -/
theorem queueIn_inv {b : List Byte} (h : Inv s) (hfits : inFull s = false) : Inv (queueIn b s) := by
  have hroom : s.sf.inq.length < 64 := by simpa [inFull] using hfits
  obtain ⟨haorf, hA, hB, hq, hout, -, hpool⟩ := h
  have hqueued : Inv { s with sf := { s.sf with inq := s.sf.inq ++ [b], inLoss := 0 } } :=
    ⟨haorf, hA, hB, hq, hout, by simp; omega, hpool⟩
  exact .ite hqueued (raise_inv hqueued)

theorem loseIn_inv (h : Inv s) : Inv (loseIn s) := h.keep rfl

theorem judgeRR_inv {n : Nat} {f : SflFrame} (h : Inv s) : Inv (judgeRR n f s) := by
  refine .ite (rejectRemote_inv h) ?_
  split
  · exact rejectRemote_inv h
  · exact .ite (rejectRemote_inv h) (.ite (h.keep rfl) (.ite (h.keep rfl) (.ite (h.keep rfl) (rejectRemote_inv h))))

theorem connLost_inv {n reason : Nat} {was : ConsSt} (h : Inv s) : Inv (connLost n reason was s) := .ite (raise_inv (h.keep rfl)) h

theorem judgeSeq_inv {n : Nat} {f : SflFrame} {age : Word} (h : Inv s) : Inv (judgeSeq n f age s) := by
  unfold judgeSeq
  extract_lets c count adopted st accepted answered
  have hcount {t : State} (k : Inv t) : Inv (count t) := k.keep rfl
  have hadopted : Inv adopted := hcount (h.keep rfl)
  have haccepted : Inv accepted := hcount (h.keep rfl)
  have hanswered : Inv answered := .ite (connLost_inv haccepted) (.ite (raise_inv haccepted) haccepted)
  split
  · exact .ite (judgeRR_inv (connLost_inv (raise_inv hadopted))) (connLost_inv (raise_inv hadopted))
  · exact .ite (judgeRR_inv hanswered) hanswered
  · exact .ite (rejectRemote_inv (h.keep rfl)) (h.keep rfl)
  · exact h.keep rfl
  · exact h.keep rfl

theorem judgeFrame_inv {b : List Byte} (h : Inv s) : Inv (judgeFrame b s) := by
  refine .ite (h.keep rfl) ?_
  dsimp only
  split
  · exact h.keep rfl
  · exact .ite (h.keep rfl) (judgeSeq_inv h)

theorem expire_inv {n : Nat} (h : Inv s) : Inv (expire n s) := by
  unfold expire
  split
  · exact h
  · exact .ite (connLost_inv (h.keep rfl)) h

/-- The inbound queue given away whole. -/
theorem Inv.taken (h : Inv s) : Inv { s with sf := { s.sf with inq := [] } } := by
  obtain ⟨haorf, hA, hB, hq, hout, -, hpool⟩ := h
  exact ⟨haorf, hA, hB, hq, hout, Nat.zero_le _, hpool⟩

theorem takeIn_inv (h : Inv s) : Inv (takeIn s) := by
  unfold takeIn
  extract_lets frames _ emptied judged
  have hemptied : Inv emptied := h.taken
  have hjudged : Inv ((List.range 32).foldl (fun s n => expire n s) judged) :=
    (hemptied.foldl fun _ => judgeFrame_inv : Inv judged).foldl fun _ => expire_inv
  split
  · exact hjudged
  · exact hjudged
  · exact hjudged
  · exact hemptied

theorem connWatchdog_inv {n : Nat} (h : Inv s) : Inv (connWatchdog n s) := by
  have hjudged : Inv (s.sf.inq.foldl (fun s b => judgeFrame b s) { s with sf := { s.sf with inq := [] } }) :=
    h.taken.foldl fun _ => judgeFrame_inv
  have hlost {c : ConsSt} {p : Prop} [Decidable p] : Inv (if p then connLost n 1 c (updCons n
      (fun c => { c with state := .expired }) (s.sf.inq.foldl (fun s b => judgeFrame b s) { s with sf := { s.sf with inq := [] } }))
      else s.sf.inq.foldl (fun s b => judgeFrame b s) { s with sf := { s.sf with inq := [] } }) :=
    .ite (connLost_inv (updCons_inv hjudged)) hjudged
  unfold connWatchdog
  dsimp only
  split
  · exact hlost
  · exact hlost
  · exact hlost
  · exact h

theorem takeOut_inv {n : Nat} (h : Inv s) : Inv (takeOut n s).2 := by
  obtain ⟨haorf, hA, hB, hq, hout, hrest⟩ := h
  exact ⟨haorf, hA, hB, hq, by simp only [takeOut, List.length_drop]; omega, hrest⟩

/-! ### Store rows and recovery (chapter 12) -/

theorem readBack_inv {b : Bool} {n addr len : Nat} (h : Inv s) : Inv (readBack b n addr len s) :=
  .ite h (.ite (macroFail_inv (h.keep rfl)) (h.keep rfl))

theorem writeWith_inv {nvaFails nvbFails : Nat} {f : State → State} (h : Inv s) (hf : ∀ {s}, Inv s → Inv (f s)) :
    Inv (writeWith nvaFails nvbFails f s) := hf (readBack_inv (readBack_inv h))

theorem journalCommit_inv {nvaFails nvbFails : Nat} (h : Inv s) : Inv (journalCommit nvaFails nvbFails s) :=
  .ite (writeWith_inv h writeNext_inv) h

theorem journalGap_inv {nvaFails nvbFails : Nat} (h : Inv s) : Inv (journalGap nvaFails nvbFails s) :=
  .ite (writeWith_inv h commitGap_inv) h

theorem noteWear_inv {wear : List (Bool × Nat × Nat)} (h : Inv s) : Inv (noteWear wear s) := .ite h (h.keep rfl)

theorem parameterRecord_inv {n : Nat} (h : Inv s) : Inv (parameterRecord n s) :=
  .ite (.ite (writeParams_inv (readBack_inv h)) (readBack_inv h)) h

theorem check50_inv (h : Inv s) : Inv (check50 s) := .ite (raise_inv (h.keep rfl)) h

theorem journalAck_inv {a : Word} (h : Inv s) : Inv (journalAck a s).2 := by
  unfold journalAck
  split
  · exact h
  · split
    · exact h
    · split
      · exact h
      · exact check50_inv (storeItem_inv h)

theorem countRecovered_inv (h : Inv s) : Inv (countRecovered s) := h.keep rfl

theorem recoverRecord_inv {r : Record} (h : Inv s) : Inv (recoverRecord r s) := by
  unfold recoverRecord
  extract_lets written counted gapped
  have hcounted : Inv counted := countRecovered_inv (commitRecord_inv (writeOne_inv h))
  have hgapped : Inv gapped := .ite (storeItem_inv hcounted) hcounted
  exact .ite (.ite (setPending_inv hgapped) hgapped) h

theorem putRing_inv {c : Chain} {part : Nat} (h : Inv s) : Inv (putRing c part s) := h.keep rfl

theorem recoverEntry_inv {c : Chain} {part : Nat} (h : Inv s) : Inv (recoverEntry c part s) := by
  have hcounted : Inv (countRecovered (putRing c part (writeOne true (entryOffset s.nv.ringPos) 32 s))) :=
    countRecovered_inv (putRing_inv (writeOne_inv h))
  exact .ite (hcounted.keep rfl) hcounted

theorem recoverJournal_inv (h : Inv s) : Inv (recoverJournal s) := by
  have hcleared : Inv { s with nv := { s.nv with torn := none } } := h.keep rfl
  unfold recoverJournal
  dsimp only
  split
  · exact hcleared
  · exact recoverRecord_inv hcleared
  · exact recoverEntry_inv hcleared
  · exact countRecovered_inv (writeOne_inv hcleared)

theorem Inv.putOutcomes {o : Vector (Option OutcomeEntry) 64} (h : Inv s) : Inv { s with nv := { s.nv with outcomes := o } } :=
  h.keep rfl

theorem Inv.putChains {ring : List RingEntry} {chains : List Chain} (h : Inv s) :
    Inv { s with nv := { s.nv with ring := ring, chains := chains } } := h.keep rfl

theorem Inv.putRecords {records : List Record} {head : Word} (h : Inv s) :
    Inv { s with nv := { s.nv with records := records, head := head } } := h.keep rfl

theorem loseEntry_inv {off : Nat} (h : Inv s) : Inv (loseEntry off s) := by
  unfold loseEntry
  split
  · exact h.putOutcomes
  · split
    · exact h.putChains
    · exact h.putRecords

theorem recoverCopy_inv {usable : Bool → Bool} {bad : List (Bool × Nat)} {x : Bool × Nat} (h : Inv s) :
    Inv (recoverCopy usable bad s x) := .ite h (.ite (countRecovered_inv (writeOne_inv h)) (loseEntry_inv h))

theorem recoverCopies_inv {usable : Bool → Bool} {bad : List (Bool × Nat)} (h : Inv s) : Inv (recoverCopies usable bad s) :=
  h.foldl fun _ => recoverCopy_inv

theorem noteRecovered_inv (h : Inv s) : Inv (noteRecovered s) := .ite h (raise_inv h)

/-! ### Host bus (chapter 13) -/

theorem touchBus_inv (h : Inv s) : Inv (touchBus s) := .ite (raise_inv (h.keep rfl)) (h.keep rfl)

theorem refuseAccess_inv (h : Inv s) : Inv (refuseAccess s) := h.keep rfl

theorem putRead_inv {n : Nat} {bytes : List Byte} (h : Inv s) : Inv (putRead n bytes s) := h.keep rfl

theorem removeReply_inv {r : Reply} {rest : List Reply} (h : Inv s) : Inv (removeReply r rest s) := h.keep rfl

theorem readCmd_inv {clocked : Nat} (h : Inv s) : Inv (readCmd clocked s) := by
  refine .ite ?_ (refuseAccess_inv h)
  dsimp only
  split
  · exact putRead_inv (touchBus_inv h)
  · exact .ite (removeReply_inv (putRead_inv (touchBus_inv h))) (putRead_inv (touchBus_inv h))

theorem clearCauses_inv (h : Inv s) : Inv (clearCauses s) := h.keep rfl

theorem readStat_inv {clocked : Nat} (h : Inv s) : Inv (readStat clocked s) :=
  .ite (.ite (clearCauses_inv (putRead_inv (touchBus_inv h))) (putRead_inv (touchBus_inv h))) (refuseAccess_inv h)

theorem refuseFrame_inv (h : Inv s) : Inv (refuseFrame s) := h.keep rfl

theorem takeFrames_inv {n : Nat} {bytes : List Byte} (h : Inv s) : Inv (takeFrames n bytes s) := by
  induction n generalizing bytes s with
  | zero => exact .ite h (.ite (refuseFrame_inv h) (h.keep rfl))
  | succ n ih =>
    unfold takeFrames
    split
    · split
      next => exact refuseFrame_inv h
      next hfull => exact ih (queueIn_inv h (by simpa using hfull))
    · exact ih h

theorem writeSfl_inv {bytes : List Byte} (h : Inv s) : Inv (writeSfl bytes s) :=
  .ite (takeFrames_inv (touchBus_inv h)) (refuseAccess_inv h)

theorem readSfl_inv {clocked : Nat} (h : Inv s) : Inv (readSfl clocked s) :=
  .ite (takeOut_inv (putRead_inv (touchBus_inv h))) (refuseAccess_inv h)

theorem writeJrnl_inv {bytes : List Byte} (h : Inv s) : Inv (writeJrnl bytes s) :=
  .ite (.ite ((touchBus_inv h).keep rfl) (touchBus_inv h)) (refuseAccess_inv h)

theorem readJrnl_inv {clocked : Nat} (h : Inv s) : Inv (readJrnl clocked s) :=
  .ite ((touchBus_inv h).keep rfl) (refuseAccess_inv h)

theorem attentionPeriod_inv (h : Inv s) : Inv (attentionPeriod s) := .ite (h.keep rfl) h

theorem attentionTry_inv {r : BusResult} (h : Inv s) : Inv (attentionTry r s) := by
  cases r with
  | acked | nacked => exact h.keep rfl
  | lost n => exact .ite (h.keep rfl) (h.keep rfl)

theorem attentionWrite_inv {r : BusResult} (h : Inv s) : Inv (attentionWrite r s) := .ite (attentionTry_inv h) h

theorem attentionRetry_inv {r : BusResult} (h : Inv s) : Inv (attentionRetry r s) := .ite (attentionTry_inv h) h

theorem stretchTimeout_inv (h : Inv s) : Inv (stretchTimeout s) := .ite (h.keep rfl) h

theorem targetTimeout_inv (h : Inv s) : Inv (targetTimeout s) := .ite (raise_inv (h.keep rfl)) h

theorem lineHeldLow_inv (h : Inv s) : Inv (lineHeldLow s) := .ite (raise_inv (h.keep rfl)) h

theorem hostSilence_inv (h : Inv s) : Inv (hostSilence s) := .ite (raise_inv (h.keep rfl)) h

/-! ### Witness strip (chapter 17) -/

theorem beginLine_inv {k : LineKind} {due : Bool} (h : Inv s) : Inv (beginLine k due s) := h.keep rfl

theorem lineDone_inv {k : LineKind} (h : Inv s) : Inv (lineDone k s) := by
  cases k with
  | record | host | test => exact storeItem_inv h
  | resume | date => exact h.keep rfl
  | skip => exact raise_inv (storeItem_inv (h.keep rfl))
  | blankFeed =>
    unfold lineDone
    dsimp only
    split
    · exact .ite (storeItem_inv h) h
    · exact h

theorem endLine_inv (h : Inv s) : Inv (endLine s) := by
  unfold endLine
  split
  · exact h
  next k _ => exact .ite (h.keep rfl) ((lineDone_inv (k := k) h).keep rfl)

theorem noteLate_inv {k : LineKind} (h : Inv s) : Inv (noteLate k s) := raise_inv (h.keep rfl)

theorem noteStarted_inv {k : LineKind} (h : Inv s) : Inv (noteStarted k s) := .ite (storeItem_inv h) h

theorem dotLine_inv {k : LineKind} (h : Inv s) : Inv (dotLine k s) := by
  unfold dotLine
  extract_lets _ _ _ _ _ _ started _ _ fired ended
  have hstarted : Inv started := noteStarted_inv h
  have hfired : Inv fired := hstarted.keep rfl
  have hended : Inv ended := endLine_inv hfired
  refine .ite (h.keep rfl) (.ite hfired (.ite hended ?_))
  split
  · exact beginLine_inv hended
  · exact hended

theorem startMotor_inv (h : Inv s) : Inv (startMotor s) := h.keep rfl

theorem lineSlotOf_inv {k : LineKind} (h : Inv s) : Inv (lineSlotOf k s) :=
  .ite h (.ite h (.ite (startMotor_inv h) (.ite (h.keep rfl) (.ite (h.keep rfl) (.ite (dotLine_inv (noteLate_inv h)) (dotLine_inv h))))))

theorem stripOff_inv (h : Inv s) : Inv (stripOff s) := h.keep rfl

theorem lineSlot_inv (h : Inv s) : Inv (lineSlot s) := by
  have hquiet : Inv { s with wp := s.wp.quiet } := h.keep rfl
  refine .ite h (.ite (stripOff_inv hquiet) (.ite hquiet ?_))
  split
  · exact lineSlotOf_inv hquiet
  · refine .ite (hquiet.keep rfl) (.ite hquiet ?_)
    split
    · exact beginLine_inv hquiet
    · exact hquiet

theorem lineRendered_inv (h : Inv s) : Inv (lineRendered s) := by
  refine .ite h ?_
  split
  · exact .ite (h.keep rfl) (h.keep rfl)
  · exact h.keep rfl

theorem printerGated_inv {sensors : BitVec 3} (h : Inv s) : Inv (printerGated sensors s) :=
  .ite h (.ite (h.keep rfl) (.ite (h.keep rfl) (raise_inv (h.keep rfl))))

theorem endGating_inv (h : Inv s) : Inv (endGating s) := raise_inv (h.keep rfl)

theorem printerReady_inv (h : Inv s) : Inv (printerReady s) := .ite h (.ite (h.keep rfl) (endGating_inv (h.keep rfl)))

theorem printResume_inv (h : Inv s) : Inv (printResume s) := .ite (endGating_inv (h.keep rfl)) (h.keep rfl)

theorem printFeed_inv {csn : Word} {n : Nat} (h : Inv s) : Inv (printFeed csn n s) :=
  .ite h (.ite (storeItem_inv h) (storeItem_inv h))

theorem motorDisable_inv (h : Inv s) : Inv (motorDisable s) := h.keep rfl

/-! ### Host register file (chapter 15) -/

theorem readReg_inv {i : Nat} (h : Inv s) : Inv (readReg i s).2 := by
  unfold readReg
  dsimp only
  split
  · exact h.keep rfl
  · split
    · exact h.keep rfl
    · exact h

theorem readRegs_inv {step n i : Nat} (h : Inv s) : Inv (readRegs step n i s).2 := by
  induction n generalizing i s with
  | zero => exact h
  | succ n ih => exact ih (readReg_inv h)

/-- The host words lie outside the device area that the check covers (Table 3-6). -/
theorem Inv.putUser {k : Nat} {w : Word} (h : Inv s) :
    Inv { s with aorf := { s.aorf with user := s.aorf.user.setIfInBounds k w } } := h.reseal h.1 rfl

theorem putReg_inv {i : Nat} {w : Word} (h : Inv s) : Inv (putReg i w s) := by
  refine .ite h.putUser (.ite (h.keep rfl) ?_)
  split
  any_goals exact h.keep rfl

theorem clearReg_inv {i : Nat} {bits : Word} (h : Inv s) : Inv (clearReg i bits s) := .ite (h.keep rfl) (.ite (h.keep rfl) h)

theorem applyWrite_inv {e : RegWrite} (h : Inv s) : Inv (applyWrite e s) := clearReg_inv (.ite h (putReg_inv h))

theorem applyWrites_inv {l : List RegWrite} {t : State} (h : Inv s) (ht : applyWrites l s = some t) : Inv t := by
  induction l generalizing s with
  | nil => cases ht; exact h
  | cons e r ih =>
    unfold applyWrites at ht
    split at ht
    · exact ih (applyWrite_inv h) ht
    · cases ht

theorem writeRegs_inv {l : List RegWrite} (h : Inv s) : Inv (writeRegs l s).2.2 := by
  unfold writeRegs
  split
  next t ht => exact noteSettings_inv (applyWrites_inv h ht)
  next => exact h

end Sys2Proof.Machine
end

section
/-! PROOFS. The invariant under the engine, fuses and patches, the links, staging and the sequenced opcodes. -/

namespace Sys2Proof.Machine

variable {s : State}

/-! ### Logic engine (chapters 7 to 10) -/

theorem raiseBlk_inv {im : Image} {ix : Nat} {b : Block} {evs : List BlkEvent} (h : Inv s) : Inv (raiseBlk im ix b evs s) :=
  h.foldl fun _ => raise_inv

theorem takeModesel_inv {im : Image} {ix : Nat} {b : Block} {r : ModeRes} (h : Inv s) : Inv (takeModesel im ix b r s) :=
  raiseBlk_inv (h.keep rfl)

theorem answerMode_inv {r : ModeRes} (h : Inv s) : Inv (answerMode r s) := by
  unfold answerMode
  split
  · exact finishRunning_inv h
  · exact h

theorem applyModesel_inv {im : Image} {ix : Nat} {b : Block} {r : ModeRes} (h : Inv s) : Inv (applyModesel im ix b r s) :=
  answerMode_inv (takeModesel_inv h)

theorem takeRestart_inv {mode : Mode} {ix : Nat} {b : Block} (h : Inv s) : Inv (takeRestart mode ix b s) := by
  unfold takeRestart
  extract_lets _ _ _ _ cleared rejected
  have hcleared : Inv cleared := updCons_inv h
  have hrejected : Inv rejected := hcleared.foldl fun _ => rejectRemote_inv
  split
  · exact hrejected
  · exact .ite (raise_inv hrejected) (rejectRemote_inv hrejected)

theorem clearBrake_inv {i : Nat} (h : Inv s) : Inv (clearBrake i s) := setItem_inv h

theorem reportBlk_inv {im : Image} {ix : Nat} {b : Block} {r : BlkRes} (h : Inv s) : Inv (reportBlk im ix b r s) := by
  unfold reportBlk
  extract_lets cleared
  have hcleared : Inv cleared := .ite (clearBrake_inv h) h
  exact raiseBlk_inv (.ite (storedFirst_inv hcleared) hcleared)

theorem runBlock_inv {im : Image} {dOld d k : Word} {mode : Mode} {ix : Nat} {p : Work × State} (h : Inv p.2) :
    Inv (runBlock im dOld d k mode ix p).2 := by
  unfold runBlock
  split
  · exact h
  · split
    · exact h
    · extract_lets _ _ _ _ _ _ selected restarted
      have hselected : Inv selected := .ite (applyModesel_inv h) h
      exact reportBlk_inv (.ite (takeRestart_inv hselected) hselected : Inv restarted)

theorem clearFolds_inv (h : Inv s) : Inv (clearFolds s) := h.keep rfl

theorem scanFailure_inv {signal kind block : Nat} {k : Word} (h : Inv s) : Inv (scanFailure signal kind block k s) :=
  codingFailure_inv h

theorem noteRefused_inv {b : OutBind} {on : Bool} (h : Inv s) : Inv (noteRefused b on s) := .ite (raise_inv (h.keep rfl)) h

theorem putCode_inv {b : OutBind} {k : Word} {x : Sent} (h : Inv s) : Inv (putCode b k x s) := h.keep rfl

theorem publishBind_inv {im : Image} {d k : Word} {words : List Word} {old : Option (List Word)} {ix : Nat} {b : OutBind}
    (h : Inv s) : Inv (publishBind im d k words old ix b s) := by
  unfold publishBind
  extract_lets _ _ _ _ _ _ _ noted
  have hnoted : Inv noted := .ite (noteRefused_inv h) h
  exact putCode_inv (hnoted.keep rfl)

theorem handoverEvents_inv {before : List Nat} (h : Inv s) : Inv (handoverEvents before s) :=
  .ite ((noteDisagree_inv h).foldl fun _ => raise_inv) h

theorem publishAux_inv {im : Image} {d : Word} {words : List Word} (h : Inv s) : Inv (publishAux im d words s) := h.keep rfl

theorem publishSnap_inv {v : Snapshot} (h : Inv s) : Inv (publishSnap v s) := h.keep rfl

theorem markProducer_inv {im : Image} {d : Word} {words : List Word} {old : Option (List Word)} {rose : Bool} {b : Block}
    (h : Inv s) : Inv (markProducer im d words old rose b s) := by
  unfold markProducer
  dsimp only
  split
  · exact h
  · exact .ite h (.ite (updProd_inv h) (updProd_inv h))

theorem idleCodes_inv {k : Word} (h : Inv s) : Inv (idleCodes k s) := h.keep rfl

theorem publish_inv {im : Image} {d k : Word} {w : Work} {old : Option (List Word)} {execUs : Half} (h : Inv s) :
    Inv (publish im d k w old execUs s) := by
  unfold publish
  extract_lets _ idled bound handed auxed snapped marked
  have hbound : Inv bound := (idleCodes_inv h).foldl fun i h => by
    split
    · exact publishBind_inv h
    · exact h
  have hsnapped : Inv snapped := publishSnap_inv (publishAux_inv (handoverEvents_inv hbound))
  have hmarked : Inv marked := hsnapped.foldl fun i h => by
    split
    · exact .ite (markProducer_inv h) h
    · exact h
  exact hmarked.keep rfl

theorem scanStart_inv (h : Inv s) : Inv (scanStart s) := takeIn_inv (sendAllDue_inv (h.keep rfl))

theorem scanFold_inv {e : ScanEnv} {im : Image} {mode : Mode} (h : Inv s) : Inv (scanFold e im mode s).2 :=
  Inv.foldl_snd (clearFolds_inv h) fun _ => runBlock_inv

theorem scanEval_inv {e : ScanEnv} {im : Image} (h : Inv s) : Inv (scanEval e im s).2 := scanFold_inv h

theorem scanPublish_inv {e : ScanEnv} {im : Image} {w : Work} {after : State} (h : Inv after) :
    Inv (scanPublish e im s w after) := publish_inv (h.keep rfl)

theorem scanFailed_inv {f : Nat × Nat × Nat} {w : Work} {after : State} (h : Inv after) : Inv (scanFailed f s w after) :=
  scanFailure_inv (h.keep rfl)

theorem scanPhases_inv {e : ScanEnv} {im : Image} (h : Inv s) : Inv (scanPhases e im s) := by
  unfold scanPhases
  dsimp only
  split
  · exact scanFailed_inv (scanEval_inv h)
  · exact scanPublish_inv (scanEval_inv h)

theorem scanBody_inv {e : ScanEnv} {im : Image} (h : Inv s) : Inv (scanBody e im s) := scanPhases_inv (scanStart_inv h)

theorem haltedStop_inv (h : Inv s) : Inv (haltedStop s) := (noteDisagree_inv h).keep rfl

theorem scanOverrun_inv {e : ScanEnv} (h : Inv s) : Inv (scanOverrun e s) := codingFailure_inv h

theorem scan_inv {e : ScanEnv} (h : Inv s) : Inv (scan e s) := by
  refine .ite h ?_
  split
  · exact h
  · split
    · exact .ite (scanBody_inv h) (scanOverrun_inv h)
    · exact .ite (.ite (scanBody_inv (h.keep rfl)) (haltedStop_inv h)) h
    · exact h

theorem loadImage_inv {im : Option Image} (h : Inv s) : Inv (loadImage im s) := h.keep rfl

theorem startEngine_inv {im : Image} (h : Inv s) : Inv (startEngine im s) := h.keep rfl

theorem drawProducers_inv (h : Inv s) : Inv (drawProducers s) := h.foldl fun _ h => .ite (requestProducer_inv h) h

theorem enterRun_inv {why : Nat} (h : Inv s) : Inv (enterRun why s) := by
  unfold enterRun
  split
  · exact h
  · exact drawProducers_inv (setState_inv (startEngine_inv h))

theorem reverifyDone_inv {pass : Bool} {check : Word} {us : Half} (h : Inv s) : Inv (reverifyDone pass check us s) :=
  .ite (.ite (raise_inv (h.keep rfl)) (enterLockout_inv (raise_inv (h.keep rfl)))) h

theorem windowEnd_inv (h : Inv s) : Inv (windowEnd s) := by
  unfold windowEnd
  split
  · exact setItem_inv h
  · exact h

/-! ### Fuses and patches (chapter 16) -/

theorem fuseEvents_inv (h : Inv s) : Inv (fuseEvents s) := h.foldl fun {s} r h => by
  have hlow {c : Prop} [Decidable c] {arg : DWord} : Inv (if c then s else raise 237 0x0E01 .warning arg s) :=
    .ite h (raise_inv h)
  exact .ite (.ite (.ite hlow (raise_inv hlow)) (raise_inv (.ite hlow (raise_inv hlow)))) (.ite (raise_inv h) h)

theorem programSpare_inv {k r : Nat} {want : BitVec 128} (h : Inv s) : Inv (programSpare k r want s).2.2 := by
  unfold programSpare
  split
  · exact raise_inv h
  · exact raise_inv (raise_inv (h.keep rfl))

theorem blowRow_inv {redirect : Bool} {r : Nat} {want : BitVec 128} (h : Inv s) : Inv (blowRow redirect r want s).2.2 := by
  unfold blowRow
  split
  · exact h
  · split
    · exact programSpare_inv h
    · exact raise_inv (h.keep rfl)

theorem fuseProgram_inv {params : List Byte} (h : Inv s) : Inv (fuseProgram params s).2.2 := by
  unfold fuseProgram
  dsimp only
  split
  · exact h
  · split
    · exact h
    · exact h
    · exact blowRow_inv h
    · exact blowRow_inv h

theorem cutProgram_inv {n : Nat} {params : List Byte} (h : Inv s) : Inv (cutProgram n params s) := by
  unfold cutProgram
  dsimp only
  split
  · exact .ite (h.keep rfl) (h.keep rfl)
  · exact h.keep rfl
  · exact h

theorem patchBegin_inv {total : Nat} (h : Inv s) : Inv (patchBegin total s).2.2 := by
  unfold patchBegin
  split
  · exact h
  · split
    · exact h
    · exact h.keep rfl

theorem patchData_inv {offset : Nat} {bytes : List Byte} (h : Inv s) : Inv (patchData offset bytes s).2.2 := by
  unfold patchData
  split
  · exact h
  · exact h
  · split
    · exact h
    · exact h.keep rfl

theorem putPatch_inv {b : List Byte} (h : Inv s) : Inv (putPatch b s) := (mirror_inv h).keep rfl

theorem patchFinish_inv {total : Nat} (h : Inv s) : Inv (patchFinish total s).2.2 := by
  unfold patchFinish
  split
  · exact h
  · exact h
  · extract_lets b why _ put
    split
    · exact h
    · exact raise_inv (putPatch_inv (h.keep rfl) : Inv put)

theorem patchBoot_inv (h : Inv s) : Inv (patchBoot s) := by
  unfold patchBoot
  split
  · extract_lets put _ _ armed
    have hput : Inv put := .ite h (putPatch_inv h)
    exact raise_inv (hput.keep rfl)
  · exact .ite h (raise_inv h)

theorem noteMismatch_inv {code port : Nat} (h : Inv s) : Inv (noteMismatch code port s) := raise_inv (h.keep rfl)

theorem versionRegs_inv (h : Inv s) : Inv (versionRegs s) := by
  unfold versionRegs
  exact h.keep rfl

/-! ### Links, the controller's side (chapter 4) -/

theorem updRestarts_inv {which : Nat → Nat → Bool} {f : BlockSt → BlockSt} (h : Inv s) : Inv (updRestarts which f s) := by
  unfold updRestarts
  split
  · exact h
  · exact h.keep rfl

theorem noteRelease_inv {p i : Nat} {level : Bool} (h : Inv s) : Inv (noteRelease p i level s) := updRestarts_inv h

theorem noteUncleanInput_inv {p i : Nat} (h : Inv s) : Inv (noteUncleanInput p i s) := updRestarts_inv h

theorem noteUncleanSource_inv {p k : Nat} (h : Inv s) : Inv (noteUncleanSource p k s) := updRestarts_inv h

theorem disarmRestarts_inv {p : Nat} (h : Inv s) : Inv (disarmRestarts p s) := updRestarts_inv h

theorem channelTested_inv {p c : Nat} (h : Inv s) : Inv (channelTested p c s) := by
  unfold channelTested
  extract_lets _ _ _ stored shown _ cleared
  have hstored : Inv stored := .ite (storeItem_inv h) (setItem_inv h)
  have hcleared : Inv cleared := (updLink_inv hstored : Inv shown).keep rfl
  exact .ite (raise_inv hcleared) hcleared

theorem channelUntested_inv {p c : Nat} (h : Inv s) : Inv (channelUntested p c s) :=
  .ite h (raise_inv (updLink_inv (storedFirst_inv h)))

theorem channelRefused_inv {p c : Nat} (h : Inv s) : Inv (channelRefused p c s) := updLink_inv h

theorem judgeChannel_inv {p c : Nat} {isOpen : Bool} (h : Inv s) : Inv (judgeChannel p c isOpen s) := by
  unfold judgeChannel
  extract_lets _ untested
  have huntested : Inv untested := .ite (channelUntested_inv h) h
  exact .ite h (.ite (channelRefused_inv huntested) huntested)

theorem finishOutputTest_inv (h : Inv s) : Inv (finishOutputTest s) := by
  unfold finishOutputTest
  split
  · exact finishRunning_inv (updLink_inv h)
  · exact h

theorem dropLink_inv {l : Nat} (h : Inv s) : Inv (dropLink l s) := by
  unfold dropLink
  extract_lets _ withdrawn dropped
  have hdropped : Inv dropped := updLink_inv (h.keep rfl)
  split
  · exact .ite (finishOutputTest_inv hdropped) hdropped
  · exact hdropped

theorem checkLearn_inv (h : Inv s) : Inv (checkLearn s) := by
  unfold checkLearn
  split
  · refine .ite ?_ h
    exact (finishRunning_inv (writeParams_inv h)).foldl fun _ h => .ite (dropLink_inv h) h
  · exact h

theorem noteLearn_inv {p i : Nat} {ok : Bool} (h : Inv s) : Inv (noteLearn p i ok s) := by
  unfold noteLearn
  split
  · exact .ite (checkLearn_inv (h.keep rfl)) h
  · exact h

theorem abandonLearn_inv {p : Nat} (h : Inv s) : Inv (abandonLearn p s) := by
  unfold abandonLearn
  split
  · exact h.foldl fun _ h => .ite h (noteLearn_inv h)
  · exact h

theorem noteStartFail_inv {l : Nat} (h : Inv s) : Inv (noteStartFail l s) := updLink_inv (.ite h (raise_inv h))

theorem linkLost_inv {l cause : Nat} (h : Inv s) : Inv (linkLost l cause s) := by
  refine .ite (abandonLearn_inv (dropLink_inv ?_)) h
  exact .ite (noteStartFail_inv (raiseCause_inv (raise_inv h))) (raiseCause_inv (raise_inv h))

theorem linkStartFail_inv {l : Nat} (h : Inv s) : Inv (linkStartFail l s) := .ite (dropLink_inv (noteStartFail_inv h)) h

theorem startLink_inv {l : Nat} (h : Inv s) : Inv (startLink l s) := disarmRestarts_inv (updLink_inv h)

theorem linkStart_inv {l : Nat} (h : Inv s) : Inv (linkStart l s) := .ite (startLink_inv h) h

theorem checkRate_inv {l : Nat} (h : Inv s) : Inv (checkRate l s) := by
  unfold checkRate
  extract_lets _ _ _ _ _ noted up
  have hnoted : Inv noted := updLink_inv h
  have hup : Inv up := .ite (raise_inv hnoted) hnoted
  exact .ite (raise_inv hup) hup

theorem linkCycle_inv (h : Inv s) : Inv (linkCycle s) :=
  .ite h (h.foldl fun _ h => .ite h (checkRate_inv (updLink_inv h)))

theorem badUplink_inv {l : Nat} (h : Inv s) : Inv (badUplink l s) :=
  .ite (linkLost_inv (checkRate_inv (updLink_inv h))) (checkRate_inv (updLink_inv h))

theorem queuePhase_inv {l : Nat} (h : Inv s) : Inv (queuePhase l s) := updLink_inv (h.keep rfl)

theorem noteDelay_inv {l rt : Nat} (h : Inv s) : Inv (noteDelay l rt s) := .ite (queuePhase_inv (updLink_inv h)) (updLink_inv h)

theorem judgeEcho_inv {l : Nat} (h : Inv s) : Inv (judgeEcho l s) := .ite h (linkLost_inv h)

theorem takeCommon_inv {l : Nat} {f : Frame} (h : Inv s) : Inv (takeCommon l f s) :=
  judgeEcho_inv ((updLink_inv h).foldl fun _ h => .ite (judgeChannel_inv h) h)

theorem linkUp_inv {l : Nat} (h : Inv s) : Inv (linkUp l s) := by
  unfold linkUp
  extract_lets _ _ told _ up
  have hup : Inv up := updLink_inv (queuePhase_inv (raise_inv h : Inv told))
  exact .ite hup (hup.foldl fun _ => judgeChannel_inv)

theorem strapFault_inv {l : Nat} (h : Inv s) : Inv (strapFault l s) := .ite h (raise_inv (updLink_inv h))

theorem revFault_inv {l : Nat} (h : Inv s) : Inv (revFault l s) := by
  unfold revFault
  extract_lets told
  have htold : Inv told := raiseCause_inv (raise_inv (updLink_inv h))
  exact .ite h (.ite (noteMismatch_inv htold) htold)

theorem linkCheck_inv {l : Nat} (h : Inv s) : Inv (linkCheck l s) := by
  unfold linkCheck
  extract_lets _ _ _ checked
  have hchecked : Inv checked := revFault_inv (strapFault_inv (h.keep rfl))
  exact .ite hchecked (.ite (updLink_inv hchecked) (updLink_inv hchecked))

theorem confirm_inv {l : Nat} {ok : Bool} {done : State → State} (h : Inv s) (hdone : ∀ {s}, Inv s → Inv (done s)) :
    Inv (confirm l ok done s) := .ite (hdone (updLink_inv h)) (updLink_inv h)

theorem beginSeed_inv {l : Fin 8} (h : Inv s) : Inv (beginSeed l s) := request_inv (updLink_inv h)

theorem uplinkIdent_inv {l : Fin 8} {framing : Bool} {f : Frame} {rt : Nat} (h : Inv s) :
    Inv (uplinkIdent l framing f rt s) := by
  unfold uplinkIdent
  extract_lets k taken seen
  have htaken : Inv taken := takeCommon_inv (noteDelay_inv h)
  have hseen : Inv seen := updLink_inv htaken
  refine .ite h (.ite (badUplink_inv h) (.ite (linkLost_inv h) (.ite htaken ?_)))
  split
  · exact updLink_inv hseen
  · exact .ite (updLink_inv hseen) hseen
  · exact linkCheck_inv hseen
  · exact confirm_inv hseen beginSeed_inv
  · exact confirm_inv hseen linkUp_inv
  · exact hseen

theorem portReport_inv {l : Nat} (h : Inv s) : Inv (portReport l s) := codingFailure_inv h

theorem takeSeqFault_inv {l : Nat} {f : Frame} (h : Inv s) : Inv (takeSeqFault l f s) := .ite (portReport_inv h) h

theorem takeEdge_inv {l : Nat} {f : Frame} {r : Word} (h : Inv s) : Inv (takeEdge l f r s) :=
  .ite (raiseAt_inv h) (noteRelease_inv (raiseAt_inv h))

theorem uplinkDelta_inv {l : Fin 8} {framing : Bool} {f : Frame} {rt : Nat} (h : Inv s) : Inv (uplinkDelta l framing f rt s) := by
  have htaken : Inv (takeCommon l f (noteDelay l rt s)) := takeCommon_inv (noteDelay_inv h)
  exact .ite h (.ite (badUplink_inv h) (.ite htaken ((takeSeqFault_inv htaken).foldl fun _ => takeEdge_inv)))

theorem setChLatch_inv {p c bit : Nat} (h : Inv s) : Inv (setChLatch p c bit s) := updLink_inv h

theorem setChLatches_inv {p mask bit : Nat} (h : Inv s) : Inv (setChLatches p mask bit s) :=
  h.foldl fun _ h => .ite (setChLatch_inv h) h

theorem setInLatch_inv {p i : Nat} {on : Bool} (h : Inv s) : Inv (setInLatch p i on s) := updLink_inv h

theorem latchSource_inv {p k : Nat} (h : Inv s) : Inv (latchSource p k s) := h.foldl fun _ h => .ite (setInLatch_inv h) h

theorem noteTest_inv {p c kind : Nat} {passed : Bool} (h : Inv s) : Inv (noteTest p c kind passed s) := by
  unfold noteTest
  extract_lets _ tested shown
  have htested : Inv tested := .ite (channelTested_inv h) h
  have hshown : Inv shown := updLink_inv htested
  split
  · refine .ite ?_ htested
    extract_lets _ _ noted
    have hnoted : Inv noted := hshown.keep rfl
    exact .ite (finishOutputTest_inv hnoted) hnoted
  · exact htested

theorem nameSource_inv {p k : Nat} (h : Inv s) : Inv (nameSource p k s) := noteUncleanSource_inv (h.keep rfl)

theorem noteCrossShort_inv {p own q partner : Nat} (h : Inv s) : Inv (noteCrossShort p own q partner s) := by
  have hnamed : Inv (nameSource q partner (nameSource p own s)) := nameSource_inv (nameSource_inv h)
  exact .ite (hnamed.keep rfl) (raise_inv (hnamed.keep rfl))

theorem noteForeign_inv {p k : Nat} (h : Inv s) : Inv (noteForeign p k s) := by
  unfold noteForeign
  extract_lets unclean named
  have hunclean : Inv unclean := noteUncleanSource_inv (latchSource_inv h)
  clear_value unclean
  exact .ite hunclean (hunclean.keep rfl)

theorem diagEffect_inv {p : Nat} {code arg : Half} (h : Inv s) : Inv (diagEffect p code arg s) := by
  unfold diagEffect
  dsimp only
  split
  · exact portReport_inv (setChLatches_inv h)
  · exact portReport_inv (setChLatch_inv h)
  · exact noteUncleanInput_inv (setInLatch_inv h)
  · exact noteLearn_inv (setItem_inv h)
  · exact noteLearn_inv h
  · exact setInLatch_inv h
  · exact noteForeign_inv h
  · exact noteCrossShort_inv h
  · exact noteUncleanSource_inv (latchSource_inv h)
  · exact noteTest_inv h
  · exact noteTest_inv (setChLatch_inv h)
  · exact noteTest_inv (setChLatch_inv h)
  · exact setChLatch_inv h
  · exact setChLatch_inv h
  · exact setChLatch_inv h
  · exact .ite (setChLatches_inv h) h
  · exact setChLatches_inv h
  · exact h

theorem raiseDiag_inv {p : Nat} {code arg : Half} (h : Inv s) : Inv (raiseDiag p code arg s) := by
  unfold raiseDiag
  split
  · exact raiseCause_inv (raise_inv (h.keep rfl))
  · exact raiseCause_inv (raise_inv h)
  · split
    · exact .ite (raiseCause_inv (raise_inv h)) (raise_inv h)
    · exact h

theorem takeDiag_inv {p : Nat} {code arg : Half} (h : Inv s) : Inv (takeDiag p code arg s) :=
  .ite h (diagEffect_inv (raiseDiag_inv (updLink_inv h)))

theorem takeRefresh_inv {l : Nat} {f : Frame} (h : Inv s) : Inv (takeRefresh l f s) := updLink_inv h

theorem showLatched_inv {l : Nat} (h : Inv s) : Inv (showLatched l s) := updLink_inv h

theorem endOutputTest_inv {l : Nat} {f : Frame} (h : Inv s) : Inv (endOutputTest l f s) := by
  unfold endOutputTest
  split
  · exact .ite (finishOutputTest_inv h) h
  · exact h

theorem uplinkRefresh_inv {l : Fin 8} {framing : Bool} {f : Frame} {rt : Nat} (h : Inv s) :
    Inv (uplinkRefresh l framing f rt s) := by
  have htaken : Inv (takeCommon l f (noteDelay l rt s)) := takeCommon_inv (noteDelay_inv h)
  have hrated : Inv (checkRate l (takeRefresh l f (takeSeqFault l f (takeCommon l f (noteDelay l rt s))))) :=
    checkRate_inv (takeRefresh_inv (takeSeqFault_inv htaken))
  exact .ite h (.ite (badUplink_inv h) (.ite htaken (endOutputTest_inv (showLatched_inv (takeDiag_inv hrated)))))

theorem crossShortEnd_inv {p k q j : Nat} (h : Inv s) : Inv (crossShortEnd p k q j s) := h.keep rfl

theorem shortToSupply_inv {p k : Nat} (h : Inv s) : Inv (shortToSupply p k s) := by
  unfold shortToSupply
  split
  · exact h
  · exact .ite (noteUncleanSource_inv (h.keep rfl)) (raise_inv (noteUncleanSource_inv (h.keep rfl)))

/-! ### Staging and activation (chapter 15) -/

/-- A bank is written by a function that keeps the canonical form of its body, if at all (R304). -/
theorem putInactive_inv {off len : Nat} {f : Bank → Bank} (h : Inv s)
    (hf : ∀ b : Bank, Memory.wf b.body = true → Memory.wf (f b).body = true) : Inv (putInactive off len f s) := by
  unfold putInactive
  extract_lets written _ shown
  have hwritten : Inv written := writeOne_inv h
  have hshown : Inv shown := hwritten.keep rfl
  obtain ⟨haorf, hA, hB, hqueues⟩ := hshown
  exact .ite hwritten (.ite ⟨haorf, hf _ hA, hB, hqueues⟩ ⟨haorf, hA, hf _ hB, hqueues⟩)

theorem stageBegin_inv {length : Nat} (h : Inv s) : Inv (stageBegin length s).2.2 := by
  have hput : Inv (putInactive 0 64 (fun b => { b with state := .staging, length := length }) s) :=
    putInactive_inv h fun _ hb => hb
  unfold stageBegin
  split
  · exact h
  · split
    · exact h
    · dsimp only
      split <;> exact hput

theorem stageData_inv {offset : Nat} {bytes : List Byte} (h : Inv s) : Inv (stageData offset bytes s).2.2 := by
  have hput : Inv (putInactive (64 + offset) bytes.length
      (fun b => { b with body := Memory.writeBytes b.body offset bytes }) s) :=
    putInactive_inv h fun b => Memory.wf_writeBytes b.body offset bytes
  unfold stageData
  dsimp only
  split
  · exact h
  · split
    · exact h
    · split <;> exact hput

theorem discardStaged_inv (h : Inv s) : Inv (discardStaged s) := by
  have hput : Inv (putInactive 0 64 (fun b => { b with state := .empty }) s) := putInactive_inv h fun _ hb => hb
  exact .ite (hput.keep rfl) hput

theorem inactiveBank_wf (h : Inv s) : Memory.wf (inactiveBank s).body = true := by
  unfold inactiveBank
  split
  · exact h.2.1
  · exact h.2.2.1

theorem stageCommit_inv {crc : Word} (h : Inv s) : Inv (stageCommit crc s).2.2 := by
  unfold stageCommit
  extract_lets b done t
  have ht : Inv t := putInactive_inv h fun _ _ => inactiveBank_wf h
  split
  · exact h
  · split
    · exact h
    · split <;> exact h
  · split
    · exact h
    · split
      · exact h
      · split <;> exact ht

theorem activateBank_inv (h : Inv s) : Inv (activateBank s) := by
  unfold activateBank
  extract_lets b ix stored told
  have htold : Inv told := raise_inv (storeItem_inv h)
  exact htold.keep rfl

theorem restartLinks_inv (h : Inv s) : Inv (restartLinks s) := by
  unfold restartLinks
  extract_lets dropped
  have hdropped : Inv dropped := h.foldl fun _ => dropLink_inv
  exact hdropped.keep rfl

theorem afterActivate_inv {im : Image} (h : Inv s) : Inv (afterActivate im s) := by
  unfold afterActivate
  extract_lets loaded _ _ _ cleared
  have hloaded : Inv loaded := loadImage_inv (restartLinks_inv h)
  exact requestLoad_inv (versionRegs_inv ((hloaded.keep rfl) : Inv cleared))

end Sys2Proof.Machine
end

section
/-! PROOFS. The invariant under the opcodes, command packets, boot and the marionette port, and under every row. -/

namespace Sys2Proof.Machine

variable {s : State}

/-! ### Unsequenced opcodes (chapter 15) -/

theorem readHrf_inv {p : List Byte} (h : Inv s) : Inv (readHrf p s).2.2 := by
  unfold readHrf
  dsimp only
  split
  · exact h
  · exact readRegs_inv h

theorem hostSignals_inv {p : List Byte} (h : Inv s) : Inv (hostSignals p s).2.2 := by
  unfold hostSignals
  dsimp only
  split
  · exact h
  · exact h.keep rfl

theorem queueFrames_inv {l : List (List Byte)} (h : Inv s) : Inv (queueFrames l s).2 := by
  induction l generalizing s with
  | nil => exact h
  | cons b r ih =>
    unfold queueFrames
    split
    next => exact h.foldl fun _ => loseIn_inv
    next hfull => exact ih (queueIn_inv h (by simpa using hfull))

theorem sflFrameIn_inv {p : List Byte} (h : Inv s) : Inv (sflFrameIn p s).2.2 := by
  unfold sflFrameIn
  split
  · exact queueFrames_inv h
  · exact queueFrames_inv h
  · exact queueFrames_inv h
  · exact h

theorem sflFrameOut_inv {p : List Byte} (h : Inv s) : Inv (sflFrameOut p s).2.2 := by
  unfold sflFrameOut
  dsimp only
  split
  · exact h
  · exact takeOut_inv h

/-- The opcodes that only tell leave the state as it is. -/
theorem journalRead_st (p : List Byte) (s : State) : (journalRead p s).2.2 = s := by
  unfold journalRead; dsimp only; split <;> rfl

theorem commandOutcome_st (p : List Byte) (s : State) : (commandOutcome p s).2.2 = s := by
  unfold commandOutcome; split <;> rfl

theorem sflStatus_st (p : List Byte) (s : State) : (sflStatus p s).2.2 = s := by
  unfold sflStatus; dsimp only; split <;> rfl

theorem portStatus_st (p : List Byte) (s : State) : (portStatus p s).2.2 = s := by
  unfold portStatus; dsimp only; split <;> rfl

theorem portDiag_st (p : List Byte) (s : State) : (portDiag p s).2.2 = s := by
  unfold portDiag; dsimp only; split <;> rfl

theorem execPlain_inv {op : Byte} {p : List Byte} (h : Inv s) : Inv (execPlain op p s).2.2 := by
  unfold execPlain
  split
  case h_5 => exact readHrf_inv h
  case h_7 => exact hostSignals_inv h
  case h_8 => rw [journalRead_st]; exact h
  case h_10 => rw [commandOutcome_st]; exact h
  case h_12 => rw [sflStatus_st]; exact h
  case h_13 => exact sflFrameIn_inv h
  case h_14 => exact sflFrameOut_inv h
  case h_15 => rw [portStatus_st]; exact h
  case h_16 => rw [portDiag_st]; exact h
  all_goals exact h

/-! ### Sequenced opcodes (chapter 15) -/

theorem succeeds_inv {data : List Byte} (h : Inv s) : Inv (succeeds data s).st := h

theorem execActivateSeq_inv {p : List Byte} (h : Inv s) : Inv (execActivateSeq p s).st := by
  unfold execActivateSeq
  split
  · exact activateBank_inv h
  · exact h

theorem execRunSeq_inv (h : Inv s) : Inv (execRunSeq s).st := by
  unfold execRunSeq
  split
  · exact h
  · split
    · exact h
    · exact enterRun_inv h
  · exact h

theorem execStopSeq_inv (h : Inv s) : Inv (execStopSeq s).st := by
  unfold execStopSeq
  split
  · exact h
  · exact succeeds_inv (setState_inv (stopEngine_inv h))
  · exact h

theorem goesOn_inv {r : Running} (h : Inv s) : Inv (goesOn r s).st := h.keep rfl

theorem execModeSeq_inv {p : List Byte} (h : Inv s) : Inv (execModeSeq p s).st := by
  unfold execModeSeq
  dsimp only
  split
  · exact h
  · split
    · exact h
    · exact goesOn_inv h

theorem execFaultAckSeq_inv (h : Inv s) : Inv (execFaultAckSeq s).st := by
  unfold execFaultAckSeq
  split
  · exact setState_inv h
  · exact h

theorem execTimeSetSeq_inv {p : List Byte} (h : Inv s) : Inv (execTimeSetSeq p s).st := by
  unfold execTimeSetSeq
  dsimp only
  split
  · exact h
  · split
    · exact h
    · split
      · split
        · exact goesOn_inv h
        · exact h
      · exact writeParams_inv (applyTimeSet_inv h)

theorem execSourceSeq_inv {p : List Byte} (h : Inv s) : Inv (execSourceSeq p s).st := by
  unfold execSourceSeq
  dsimp only
  split
  · exact h
  · exact noteSettings_inv (selectSource_inv h)

theorem execJournalAckSeq_inv {p : List Byte} (h : Inv s) : Inv (execJournalAckSeq p s).st := by
  unfold execJournalAckSeq
  dsimp only
  split
  · exact journalAck_inv h
  · exact h

theorem queueWrite_inv {p : Nat} {a : Byte} {w : Half} (h : Inv s) : Inv (queueWrite p a w s) := updLink_inv h

theorem execOutputTestSeq_inv {p : List Byte} (h : Inv s) : Inv (execOutputTestSeq p s).st := by
  unfold execOutputTestSeq
  dsimp only
  split
  · exact h
  · split
    · split
      · exact h
      · split
        · exact h
        · exact goesOn_inv (queueWrite_inv (updLink_inv h))
    · exact h

theorem execLearnSeq_inv {p : List Byte} (h : Inv s) : Inv (execLearnSeq p s).st := by
  unfold execLearnSeq
  dsimp only
  split
  · exact h
  · split
    · exact h
    · split
      · exact h
      · exact goesOn_inv (h.foldl fun _ h => .ite (queueWrite_inv h) h)

theorem printTest_inv {csn : Word} (h : Inv s) : Inv (printTest csn s) := .ite h (storeItem_inv h)

theorem execPrintControlSeq_inv {csn : Word} {p : List Byte} (h : Inv s) : Inv (execPrintControlSeq csn p s).st := by
  unfold execPrintControlSeq
  dsimp only
  split
  · exact noteSettings_inv (h.keep rfl)
  · exact noteSettings_inv (printResume_inv h)
  · split
    · exact h
    · exact printFeed_inv h
  · exact printTest_inv h
  · exact h

theorem execPrintTextSeq_inv {csn : Word} {p : List Byte} (h : Inv s) : Inv (execPrintTextSeq csn p s).st := by
  unfold execPrintTextSeq
  split
  · exact h
  · split
    · exact h
    · split
      · exact h
      · exact storeItem_inv h

theorem execPatchSeq_inv {p : List Byte} (h : Inv s) : Inv (execPatchSeq p s).st := by
  unfold execPatchSeq
  dsimp only
  split
  · exact patchBegin_inv h
  · split
    · exact patchData_inv h
    · exact h
  · exact patchFinish_inv h
  · exact h

theorem execResetSeq_inv {p : List Byte} (h : Inv s) : Inv (execResetSeq p s).st := by
  unfold execResetSeq
  split <;> exact h

theorem execDormantSeq_inv (h : Inv s) : Inv (execDormantSeq s).st := by
  unfold execDormantSeq
  split
  · exact h
  · exact goesOn_inv (setState_inv (stopEngine_inv h))

theorem execRetestSeq_inv (h : Inv s) : Inv (execRetestSeq s).st := by
  have hretest := entropyRetest_inv h
  unfold execRetestSeq
  split
  next heq => rw [heq] at hretest; exact hretest
  next heq => rw [heq] at hretest; exact hretest

theorem execSeq_inv {op : Byte} {csn : Word} {p : List Byte} (h : Inv s) : Inv (execSeq op csn p s).st := by
  unfold execSeq
  split
  · exact writeRegs_inv h
  · exact stageBegin_inv h
  · exact stageData_inv h
  · exact stageCommit_inv h
  · exact execActivateSeq_inv h
  · exact discardStaged_inv h
  · exact execRunSeq_inv h
  · exact execStopSeq_inv h
  · exact execModeSeq_inv h
  · exact execFaultAckSeq_inv h
  · exact execJournalAckSeq_inv h
  · exact execTimeSetSeq_inv h
  · exact execSourceSeq_inv h
  · exact execRetestSeq_inv h
  · exact execOutputTestSeq_inv h
  · exact execLearnSeq_inv h
  · exact execPrintControlSeq_inv h
  · exact execPrintTextSeq_inv h
  · exact fuseProgram_inv h
  · exact execPatchSeq_inv h
  · exact execResetSeq_inv h
  · exact execDormantSeq_inv h
  · exact writeRegs_inv h
  · exact h

/-! ### Command packets (chapter 14) -/

theorem doAfter_inv {a : After} (h : Inv s) : Inv (doAfter a s) := by
  cases a with
  | nothing => exact h
  | reset k => exact assertReset_inv h
  | activate im => exact afterActivate_inv h

theorem execCommand_inv {op : Byte} {csn : Word} {p : List Byte} (h : Inv s) : Inv (execCommand op csn p s).st := by
  unfold execCommand
  split
  · exact execSeq_inv h
  · exact h

theorem concludeExec_inv {c : Chain} {r : ExecRes} (h : Inv r.st) : Inv (concludeExec c r) := by
  unfold concludeExec
  split
  · exact .ite (commitOutcome_inv h) (doAfter_inv (commitOutcome_inv h))
  · exact checkLearn_inv h

theorem runChain_inv {c : Chain} (h : Inv s) : Inv (runChain c s) := concludeExec_inv (execCommand_inv h)

theorem drain_inv {n : Nat} (h : Inv s) : Inv (drain n s) := by
  induction n generalizing s with
  | zero => exact h
  | succ n ih =>
    unfold drain
    split
    · split
      · exact ih (runChain_inv h)
      · exact h
    · exact h

theorem settle_inv (h : Inv s) : Inv (settle s) := .ite h (drain_inv h)

theorem outOfWindow_inv {p : Packet} (h : Inv s) : Inv (outOfWindow p s) := pushReply_inv (h.keep rfl)

theorem answerRepeat_inv {p : Packet} (h : Inv s) : Inv (answerRepeat p s) := by
  unfold answerRepeat
  split
  · exact .ite (pushReply_inv h) (outOfWindow_inv h)
  · exact .ite (pushReply_inv h) (.ite (pushReply_inv h) (outOfWindow_inv h))
  · exact outOfWindow_inv h

theorem writeEntry_inv {c : Chain} {part : Nat} (h : Inv s) : Inv (writeEntry c part s) :=
  .ite (mirror_inv h) (putRing_inv (mirror_inv h))

theorem writeChain_inv {c : Chain} (h : Inv s) : Inv (writeChain c s) := h.foldl fun _ => writeEntry_inv

theorem accept_inv {p : Packet} (h : Inv s) : Inv (accept p s) := by
  have hwritten : Inv (writeChain p.chain s) := writeChain_inv h
  exact .ite (pushReply_inv hwritten) (pushReply_inv (hwritten.keep rfl))

theorem judgeSequenced_inv {p : Packet} (h : Inv s) : Inv (judgeSequenced p s) :=
  .ite (pushReply_inv h) (.ite (answerRepeat_inv h) (.ite (settle_inv (accept_inv h)) (outOfWindow_inv h)))

theorem debugChallenge_inv {p : Packet} (h : Inv s) : Inv (debugChallenge p s) := .ite (pushReply_inv h) (request_inv h)

theorem runUnsequenced_inv {p : Packet} (h : Inv s) : Inv (runUnsequenced p s) :=
  .ite (pushReply_inv h) (.ite (debugChallenge_inv h) (pushReply_inv (execPlain_inv h)))

theorem judgeWhole_inv {p : Packet} {n : Nat} (h : Inv s) : Inv (judgeWhole p n s) := by
  unfold judgeWhole
  split
  · exact pushReply_inv h
  · exact .ite (pushReply_inv h) (.ite (pushReply_inv h) (.ite (judgeSequenced_inv h) (runUnsequenced_inv h)))

theorem takeTag_inv {p : Packet} (h : Inv s) : Inv (takeTag p s) := h.keep rfl

theorem badLength_inv {p : Packet} (h : Inv s) : Inv (badLength p s) := pushReply_inv (h.keep rfl)

theorem discardBusy_inv (h : Inv s) : Inv (discardBusy s) := h.keep rfl

theorem judge_inv {p : Packet} (h : Inv s) : Inv (judge p s) :=
  .ite (discardBusy_inv h) (.ite (badLength_inv (takeTag_inv h)) (judgeWhole_inv (takeTag_inv h)))

theorem badCrc_inv {p : Packet} (h : Inv s) : Inv (badCrc p s) := pushReply_inv (h.keep rfl)

theorem judgeRaw_inv {b : List Byte} (h : Inv s) : Inv (judgeRaw b s) :=
  .ite h (.ite (discardBusy_inv h)
    (.ite (badLength_inv (takeTag_inv h)) (.ite (badCrc_inv (takeTag_inv h)) (judgeWhole_inv (takeTag_inv h)))))

theorem tearAccept_inv {raw : List Byte} {whole : Nat} {nva : Bool} (h : Inv s) : Inv (tearAccept raw whole nva s) := by
  unfold tearAccept
  split
  · exact h
  · extract_lets c written ringed
    have hwritten : Inv written := h.foldl fun _ => writeEntry_inv
    refine .ite hwritten (.ite (hwritten.keep rfl) ?_)
    split
    · next part _ =>
      have hringed : Inv (putRing c part written) := putRing_inv hwritten
      exact .ite hwritten (.ite (hwritten.keep rfl) (.ite (hringed.keep rfl) hringed))
    · exact hwritten

theorem cutCommand_inv {cut : Cut} {c : Chain} (h : Inv s) : Inv (cutCommand cut c s) := by
  cases cut with
  | outcome =>
    have hdone : Inv (execCommand c.opcode c.csn c.params s).st := execCommand_inv h
    exact .ite hdone.putOutcomes hdone
  | fuse n => exact .ite (cutProgram_inv h) h

theorem cutAfter_inv {cut : Cut} {n : Nat} (h : Inv s) : Inv (cutAfter cut n s) := by
  induction n generalizing s with
  | zero =>
    unfold cutAfter
    split
    · exact cutCommand_inv h
    · exact h
  | succ n ih =>
    unfold cutAfter
    split
    · exact ih (runChain_inv h)
    · exact h

theorem tearCommand_inv {raw : List Byte} {ended : Nat} {cut : Cut} (h : Inv s) : Inv (tearCommand raw ended cut s) := by
  unfold tearCommand
  split
  · exact h
  · exact cutAfter_inv (accept_inv h)

theorem tearPacket_inv {x : Tear} (h : Inv s) : Inv (tearPacket x s) := by
  refine .ite ?_ h
  split
  · exact tearAccept_inv h
  · exact tearCommand_inv h
  · exact h

theorem receive_inv {raw : List Byte} {f : State → State} (h : Inv s) (hf : ∀ {s}, Inv s → Inv (f s)) :
    Inv (receive raw f s) :=
  .ite (refuseAccess_inv h) (.ite (.ite (refuseAccess_inv h) ((touchBus_inv h).keep rfl)) (hf (touchBus_inv h)))

theorem receivePacket_inv {p : Packet} (h : Inv s) : Inv (receivePacket p s) := receive_inv h judge_inv

theorem receiveRaw_inv {b : List Byte} (h : Inv s) : Inv (receiveRaw b s) := by
  have hreceived : Inv (receive (b.take 518) (judgeRaw (b.take 518)) s) := receive_inv h judgeRaw_inv
  exact .ite (hreceived.keep rfl) hreceived

theorem skipCsn_inv {c : Word} (h : Inv s) : Inv (skipCsn c s) := putOutcome_inv h

theorem timeOutChain_inv {c : Chain} {skipped : Nat} (h : Inv s) : Inv (timeOutChain c skipped s) := by
  have hput : Inv (putOutcome (closedEntry c stGapTimeout) s) := putOutcome_inv h
  exact .ite hput (pushReply_inv (raise_inv (hput.keep rfl)))

theorem closeGap_inv {n skipped : Nat} (h : Inv s) : Inv (closeGap n skipped s) := by
  induction n generalizing skipped s with
  | zero => exact h
  | succ n ih =>
    unfold closeGap
    split
    · exact h
    · split
      · exact ih (timeOutChain_inv h)
      · exact ih (skipCsn_inv h)

theorem gapTimeout_inv (h : Inv s) : Inv (gapTimeout s) := .ite (closeGap_inv h) h

theorem voidChain_inv {c : Chain} (h : Inv s) : Inv (voidChain c s) := by
  have hput : Inv (putOutcome (closedEntry c stVoided) s) := putOutcome_inv h
  exact .ite hput (raise_inv (hput.keep rfl))

theorem resumeExec_inv {c : Chain} (h : Inv s) : Inv (resumeExec c s).2.2 := by
  unfold resumeExec
  split
  · exact h.keep rfl
  · exact h
  · exact h
  · exact h
  · dsimp only
    split
    · exact execSeq_inv h
    · exact h

theorem resumeRetest_inv {raw : List Bool} (h : Inv s) : Inv (resumeRetest raw s).2.2 := by
  unfold resumeRetest
  split
  · extract_lets _ told
    have htold : Inv told := raise_inv h.healthy
    split
    · dsimp only
      exact drawAgain_inv htold
    · exact healthFail_inv h
  · exact h
  · exact h

theorem resumed_inv {raw : List Bool} {c : Chain} (h : Inv s) : Inv (resumed raw c s).2.2 := by
  unfold resumed
  split
  · exact h
  · split
    · exact resumeRetest_inv h
    · exact resumeExec_inv h

theorem resumeChain_inv {raw : List Bool} {c : Chain} (h : Inv s) : Inv (resumeChain raw c s) :=
  .ite (putOutcome_inv (resumed_inv h)) (raise_inv (putOutcome_inv (resumed_inv h)))

theorem resolveBoot_inv {raw : List Bool} {n : Nat} (h : Inv s) : Inv (resolveBoot raw n s) := by
  induction n generalizing s with
  | zero => exact h
  | succ n ih =>
    unfold resolveBoot
    split
    · exact h
    · split
      · exact ih (.ite (voidChain_inv h) (resumeChain_inv h))
      · exact ih (skipCsn_inv h)

theorem resolveAll_inv {raw : List Bool} (h : Inv s) : Inv (resolveAll raw s) := resolveBoot_inv h

/-! ### Rows of the engine's blocks (chapters 8 and 9) -/

theorem evalOne_inv {im : Image} {ix : Nat} {b : Block} {ins modes : List Nat} {st : BlockSt} (h : Inv s) :
    Inv (evalOne im ix b ins modes st s) := reportBlk_inv (h.keep rfl)

theorem timeUp_inv {types : List BlockType} {f : Nat → BlockParams → BlockSt → BlockSt} {ix : Nat} (h : Inv s) :
    Inv (timeUp types f ix s) := by
  unfold timeUp
  split
  · exact .ite (evalOne_inv h) h
  · exact h

theorem syncFail_inv {ix : Nat} (h : Inv s) : Inv (syncFail ix s) := by
  unfold syncFail
  split
  · exact .ite (evalOne_inv h) h
  · exact h

theorem brakeHours_inv {ix : Nat} (h : Inv s) : Inv (brakeHours ix s) := by
  unfold brakeHours
  split
  · exact .ite (setItem_inv h) h
  · exact h

theorem selectorUp_inv {f : Nat → ModeSt → ModeSt} (h : Inv s) : Inv (selectorUp f s) := by
  unfold selectorUp
  split
  · exact h
  · split
    · exact h
    · exact evalOne_inv (takeModesel_inv h)

theorem handoverEnd_inv (h : Inv s) : Inv (handoverEnd s) := .ite (h.keep rfl) h

theorem channelMinutes_inv {p c n : Nat} (h : Inv s) : Inv (channelMinutes p c n s) := setItem_inv h

theorem untestedAt_inv {p c : Nat} (h : Inv s) : Inv (untestedAt p c s) := .ite (channelUntested_inv (channelMinutes_inv h)) h

theorem refusedAt_inv {p c : Nat} (h : Inv s) : Inv (refusedAt p c s) := by
  have huntested : Inv (channelUntested p c (channelMinutes p c 86400 s)) := channelUntested_inv (channelMinutes_inv h)
  exact .ite (.ite huntested (channelRefused_inv huntested)) h

/-! ### Boot and DORMANT (chapter 3) -/

theorem bootSense_inv {addr : BitVec 2} (h : Inv s) : Inv (bootSense addr s) := h.keep rfl

theorem bootFirmware_inv {crcOk : Bool} (h : Inv s) : Inv (bootFirmware crcOk s) := by
  unfold bootFirmware
  extract_lets _ _ started loaded _
  have hloaded : Inv loaded := loadImage_inv (h.keep rfl)
  exact tsyncGate_inv (hloaded.keep rfl)

theorem noteClockReset_inv (h : Inv s) : Inv (noteClockReset s) := .ite (raise_inv h) h

theorem noteQuality_inv (h : Inv s) : Inv (noteQuality s) := by
  unfold noteQuality
  split
  · exact h
  · exact raiseCause_inv (raise_inv (h.keep rfl))

theorem monTest_inv {n : Nat} {ok : Bool} (h : Inv s) : Inv (monTest n ok s) := .ite h (raise_inv h)

theorem bootTests_inv {b : BootInputs} (h : Inv s) : Inv (bootTests b s) := by
  unfold bootTests
  extract_lets _ noted tested
  have htested : Inv tested := monTest_inv (monTest_inv (h.keep rfl))
  split
  · exact htested
  · exact raise_inv htested

theorem bootEntropy_inv {raw : List Bool} (h : Inv s) : Inv (bootEntropy raw s) := by
  unfold bootEntropy
  split
  · exact .ite h.healthy (healthFail_inv h)
  · exact h

theorem bootMacros_inv {b : BootInputs} (h : Inv s) : Inv (bootMacros b s) :=
  .ite (.ite h (macroFail_inv h)) (macroFail_inv (.ite h (macroFail_inv h)))

theorem bootAorf_inv {noise : Half} (h : Inv s) : Inv (bootAorf noise s) := .ite h (raise_inv (h.reseal (Aorf.seal_sealed _) rfl))

theorem bootJournal_inv {b : BootInputs} (h : Inv s) : Inv (bootJournal b s) :=
  .ite (recoverJournal_inv (recoverCopies_inv h)) ((recoverCopies_inv h).keep rfl)

theorem bootStore_inv {b : BootInputs} (h : Inv s) : Inv (bootStore b s) := by
  unfold bootStore
  extract_lets flushed resolved latched _
  have hflushed : Inv flushed := flushJournal_inv (noteRecovered_inv (bootMacros_inv h))
  have hlatched : Inv latched := bootAorf_inv (.ite hflushed (resolveAll_inv hflushed))
  exact hlatched.reseal (Aorf.seal_sealed _) rfl

theorem noImage_inv (h : Inv s) : Inv (noImage s) := h.keep rfl

theorem noteVersions_inv {code : Nat} (h : Inv s) : Inv (noteVersions code s) := .ite h (noteMismatch_inv h)

theorem bootLink_inv {seen : Option IdentSeen} {l : Nat} (h : Inv s) : Inv (bootLink seen l s) := by
  unfold bootLink
  dsimp only
  split
  · exact startLink_inv h
  · exact linkCheck_inv (updLink_inv (startLink_inv h))

theorem bootLinks_inv {idents : List (Option IdentSeen)} (h : Inv s) : Inv (bootLinks idents s) := by
  have hclocked : Inv { s with short := { s.short with frameClock := s.clock } } := h.keep rfl
  exact (requestLoad_inv hclocked).foldl fun _ h => .ite (bootLink_inv h) h

theorem holdLinks_inv (h : Inv s) : Inv (holdLinks s) := h.keep rfl

theorem endBoot_inv {us : BitVec 24} {st : DvState} (h : Inv s) : Inv (endBoot us st s) := by
  unfold endBoot
  extract_lets flushed c told _ ended
  have htold : Inv told := raise_inv (flushJournal_inv (passTime_inv h))
  clear_value told
  exact raiseCause_inv (flushJournal_inv (htold.keep rfl : Inv ended))

theorem endInFault_inv {us : BitVec 24} {code detail : Byte} (h : Inv s) : Inv (endInFault us code detail s) :=
  endBoot_inv (h.keep rfl)

theorem endInRun_inv {us : BitVec 24} {im : Image} (h : Inv s) : Inv (endInRun us im s) :=
  drawProducers_inv (endBoot_inv (startEngine_inv h))

theorem bootVerify_inv {b : BootInputs} {im : Image} (h : Inv s) : Inv (bootVerify b im s) := by
  have hregs : Inv { versionRegs s with fu := { (versionRegs s).fu with mismatch := 0xFF00 } } :=
    (versionRegs_inv h).keep rfl
  unfold bootVerify
  extract_lets code _ _ noted linked
  have hnoted : Inv noted := noteVersions_inv hregs
  have hlinked : Inv linked := bootLinks_inv hnoted
  exact .ite (endBoot_inv (holdLinks_inv hlinked)) (.ite (endInRun_inv hlinked) (endBoot_inv hlinked))

theorem bootBare_inv {b : BootInputs} (h : Inv s) : Inv (bootBare b s) := endBoot_inv (bootLinks_inv (noImage_inv h))

theorem serviceBoot_inv {b : BootInputs} (h : Inv s) : Inv (serviceBoot b s) := bootBare_inv (raise_inv h)

theorem bootVerdict_inv {b : BootInputs} (h : Inv s) : Inv (bootVerdict b s) := by
  refine .ite (endBoot_inv h) ?_
  split
  · exact endInFault_inv h
  · refine .ite (endInFault_inv h) ?_
    split
    · exact bootBare_inv h
    · exact bootVerify_inv h

theorem bootToStore_inv {b : BootInputs} {image : Bool} (h : Inv s) : Inv (bootToStore b image s) := by
  unfold bootToStore
  extract_lets started _ woken recovered told tested
  have hwoken : Inv woken := (bootFirmware_inv h : Inv started).keep rfl
  have htold : Inv told := fuseEvents_inv (noteQuality_inv (noteClockReset_inv (bootJournal_inv hwoken)))
  exact bootStore_inv (patchBoot_inv (bootEntropy_inv (bootTests_inv htold)))

theorem bootOn_inv {b : BootInputs} (h : Inv s) : Inv (bootOn b s) :=
  .ite (serviceBoot_inv (bootToStore_inv h)) (bootVerdict_inv (bootToStore_inv h))

theorem boot_inv {b : BootInputs} (h : Inv s) : Inv (boot b s) := by
  have hsensed : Inv (bootSense b.addr s) := bootSense_inv h
  refine .ite h (.ite (hsensed.keep rfl) ?_)
  split
  · exact hsensed.keep rfl
  · exact bootOn_inv hsensed

theorem faultNBlink_inv (h : Inv s) : Inv (faultNBlink s) := by
  unfold faultNBlink
  split
  · exact h.keep rfl
  · exact h

theorem pinReset_inv (h : Inv s) : Inv (pinReset s) := .ite (assertReset_inv h) (assertReset_inv h)

theorem watchdogReset_inv (h : Inv s) : Inv (watchdogReset s) := .ite h (assertReset_inv h)

theorem clockTrip_inv {why : BitVec 3} {x : Tear} (h : Inv s) : Inv (clockTrip why x s) :=
  .ite h (assertReset_inv ((tearPacket_inv h).keep rfl))

theorem clockRelease_inv (h : Inv s) : Inv (clockRelease s) := .ite (h.keep rfl) h

theorem wake_inv {byNrst : Bool} (h : Inv s) : Inv (wake byNrst s) := .ite (assertReset_inv h) h

theorem dormantOutcome_inv {c : Chain} (h : Inv s) : Inv (dormantOutcome c s) := by
  unfold dormantOutcome
  exact putOutcome_inv (flushJournal_inv (raise_inv h))

theorem dormantEntered_inv (h : Inv s) : Inv (dormantEntered s) := by
  unfold dormantEntered
  split
  · extract_lets dropped done
    have hdropped : Inv dropped := h.foldl fun _ => dropLink_inv
    have hdone : Inv done := dormantOutcome_inv (writeParams_inv hdropped)
    clear_value done
    exact .ite h (hdone.reseal (Aorf.seal_sealed _) rfl)
  · exact h

/-! ### Die temperature, SRAM, and rows that act while firmware runs -/

theorem tempEvent_inv {code : Half} {c : Cls} {temp : Byte} (h : Inv s) : Inv (tempEvent code c temp s) := raise_inv h

theorem overTempTrip_inv {temp : Byte} (h : Inv s) : Inv (overTempTrip temp s) := by
  have htold := tempEvent_inv (code := 0x1102) (c := .fault) (temp := temp)
    ((h.keep rfl) : Inv { s with dev := { s.dev with overTemp := true, tempHigh := true } })
  exact .ite (enterFault_inv htold) htold

theorem measureTemp_inv {temp : Byte} (h : Inv s) : Inv (measureTemp temp s) := by
  unfold measureTemp
  extract_lets _ measured _ warned
  have hmeasured : Inv measured := h.keep rfl
  have hwarned : Inv warned := .ite (tempEvent_inv (hmeasured.keep rfl)) hmeasured
  exact .ite (overTempTrip_inv hwarned) (.ite (tempEvent_inv (hwarned.keep rfl)) hwarned)

theorem sramEcc_inv {addr : Word} (h : Inv s) : Inv (sramEcc addr s) := .ite (settle_inv (enterFault_inv h)) h

theorem whileLive_inv {f : State → State} (h : Inv s) (hf : Inv s → Inv (f s)) : Inv (whileLive f s) :=
  .ite (settle_inv (hf h)) h

theorem takeInStopped_inv (h : Inv s) : Inv (takeInStopped s) := .ite (takeIn_inv h) h

theorem entropyRow_inv {f : State → State} (h : Inv s) (hf : Inv s → Inv (f s)) : Inv (entropyRow f s) :=
  .ite (settle_inv (hf h)) h

/-! ### Marionette port (chapter 18) -/

theorem respond_inv {status : Byte} {data : Option Word} (h : Inv s) : Inv (respond status data s) := h.keep rfl

theorem probeDone_inv (h : Inv s) : Inv (probeDone s) := respond_inv h

theorem probeData_inv {w : Word} (h : Inv s) : Inv (probeData w s) := respond_inv h

theorem probeRefuse_inv {reason : BitVec 4} (h : Inv s) : Inv (probeRefuse reason s) := respond_inv (h.keep rfl)

theorem probe_inv {needsUnlock : Bool} {cmd : Byte} {addr : Word} {data : Option Word} {crc : Byte} {f : State → State}
    (h : Inv s) (hf : ∀ {s}, Inv s → Inv (f s)) : Inv (probe needsUnlock cmd addr data crc f s) :=
  .ite (respond_inv h) (.ite (probeRefuse_inv (h.keep rfl)) (.ite (probeRefuse_inv (h.keep rfl)) (hf (h.keep rfl))))

theorem unknownRequest_inv {cmd : Byte} {addr : Word} {crc : Byte} (h : Inv s) : Inv (unknownRequest cmd addr crc s) :=
  .ite h (probe_inv h probeRefuse_inv)

theorem probeStatus_inv (h : Inv s) : Inv (probeStatus s) := probeData_inv h

theorem challengeNew_inv (h : Inv s) : Inv (challengeNew s) := by
  refine .ite (probeRefuse_inv h) ?_
  split
  · exact probeRefuse_inv (h.keep rfl)
  · exact probeRefuse_inv (h.keep rfl)
  · exact respond_inv h
  next hp _ _ => exact probeDone_inv (newChallenge_inv (h.pool_tail hp))

theorem challengeRead_inv {addr : Word} (h : Inv s) : Inv (challengeRead addr s) := by
  refine .ite (probeRefuse_inv h) ?_
  split
  · exact probeRefuse_inv h
  · exact probeData_inv h

theorem submitResponse_inv {c : DWord} (h : Inv s) : Inv (submitResponse c s) := .ite (raise_inv (h.keep rfl)) (raise_inv (h.keep rfl))

theorem responseWord_inv {addr data : Word} (h : Inv s) : Inv (responseWord addr data s) := by
  refine .ite (probeRefuse_inv h) (.ite (probeDone_inv (h.keep rfl)) ?_)
  split
  · exact probeRefuse_inv h
  · exact probeDone_inv (submitResponse_inv (h.keep rfl))

theorem challengeExpiry_inv (h : Inv s) : Inv (challengeExpiry s) := .ite (h.keep rfl) h

theorem writeImage_inv {off : Nat} {data : Word} (h : Inv s) : Inv (writeImage off data s) := .ite (h.keep rfl) (h.keep rfl)

theorem readBytesAt_inv {f : Nat → Option Byte} (h : Inv s) : Inv (readBytesAt f s) := probeData_inv (h.keep rfl)

theorem memRead_inv {addr : Word} (h : Inv s) : Inv (memRead addr s) := by
  refine .ite (probeRefuse_inv h) ?_
  split
  case h_1 => exact probeRefuse_inv h
  case h_2 | h_7 | h_11 => exact probeData_inv h
  case h_6 => exact probeData_inv (readReg_inv h)
  all_goals exact readBytesAt_inv h

theorem probeRegWrite_inv {i : Nat} {data : Word} (h : Inv s) : Inv (probeRegWrite i data s) :=
  .ite (probeDone_inv (writeRegs_inv h)) (probeRefuse_inv h)

theorem writeControl_inv {off : Nat} {data : Word} (h : Inv s) : Inv (writeControl off data s) := .ite (h.keep rfl) (.ite (h.keep rfl) (h.keep rfl))

theorem writeLinkBuffer_inv {off : Nat} {data : Word} (h : Inv s) : Inv (writeLinkBuffer off data s) :=
  .ite (probeRefuse_inv h) (probeDone_inv (updLink_inv h))

theorem memWrite_inv {addr data : Word} (h : Inv s) : Inv (memWrite addr data s) := by
  refine .ite (probeRefuse_inv h) ?_
  split
  · exact probeDone_inv (h.keep rfl)
  · exact probeRegWrite_inv h
  · exact .ite (probeRefuse_inv h) (probeDone_inv h.putUser)
  · exact probeDone_inv (writeImage_inv h)
  · exact writeLinkBuffer_inv h
  · exact probeDone_inv (writeControl_inv h)
  · exact probeRefuse_inv h

theorem endPending_inv (h : Inv s) : Inv (endPending s) := .ite (h.keep rfl) h

theorem endDebug_inv (h : Inv s) : Inv (endDebug s) := .ite (h.keep rfl) h

theorem haltCore_inv {addr : Word} {cause : Nat} (h : Inv s) : Inv (haltCore addr cause s) := by
  unfold haltCore
  extract_lets was ended _ _ _ _ halted
  have hended : Inv ended := endDebug_inv (.ite (endPending_inv (leaveRun_inv h)) h)
  exact setState_inv (raise_inv ((hended.keep rfl) : Inv halted))

theorem coreHalt_inv (h : Inv s) : Inv (coreHalt s) := .ite (probeDone_inv (haltCore_inv (h.keep rfl))) (probeRefuse_inv h)

theorem breakHit_inv {access : Option (Word × Bool)} {pc : Word} (h : Inv s) : Inv (breakHit access pc s) :=
  .ite (haltCore_inv h) h

theorem releaseFault_inv (h : Inv s) : Inv (releaseFault s) :=
  .ite (.ite (enterLockout_inv (faultEntry_inv h)) (faultEntry_inv h)) (enterFault_inv h)

theorem releaseState_inv (h : Inv s) : Inv (releaseState s) := .ite (releaseFault_inv h) (setState_inv (h.keep rfl))

theorem judgeBuffered_inv (h : Inv s) : Inv (judgeBuffered s) := by
  unfold judgeBuffered
  split
  · exact judgeRaw_inv (h.keep rfl)
  · exact h

theorem endHeld_inv (h : Inv s) : Inv (endHeld s) := by
  unfold endHeld
  split
  · exact finishRunning_inv h
  · exact h

theorem coreResume_inv (h : Inv s) : Inv (coreResume s) :=
  .ite (settle_inv (judgeBuffered_inv (probeDone_inv (releaseState_inv (endHeld_inv (raise_inv (h.keep rfl)))))))
    (probeRefuse_inv h)

theorem coreStep_inv (h : Inv s) : Inv (coreStep s) := .ite (probeDone_inv (h.keep rfl)) (probeRefuse_inv h)

theorem engHalt_inv (h : Inv s) : Inv (engHalt s) := .ite (probeDone_inv (raise_inv (h.keep rfl))) (probeRefuse_inv h)

theorem engResume_inv (h : Inv s) : Inv (engResume s) := probeDone_inv (h.keep rfl)

theorem dryReject_inv {f : Nat × Nat × Nat} (h : Inv s) : Inv (dryReject f s) := raise_inv (h.keep rfl)

theorem dryNext_inv {im : Image} (h : Inv s) : Inv (dryNext im s) := by
  unfold dryNext
  split
  · exact h
  · split
    · exact h
    · dsimp only
      split
      · exact dryReject_inv (h.keep rfl)
      · exact h.keep rfl

theorem engStep_inv (h : Inv s) : Inv (engStep s) := by
  unfold engStep
  split
  · exact probeDone_inv (dryNext_inv h)
  · exact probeRefuse_inv h

theorem debugReset_inv (h : Inv s) : Inv (debugReset s) := probeDone_inv (assertReset_inv h)

theorem protocolReset_inv (h : Inv s) : Inv (protocolReset s) := .ite (respond_inv (h.keep rfl)) h

end Sys2Proof.Machine
end

section
/-! PROOFS. The invariant under every row and every step (R67, R235, R237, R249), and the state right after a POWER_ON reset. -/

namespace Sys2Proof.Machine
variable {s : State}

/-- Every row answers a state that meets the invariant. -/
theorem exec_inv (i : Instr) (h : Inv s) : ∃ t, exec i s = .next t ∧ Inv t := by
  cases i with
  -- resets, boot and what goes on while firmware does not run (chapter 3)
  | powerOn | brownOut => exact ⟨_, rfl, assertReset_inv (tearPacket_inv h)⟩
  | pin => exact ⟨_, rfl, pinReset_inv h⟩
  | watchdog => exact ⟨_, rfl, watchdogReset_inv h⟩
  | clockWindowTrip => exact ⟨_, rfl, clockTrip_inv h⟩
  | clockWindowRelease => exact ⟨_, rfl, clockRelease_inv h⟩
  | dormantWake => exact ⟨_, rfl, wake_inv h⟩
  | boot => exact ⟨_, rfl, boot_inv h⟩
  | dormantEntered => exact ⟨_, rfl, dormantEntered_inv h⟩
  | faultNBlink => exact ⟨_, rfl, faultNBlink_inv h⟩
  | sramEccError => exact ⟨_, rfl, sramEcc_inv h⟩
  -- the time base and the die temperature (chapters 2 and 20)
  | ppsEdge => exact ⟨_, rfl, whileLive_inv h fun h => .ite (ppsEdge_inv h) h⟩
  | ppsFault => exact ⟨_, rfl, whileLive_inv h ppsMissing_inv⟩
  | sourceLost => exact ⟨_, rfl, whileLive_inv h sourceLost_inv⟩
  | irigFrame => exact ⟨_, rfl, whileLive_inv h irigFrame_inv⟩
  | holdoverExpired => exact ⟨_, rfl, whileLive_inv h holdoverExpired_inv⟩
  | leapSecond => exact ⟨_, rfl, whileLive_inv h leapSecond_inv⟩
  | tsyncPulse => exact ⟨_, rfl, tsyncRise_inv h⟩
  | tsyncPulseEnd => exact ⟨_, rfl, tsyncFall_inv h⟩
  | temperatureMeasurement => exact ⟨_, rfl, whileLive_inv h measureTemp_inv⟩
  -- host commands: each is a packet received (chapters 14 and 15)
  | ping | getIdentity | getState | getVersions | readHrf | writeHrf | tbTimeLoRead | enSnapDataRead | enSnapHold
  | enSnapRelease | evPendingClear | stageConfigBegin | stageConfigData | stageConfigCommit | activateConfig | discardStaged
  | configInfo | run | stop | setModeRequest | hostSignalsWrite | faultAck | journalRead | journalAck | journalStatus
  | commandOutcome | timeSet | leapAnnounce | leapCancel | timeStatus | timeSourceSelect | sflStatus | sflFrameIn
  | sflFrameOut | entropyRetest | portStatus | portDiagRead | outputTestNow | learnPulses | pause | resume | feed | testLine
  | printText | printStatus | fuseRead | fuseProgram | patchInstallBegin | patchInstallData | patchInstallFinish
  | patchStatus | resetDeviceWarm | resetDeviceCold | enterDormant | setEventEnables | getEventPending | debugChallenge =>
    exact ⟨_, rfl, receivePacket_inv h⟩
  | commandGapTimeout => exact ⟨_, rfl, gapTimeout_inv h⟩
  | cmdPacketRefused => exact ⟨_, rfl, receiveRaw_inv h⟩
  -- the host bus and the store (chapters 12 and 13)
  | cmdReplyRead => exact ⟨_, rfl, readCmd_inv h⟩
  | statRead => exact ⟨_, rfl, readStat_inv h⟩
  | sflWindowWrite => exact ⟨_, rfl, writeSfl_inv h⟩
  | sflWindowRead => exact ⟨_, rfl, readSfl_inv h⟩
  | jrnlPointerWrite => exact ⟨_, rfl, writeJrnl_inv h⟩
  | jrnlWindowRead => exact ⟨_, rfl, readJrnl_inv h⟩
  | attentionPeriod => exact ⟨_, rfl, attentionPeriod_inv h⟩
  | attentionWrite => exact ⟨_, rfl, attentionWrite_inv h⟩
  | attentionBackoffEnd => exact ⟨_, rfl, attentionRetry_inv h⟩
  | stretchTimeout => exact ⟨_, rfl, stretchTimeout_inv h⟩
  | targetTimeout => exact ⟨_, rfl, targetTimeout_inv h⟩
  | lineHeldLow => exact ⟨_, rfl, lineHeldLow_inv h⟩
  | hostSilence => exact ⟨_, rfl, hostSilence_inv h⟩
  | journalCommit => exact ⟨_, rfl, .ite (settle_inv (journalCommit_inv h)) h⟩
  | journalGap => exact ⟨_, rfl, .ite (settle_inv (journalGap_inv h)) h⟩
  | parameterRecord => exact ⟨_, rfl, .ite (parameterRecord_inv (noteWear_inv h)) (noteWear_inv h)⟩
  -- the engine and its blocks (chapters 7 to 10)
  | scan => exact ⟨_, rfl, settle_inv (scan_inv h)⟩
  | reverificationComplete => exact ⟨_, rfl, settle_inv (reverifyDone_inv h)⟩
  | countedFailureWindowEnd => exact ⟨_, rfl, windowEnd_inv h⟩
  | discrepancy | lockNotReached | rundownElapsed | doorOpenWhileLocked | contactAntivalence | feedbackFault | brakeTestEnd
  | restartStuck | restartArmed | tonElapsed | tofElapsed | pulseElapsed => exact ⟨_, rfl, timeUp_inv h⟩
  | brakeTestDue => exact ⟨_, rfl, timeUp_inv (brakeHours_inv h)⟩
  | twohandSyncFail => exact ⟨_, rfl, syncFail_inv h⟩
  | selectorFault | modeRequestPins => exact ⟨_, rfl, selectorUp_inv h⟩
  | modeHandoverEnd => exact ⟨_, rfl, handoverEnd_inv h⟩
  | outputUntested => exact ⟨_, rfl, untestedAt_inv h⟩
  | outputRefused => exact ⟨_, rfl, refusedAt_inv h⟩
  -- Svaent frames, entropy and the controller's side of the links (chapters 4 and 11)
  | sflProducerStart => exact ⟨_, rfl, producerStart_inv h⟩
  | sflProducerSend => exact ⟨_, rfl, producerSend_inv h⟩
  | sflTakeIn => exact ⟨_, rfl, takeInStopped_inv h⟩
  | sflConnLost => exact ⟨_, rfl, connWatchdog_inv h⟩
  | entropyWordReady | entropyHealthFail => exact ⟨_, rfl, entropyRow_inv h entropyBits_inv⟩
  | entropyStartupTestDone => exact ⟨_, rfl, entropyRow_inv h startupTestDone_inv⟩
  | linkCycle => exact ⟨_, rfl, linkCycle_inv h⟩
  | uplinkIdent => exact ⟨_, rfl, settle_inv (uplinkIdent_inv h)⟩
  | uplinkDelta => exact ⟨_, rfl, settle_inv (uplinkDelta_inv h)⟩
  | uplinkRefresh => exact ⟨_, rfl, settle_inv (uplinkRefresh_inv h)⟩
  | crossShortEpisodeEnd => exact ⟨_, rfl, crossShortEnd_inv h⟩
  | shortToSupply => exact ⟨_, rfl, shortToSupply_inv h⟩
  | linkLost => exact ⟨_, rfl, settle_inv (linkLost_inv h)⟩
  | linkStart => exact ⟨_, rfl, linkStart_inv h⟩
  | linkStartFail => exact ⟨_, rfl, settle_inv (linkStartFail_inv h)⟩
  -- the witness strip and the marionette port (chapters 17 and 18)
  | lineSlot => exact ⟨_, rfl, lineSlot_inv h⟩
  | lineRendered => exact ⟨_, rfl, lineRendered_inv h⟩
  | printerGated => exact ⟨_, rfl, printerGated_inv h⟩
  | printerReady => exact ⟨_, rfl, printerReady_inv h⟩
  | motorDisable => exact ⟨_, rfl, motorDisable_inv h⟩
  | idcode => exact ⟨_, rfl, probe_inv h probeData_inv⟩
  | status => exact ⟨_, rfl, probe_inv h probeStatus_inv⟩
  | chalNew => exact ⟨_, rfl, probe_inv h challengeNew_inv⟩
  | chalRead => exact ⟨_, rfl, probe_inv h challengeRead_inv⟩
  | response => exact ⟨_, rfl, probe_inv h responseWord_inv⟩
  | memRead => exact ⟨_, rfl, probe_inv h memRead_inv⟩
  | memWrite => exact ⟨_, rfl, probe_inv h memWrite_inv⟩
  | coreHalt => exact ⟨_, rfl, probe_inv h coreHalt_inv⟩
  | coreResume => exact ⟨_, rfl, probe_inv h coreResume_inv⟩
  | coreStep => exact ⟨_, rfl, probe_inv h coreStep_inv⟩
  | engHalt => exact ⟨_, rfl, probe_inv h engHalt_inv⟩
  | engResume => exact ⟨_, rfl, probe_inv h engResume_inv⟩
  | engStep => exact ⟨_, rfl, probe_inv h engStep_inv⟩
  | dbgReset => exact ⟨_, rfl, probe_inv h debugReset_inv⟩
  | breakpointHit => exact ⟨_, rfl, breakHit_inv h⟩
  | debugTransferTimeout => exact ⟨_, rfl, .ite (respond_inv (h.keep rfl)) h⟩
  | debugProtocolReset next =>
    cases next with
    | none => exact ⟨_, rfl, protocolReset_inv h⟩
    | some request => exact ⟨_, rfl, unknownRequest_inv (protocolReset_inv h)⟩
  | debugChallengeExpiry => exact ⟨_, rfl, challengeExpiry_inv h⟩
  | unlockRefusalEnd => exact ⟨_, rfl, h.keep rfl⟩
  -- a port's own rows
  | downlinkRun => exact ⟨_, rfl, updPort_inv (h.keep rfl)⟩
  | _ => exact ⟨_, rfl, updPort_inv h⟩

/-- Settles O5: each operation keeps the AORF's check, the banks and the sizes of the queues, so each row does, and the idle
step as well. -/
theorem stepKeepsInv : Obligations.StepKeepsInv := by
  intro s t h hs
  cases hp : s.pending with
  | nil =>
    simp only [step, hp] at hs
    cases hs
    exact tick_inv h
  | cons c rest =>
    obtain ⟨u, hu, hk⟩ := exec_inv c (s := { s with pending := rest }) (h.keep rfl)
    simp only [step, hp, hu] at hs
    cases hs
    exact hk

/-- Settles O4: the check of a new AORF is computed; the banks are empty, and so are the queues. -/
theorem resetInv : Obligations.ResetInv :=
  ⟨by decide +kernel, rfl, rfl, Nat.zero_le _, Nat.zero_le _, Nat.zero_le _, Nat.zero_le _⟩

/-- Settles O3: the reset state is a closed term, evaluated field by field. -/
theorem resetState : Obligations.ResetState := by
  refine ⟨rfl, rfl, rfl, rfl, rfl, rfl, rfl, rfl, rfl, rfl, rfl, rfl, rfl, rfl, rfl, rfl, rfl, fun l => ?_⟩
  simp [State.reset, Link.new]

end Sys2Proof.Machine
end

section
/-! PROOFS. Resets (R57, R58, R64 to R66, R72, R250; Tables 3-2 and 3-5): what the write in hand leaves when it is cut off, what a reset
records, and what it keeps. -/

namespace Sys2Proof.Machine

variable {s t u : State}

/-! ## What a reset keeps of the store -/

/-- What no reset changes of the store but for a command that it cuts off: both banks, both patch areas, the outcomes, and which macros
are in service. -/
def StoreSurvives (s t : State) : Prop :=
  t.nv.bankA = s.nv.bankA ∧ t.nv.bankB = s.nv.bankB ∧ t.nv.patchA = s.nv.patchA ∧ t.nv.patchB = s.nv.patchB
    ∧ t.nv.outcomes = s.nv.outcomes ∧ t.nv.lastE = s.nv.lastE ∧ MacrosStay s t

theorem MacrosStay.refl (s : State) : MacrosStay s s := fun hw => ⟨hw, rfl, rfl, rfl, rfl, rfl⟩

theorem MacrosStay.trans (h : MacrosStay s t) (k : MacrosStay t u) : MacrosStay s u := fun hw => by
  obtain ⟨a0, a1, a2, a3, a4, a5⟩ := h hw
  obtain ⟨b0, b1, b2, b3, b4, b5⟩ := k a0
  exact ⟨b0, b1.trans a1, b2.trans a2, b3.trans a3, b4.trans a4, b5.trans a5⟩

theorem StoreSurvives.refl (s : State) : StoreSurvives s s := ⟨rfl, rfl, rfl, rfl, rfl, rfl, .refl s⟩

theorem StoreSurvives.trans (h : StoreSurvives s t) (k : StoreSurvives t u) : StoreSurvives s u := by
  obtain ⟨a1, a2, a3, a4, a5, a6, am⟩ := h
  obtain ⟨b1, b2, b3, b4, b5, b6, bm⟩ := k
  exact ⟨b1.trans a1, b2.trans a2, b3.trans a3, b4.trans a4, b5.trans a5, b6.trans a6, am.trans bm⟩

theorem EventStore.survives (h : EventStore s t) : StoreSurvives s t := by
  obtain ⟨hnv, hm⟩ := h
  rw [StoreSurvives, hnv]
  exact ⟨rfl, rfl, rfl, rfl, rfl, rfl, hm⟩

/-- What a cut-off write of the core leaves: only the store, the journal writer and the bus differ, and the store survives. -/
def CutOff (s t : State) : Prop := StoreApart s t ∧ StoreSurvives s t

theorem CutOff.refl (s : State) : CutOff s s := ⟨.refl s, .refl s⟩

theorem CutOff.trans (h : CutOff s t) (k : CutOff t u) : CutOff s u := ⟨h.1.trans k.1, h.2.trans k.2⟩

theorem CutOff.foldl {α : Type} (g : State → α → State) (h : ∀ s a, CutOff s (g s a)) (l : List α) (s : State) :
    CutOff s (l.foldl g s) := by
  induction l generalizing s with
  | nil => exact .refl s
  | cons a l ih => exact (h s a).trans (ih _)

section
variable (h : CutOff s t)
include h
theorem CutOff.dev : t.dev = s.dev := by rw [h.1]
theorem CutOff.aorf : t.aorf = s.aorf := by rw [h.1]
theorem CutOff.tb : t.tb = s.tb := by rw [h.1]
theorem CutOff.en : t.en = s.en := by rw [h.1]
theorem CutOff.fu : t.fu = s.fu := by rw [h.1]
theorem CutOff.ports : t.ports = s.ports := by rw [h.1]
end

/-! ## The write in hand, cut off (R250, R251) -/

theorem tearRecord_cutOff (r : Record) (s : State) : CutOff s (tearRecord r s) := by
  unfold tearRecord
  split
  · exact ⟨rfl, rfl, rfl, rfl, rfl, rfl, rfl, .refl s⟩
  · split
    · exact ⟨commitRecord_apart r s, (commitRecord_store r s).survives⟩
    · exact .refl s

theorem tearSlot_cutOff (s : State) : CutOff s (tearSlot s) := by
  unfold tearSlot
  split
  · exact ⟨rfl, rfl, rfl, rfl, rfl, rfl, rfl, .refl s⟩
  · exact .refl s

theorem tearWrite_cutOff (k : Kind) (x : Tear) (s : State) : CutOff s (tearWrite k x s) := by
  unfold tearWrite
  split
  · exact .refl s
  · split
    · exact tearRecord_cutOff _ s
    · exact tearSlot_cutOff s
    · split
      · exact ⟨rfl, rfl, rfl, rfl, rfl, rfl, rfl, .refl s⟩
      · exact .refl s
    · split
      · exact ⟨rfl, rfl, rfl, rfl, rfl, rfl, rfl, .refl s⟩
      · exact .refl s
    · exact .refl s

theorem tearWrite_none (k : Kind) (s : State) : tearWrite k .none s = s := by
  unfold tearWrite
  split <;> rfl

/-- A kind that tears no write leaves the store as it is. -/
theorem tearWrite_of_not_tears {k : Kind} (x : Tear) (s : State) (h : k.tears = false) : tearWrite k x s = s := by
  simp [tearWrite, h]

theorem writeEntry_cutOff (c : Chain) (part : Nat) (s : State) : CutOff s (writeEntry c part s) := by
  have hmirror : CutOff s (mirror (entryOffset s.nv.ringPos) 32 s) := ⟨mirror_apart _ _ s, (mirror_store _ _ s).survives⟩
  unfold writeEntry
  dsimp only
  split
  · exact hmirror
  · exact hmirror.trans ⟨rfl, rfl, rfl, rfl, rfl, rfl, rfl, .refl _⟩

theorem writeEntries_cutOff (c : Chain) (l : List Nat) (s : State) : CutOff s (l.foldl (fun s k => writeEntry c k s) s) :=
  .foldl _ (fun s k => writeEntry_cutOff c k s) l s

/-- An ACCEPT chain that is cut off: the entries written, and then a change of the command journal alone. -/
theorem tearAccept_cutOff (raw : List Byte) (whole : Nat) (nva : Bool) (s : State) : CutOff s (tearAccept raw whole nva s) := by
  unfold tearAccept
  split
  · exact .refl s
  · next p _ =>
    dsimp only
    have hwritten := writeEntries_cutOff p.chain (p.chain.order.take whole) s
    split
    · exact hwritten
    · split
      · exact hwritten.trans ⟨rfl, rfl, rfl, rfl, rfl, rfl, rfl, .refl _⟩
      · split
        · split
          · exact hwritten
          · split
            · exact hwritten.trans ⟨rfl, rfl, rfl, rfl, rfl, rfl, rfl, .refl _⟩
            · split <;> exact hwritten.trans ⟨rfl, rfl, rfl, rfl, rfl, rfl, rfl, .refl _⟩
        · exact hwritten

theorem tearPacket_cutOff (x : Tear) (s : State) (hx : cutsCommand x = false) : CutOff s (tearPacket x s) := by
  unfold tearPacket
  split
  · split
    · exact tearAccept_cutOff _ _ _ s
    · simp [cutsCommand] at hx
    · exact .refl s
  · exact .refl s

theorem tearPacket_none (s : State) : tearPacket .none s = s := by simp [tearPacket]

/-- Firmware that does not run has no packet in hand. -/
theorem tearPacket_of_not_live (x : Tear) (h : live s = false) : tearPacket x s = s := by simp [tearPacket, h]

/-! ## What a reset records (R57, R58, Table 3-10) -/

theorem recordedCause_alone (k : Kind) (h : s.dev.phase.asserted = false) : recordedCause k s = k := by
  simp [recordedCause, h]

theorem recordedCause_joined (k : Kind) (h : s.dev.phase.asserted = true) :
    recordedCause k s
      = if (Kind.ofCode s.dev.cause.toNat).rank ≤ k.rank then Kind.ofCode s.dev.cause.toNat else k := by
  simp [recordedCause, h]

theorem causesWith_alone (k : Kind) (h : s.dev.phase.asserted = false) : causesWith k s = 1 <<< (k.code - 1) := by
  simp [causesWith, h]

theorem causesWith_joined (k : Kind) (h : s.dev.phase.asserted = true) :
    causesWith k s = s.dev.causesSeen ||| (1 <<< (k.code - 1)) := by simp [causesWith, h]

@[simp] theorem assertReset_cause (k : Kind) (byNrst : Bool) (x : Tear) (s : State) :
    (assertReset k byNrst x s).dev.cause = BitVec.ofNat 4 (recordedCause k s).code := rfl

@[simp] theorem assertReset_causesSeen (k : Kind) (byNrst : Bool) (x : Tear) (s : State) :
    (assertReset k byNrst x s).dev.causesSeen = causesWith k s := rfl

@[simp] theorem assertReset_faultN (k : Kind) (byNrst : Bool) (x : Tear) (s : State) :
    (assertReset k byNrst x s).dev.faultN = false := rfl

@[simp] theorem assertReset_safeOk (k : Kind) (byNrst : Bool) (x : Tear) (s : State) :
    (assertReset k byNrst x s).dev.safeOk = false := rfl

theorem assertReset_phase (k : Kind) (byNrst : Bool) (x : Tear) (s : State) : (assertReset k byNrst x s).dev.phase
      = if k == .clockWindow || s.dev.phase == .clockHeld then .clockHeld else .inReset := by
  rw [← (tearWrite_cutOff k x s).dev]
  rfl

theorem assertReset_wakeSrc (k : Kind) (byNrst : Bool) (x : Tear) (s : State) :
    (assertReset k byNrst x s).dev.wakeSrc = ((s.dev.phase.asserted && s.dev.wakeSrc) || (k == .dormantWake && byNrst)) := by
  rw [← (tearWrite_cutOff k x s).dev]
  rfl

theorem assertReset_clockWhy (byNrst : Bool) (x : Tear) (s : State) :
    (assertReset .clockWindow byNrst x s).dev.clockWhy = s.dev.clockWhy := by
  rw [← (tearWrite_cutOff .clockWindow x s).dev]
  rfl

@[simp] theorem assertReset_tb (k : Kind) (byNrst : Bool) (x : Tear) (s : State) :
    (assertReset k byNrst x s).tb = s.tb.afterReset (recordedCause k s).keepsTime := by
  rw [← (tearWrite_cutOff k x s).tb]
  rfl

theorem assertReset_aorf (k : Kind) (byNrst : Bool) (x : Tear) (s : State) :
    (assertReset k byNrst x s).aorf = s.aorf.atReset (recordedCause k s) s.dev.phase.asserted
      ((causesWith k s).getLsbD 2 || (k == .dormantWake && byNrst)) s.dev.dvState := by
  change (tearWrite k x s).aorf.atReset _ _ _ (tearWrite k x s).dev.dvState = _
  rw [(tearWrite_cutOff k x s).aorf, (tearWrite_cutOff k x s).dev]

@[simp] theorem assertReset_nv (k : Kind) (byNrst : Bool) (x : Tear) (s : State) :
    (assertReset k byNrst x s).nv = (tearWrite k x s).nv := rfl

theorem TimeBase.afterReset_counter (keeps : Bool) (b : TimeBase) :
    (b.afterReset keeps).counter = if keeps then b.counter else 0 := by
  cases keeps <;> rfl

theorem TimeBase.afterReset_quality_of_lost (b : TimeBase) : (b.afterReset false).quality = .unsync := rfl

/-- The AORF after a reset that keeps it, in a device that ran or slept (R64, R67). -/
structure AorfKept (clears : Bool) (s t : State) : Prop where
  lockout : t.aorf.lockout = (s.aorf.lockout && !clears)
  user : t.aorf.user = s.aorf.user
  resetCount : t.aorf.resetCount = inc8 s.aorf.resetCount
  lastState : t.aorf.lastState = s.dev.dvState.code

/-- What a reset recorded alone leaves in the registers of the device. -/
structure RecordedAlone (k : Kind) (byNrst : Bool) (s t : State) : Prop where
  phase : t.dev.phase = if k = .clockWindow then .clockHeld else .inReset
  cause : t.dev.cause = BitVec.ofNat 4 k.code
  causesSeen : t.dev.causesSeen = 1 <<< (k.code - 1)
  wakeSrc : t.dev.wakeSrc = (k == .dormantWake && byNrst)
  faultN : t.dev.faultN = false
  safeOk : t.dev.safeOk = false
  counter : t.tb.counter = if k.keepsTime then s.tb.counter else 0
  quality : k.keepsTime = false → t.tb.quality = .unsync

theorem assertReset_alone (k : Kind) (byNrst : Bool) (x : Tear) (h : s.dev.phase.asserted = false) :
    RecordedAlone k byNrst s (assertReset k byNrst x s) where
  phase := by
    have hheld : s.dev.phase ≠ .clockHeld := fun hp => by simp [hp, Phase.asserted] at h
    simp [assertReset_phase, hheld]
  cause := by simp [recordedCause_alone, h]
  causesSeen := by simp [causesWith_alone, h]
  wakeSrc := by simp [assertReset_wakeSrc, h]
  faultN := rfl
  safeOk := rfl
  counter := by simp [recordedCause_alone, h, TimeBase.afterReset_counter]
  quality hk := by simp [recordedCause_alone, h, hk, TimeBase.afterReset_quality_of_lost]

/-- POWER_ON and BROWN_OUT clear the AORF (R64). -/
theorem assertReset_aorf_new {k : Kind} (byNrst : Bool) (x : Tear) (h : s.dev.phase.asserted = false)
    (hk : k = .powerOn ∨ k = .brownOut) : (assertReset k byNrst x s).aorf = Aorf.seal Aorf.new := by
  rw [assertReset_aorf, recordedCause_alone k h]
  obtain rfl | rfl := hk <;> rfl

theorem Aorf.atReset_of_kept {k : Kind} (hp : k ≠ .powerOn) (hb : k ≠ .brownOut) (clears : Bool) (last : DvState) (a : Aorf) :
    a.atReset k false clears last = Aorf.seal { a with
      lockout := a.lockout && !clears, settingsDiffer := false, lastState := last.code, resetCount := inc8 a.resetCount } := by
  cases k with
  | powerOn => exact absurd rfl hp
  | brownOut => exact absurd rfl hb
  | _ => rfl

/-- Every other reset keeps the AORF; PIN and a wake by nRST clear the LOCKOUT latch (R64, R67). -/
theorem assertReset_aorf_kept {k : Kind} (byNrst : Bool) (x : Tear) (h : s.dev.phase.asserted = false)
    (hp : k ≠ .powerOn) (hb : k ≠ .brownOut) :
    AorfKept (k == .pin || (k == .dormantWake && byNrst)) s (assertReset k byNrst x s) := by
  have hclears : (causesWith k s).getLsbD 2 = (k == .pin) := by
    rw [causesWith_alone k h]
    cases k <;> rfl
  have haorf : (assertReset k byNrst x s).aorf = Aorf.seal { s.aorf with
      lockout := s.aorf.lockout && !(k == .pin || (k == .dormantWake && byNrst)), settingsDiffer := false,
      lastState := s.dev.dvState.code, resetCount := inc8 s.aorf.resetCount } := by
    rw [assertReset_aorf, recordedCause_alone k h, h, hclears, Aorf.atReset_of_kept hp hb]
  constructor <;> rw [haorf] <;> rfl

/-! ## The reset rows -/

theorem asserted_of_running (h : s.dev.phase = .running) : s.dev.phase.asserted = false := by rw [h]; rfl

theorem asserted_of_dormant (h : s.dev.phase = .dormant) : s.dev.phase.asserted = false := by rw [h]; rfl

theorem pinReset_of_not_dormant (h : s.dev.phase ≠ .dormant) : pinReset s = assertReset .pin false .none s := by
  simp [pinReset, isDormant, h]

theorem pinReset_of_dormant (h : s.dev.phase = .dormant) : pinReset s = assertReset .dormantWake true .none s := by
  simp [pinReset, isDormant, h]

theorem wake_of_dormant (byNrst : Bool) (h : s.dev.phase = .dormant) : wake byNrst s = assertReset .dormantWake byNrst .none s := by
  simp [wake, isDormant, h]

theorem watchdogReset_of_running (h : s.dev.phase = .running) (hc : s.db.coreHalted = false) :
    watchdogReset s = assertReset .watchdog false .none s := by
  simp [watchdogReset, isDormant, blinking, testHeld, h, hc]

theorem clockTrip_of_running (why : BitVec 3) (x : Tear) (h : s.dev.phase = .running) : clockTrip why x s
      = assertReset .clockWindow false x { tearPacket x s with dev := { (tearPacket x s).dev with clockWhy := 0 ||| why } } := by
  simp [clockTrip, isDormant, blinking, h, Phase.asserted]

/-- An asserted reset is no DORMANT, and firmware does not run in it. -/
theorem not_live_of_asserted (h : s.dev.phase.asserted = true) : live s = false ∧ s.dev.phase ≠ .dormant := by
  constructor
  · cases hp : s.dev.phase <;> simp_all [live, Phase.asserted]
  · intro hp
    simp [hp, Phase.asserted] at h

/-- Settles O7: alone, a kind is recorded as it is, with its line of the survival matrix; joined, by its rank. -/
theorem resetAsserted : Obligations.ResetAsserted := by
  refine ⟨fun s tear why byNrst => ⟨fun hrun hcut => ?_, fun hdorm => ?_⟩, fun s tear hjoin => ?_⟩
  · have ha := asserted_of_running hrun
    have htorn := tearPacket_cutOff tear s hcut
    have ha' : (tearPacket tear s).dev.phase.asserted = false := by rw [htorn.dev, ha]
    refine ⟨⟨_, rfl, ?_⟩, ⟨_, rfl, ?_⟩, ⟨_, rfl, ?_⟩, fun hcore => ⟨_, rfl, ?_⟩, ⟨_, rfl, ?_⟩⟩
    · have r := assertReset_alone .powerOn false tear ha'
      exact ⟨r.phase, r.cause, r.causesSeen, r.faultN, r.safeOk, r.counter, r.quality rfl,
        assertReset_aorf_new false tear ha' (.inl rfl)⟩
    · have r := assertReset_alone .brownOut false tear ha'
      exact ⟨r.phase, r.cause, r.causesSeen, r.counter, r.quality rfl, assertReset_aorf_new false tear ha' (.inr rfl)⟩
    · rw [pinReset_of_not_dormant (by simp [hrun])]
      have r := assertReset_alone .pin false .none ha
      have k := assertReset_aorf_kept (k := .pin) false .none ha nofun nofun
      exact ⟨r.phase, r.cause, r.causesSeen, r.counter, k.lockout.trans (Bool.and_false _), k.user, k.resetCount, k.lastState⟩
    · rw [watchdogReset_of_running hrun hcore]
      have r := assertReset_alone .watchdog false .none ha
      have k := assertReset_aorf_kept (k := .watchdog) false .none ha nofun nofun
      exact ⟨r.phase, r.cause, r.causesSeen, r.counter, k.lockout.trans (Bool.and_true _), k.resetCount⟩
    · rw [clockTrip_of_running why tear hrun]
      have r := assertReset_alone (s := { tearPacket tear s with dev := { (tearPacket tear s).dev with clockWhy := 0 ||| why } })
        .clockWindow false tear ha'
      have k := assertReset_aorf_kept
        (s := { tearPacket tear s with dev := { (tearPacket tear s).dev with clockWhy := 0 ||| why } })
        (k := .clockWindow) false tear ha' nofun nofun
      refine ⟨r.phase, r.cause, r.causesSeen, ?_, r.safeOk, r.counter, ?_⟩
      · simp [assertReset_clockWhy]
      · exact (k.lockout.trans (Bool.and_true _)).trans (congrArg Aorf.lockout htorn.aorf)
  · have ha := asserted_of_dormant hdorm
    refine ⟨⟨_, rfl, ?_⟩, ⟨_, rfl, ?_⟩⟩
    · rw [wake_of_dormant byNrst hdorm]
      have r := assertReset_alone .dormantWake byNrst .none ha
      have k := assertReset_aorf_kept (k := .dormantWake) byNrst .none ha nofun nofun
      exact ⟨r.phase, r.cause, r.causesSeen, r.wakeSrc, r.counter, k.lockout⟩
    · rw [pinReset_of_dormant hdorm]
      have r := assertReset_alone .dormantWake true .none ha
      exact ⟨r.cause, r.wakeSrc⟩
  · obtain ⟨hlive, hdorm⟩ := not_live_of_asserted hjoin
    refine ⟨⟨_, rfl, ?_⟩, ⟨_, rfl, ?_⟩, ⟨_, rfl, ?_⟩⟩
    · rw [tearPacket_of_not_live tear hlive]
      refine ⟨causesWith_joined .powerOn hjoin, ?_⟩
      rw [assertReset_cause, recordedCause_joined _ hjoin]
      cases Kind.ofCode s.dev.cause.toNat <;> rfl
    · rw [tearPacket_of_not_live tear hlive]
      refine ⟨causesWith_joined .brownOut hjoin, ?_⟩
      rw [assertReset_cause, recordedCause_joined _ hjoin]
      cases Kind.ofCode s.dev.cause.toNat <;> rfl
    · rw [pinReset_of_not_dormant hdorm]
      refine ⟨causesWith_joined .pin hjoin, ?_⟩
      rw [assertReset_cause, recordedCause_joined _ hjoin]
      cases Kind.ofCode s.dev.cause.toNat <;> rfl

end Sys2Proof.Machine
end

section
/-! PROOFS. What a reset keeps and what starts afresh (R64 to R66, R250, Table 3-5), and the host words of the AORF. -/

namespace Sys2Proof.Machine

variable {s t u : State}

/-! ## What starts afresh (R64, R65) -/

/-- The volatile state after a reset that is recorded as no DEBUG one. -/
def StartsAfresh (t : State) : Prop :=
  t.jr = Journal.new ∧ t.cm = Cmd.new ∧ t.hb = HostBus.new ∧ t.sf = Sfl.new ∧ t.ent = Entropy.new
    ∧ t.links = Vector.replicate 8 Link.new ∧ t.db = Debug.new ∧ t.en = { Engine.new with image := t.en.image }

theorem Debug.atReset_of_ne_debug {k : Kind} (h : k ≠ .debug) (d : Debug) : d.atReset k = Debug.new := by
  cases k with
  | debug => exact absurd rfl h
  | _ => rfl

/-- DEBUG has the lowest rank, so a reset of another kind is never recorded as one. -/
theorem recordedCause_ne_debug {k : Kind} (h : k ≠ .debug) (s : State) : recordedCause k s ≠ .debug := by
  have hrank : k.rank < 8 := by cases k <;> simp [Kind.rank] at h ⊢
  unfold recordedCause
  dsimp only
  split
  · next hjoin =>
    intro hprior
    simp only [hprior, Bool.and_eq_true, decide_eq_true_eq] at hjoin
    exact absurd hjoin.2 (Nat.not_le.2 hrank)
  · exact h

theorem assertReset_startsAfresh {k : Kind} (byNrst : Bool) (x : Tear) (s : State) (h : k ≠ .debug) :
    StartsAfresh (assertReset k byNrst x s) := by
  have hdb : (assertReset k byNrst x s).db = Debug.new := Debug.atReset_of_ne_debug (recordedCause_ne_debug h s) _
  exact ⟨rfl, rfl, rfl, rfl, rfl, rfl, hdb, rfl⟩

/-! ## What is kept (R64, Table 3-5) -/

/-- What a reset that cuts off no command keeps, and the settings' return to their defaults. -/
def Survives (s t : State) : Prop :=
  t.fu.rows = s.fu.rows ∧ t.fu.spares = s.fu.spares ∧ t.fu.redirect = s.fu.redirect ∧ t.ports = s.ports ∧ t.set = defaultsOf s
    ∧ t.en.image = s.en.image ∧ StoreSurvives s t

theorem CutOff.defaultsOf (h : CutOff s t) : defaultsOf t = defaultsOf s := by rw [Machine.defaultsOf, h.en, Machine.defaultsOf]

theorem assertReset_survives (k : Kind) (byNrst : Bool) (x : Tear) (h : CutOff s t) :
    Survives s (assertReset k byNrst x t) := by
  have hcut := h.trans (tearWrite_cutOff k x t)
  have hfu := hcut.fu
  exact ⟨(congrArg Fuses.rows hfu :), (congrArg Fuses.spares hfu :), (congrArg Fuses.redirect hfu :), hcut.ports, hcut.defaultsOf,
    (congrArg Engine.image hcut.en :), hcut.2⟩

/-- A reset that tears no write keeps the whole store (R250). -/
theorem assertReset_nv_of_none (k : Kind) (byNrst : Bool) (s : State) : (assertReset k byNrst .none s).nv = s.nv := by
  rw [assertReset_nv, tearWrite_none]

/-- nRST asserts a reset of one of two kinds that tear nothing. -/
theorem pinReset_eq (s : State) :
    ∃ k byNrst, (k = .pin ∨ k = .dormantWake) ∧ pinReset s = assertReset k byNrst .none s := by
  unfold pinReset
  split
  · exact ⟨.dormantWake, true, .inr rfl, rfl⟩
  · exact ⟨.pin, false, .inl rfl, rfl⟩

/-- Settles O8: the reset rows assert a reset on what a cut-off write leaves. -/
theorem resetSurvival : Obligations.ResetSurvival := by
  intro s tear i
  obtain ⟨k, byNrst, hk, hpin⟩ := pinReset_eq s
  have hexec : exec .pin s = .next (assertReset k byNrst .none s) := congrArg Host.Outcome.next hpin
  simp only [List.forall_mem_cons, List.mem_cons, List.not_mem_nil, or_false]
  refine ⟨?_, ?_, ?_⟩
  · rintro (rfl | rfl | rfl)
    · exact ⟨_, rfl, assertReset_startsAfresh false tear _ nofun⟩
    · exact ⟨_, rfl, assertReset_startsAfresh false tear _ nofun⟩
    · exact ⟨_, hexec, assertReset_startsAfresh byNrst .none s (by obtain rfl | rfl := hk <;> nofun)⟩
  · rintro (rfl | rfl | rfl) hcut
    · exact ⟨_, rfl, assertReset_survives .powerOn false tear (tearPacket_cutOff tear s hcut)⟩
    · exact ⟨_, rfl, assertReset_survives .brownOut false tear (tearPacket_cutOff tear s hcut)⟩
    · exact ⟨_, hexec, assertReset_survives k byNrst .none (.refl s)⟩
  · rintro (rfl | rfl | rfl)
    · exact ⟨_, rfl, (assertReset_nv_of_none .powerOn false _).trans (congrArg State.nv (tearPacket_none s))⟩
    · exact ⟨_, rfl, (assertReset_nv_of_none .brownOut false _).trans (congrArg State.nv (tearPacket_none s))⟩
    · exact ⟨_, hexec, assertReset_nv_of_none k byNrst s⟩

/-! ## The host words of the AORF (R66) -/

/-- POWER_ON and BROWN_OUT clear the host words with the AORF. -/
theorem assertReset_user_new {k : Kind} (byNrst : Bool) (x : Tear) (h : s.dev.phase.asserted = false)
    (hk : k = .powerOn ∨ k = .brownOut) : (assertReset k byNrst x s).aorf.user = Vector.replicate 8 0 := by
  rw [assertReset_aorf_new byNrst x h hk]
  rfl

theorem drain_of_not_coreFree (n : Nat) (h : coreFree s = false) : drain n s = s := by
  cases n with
  | zero => rfl
  | succ n => simp [drain, h]

theorem coreFree_of_not_live (h : live s = false) : coreFree s = false := by simp [coreFree, h]

theorem coreFree_of_bothOut (h : nvBothOut s = true) : coreFree s = false := by simp [coreFree, h]

theorem not_live_of_reset (k : Kind) (byNrst : Bool) (x : Tear) (s : State) : live (assertReset k byNrst x s) = false := by
  rw [live, assertReset_phase]
  split <;> rfl

/-- A chain that spells a reset of the device of this kind (R325). -/
def ResetsAs (c : Chain) (k : Kind) : Prop :=
  ∀ s, execCommand c.opcode c.csn c.params s = { result := some (stOk, []), st := s, after := .reset k }

/-- RESET_DEVICE keeps the host words, and the commands after it wait for the boot. -/
theorem drain_reset_user {c : Chain} {k : Kind} (n : Nat) (hc : ResetsAs c k) (hk : k ≠ .powerOn ∧ k ≠ .brownOut)
    (hchains : ∀ d ∈ s.nv.chains, d = c) : (drain n s).aorf.user = s.aorf.user := by
  cases n with
  | zero => rfl
  | succ n =>
    unfold drain
    split
    · next hfree =>
      split
      · next d hd =>
        obtain rfl : d = c := hchains d (List.mem_of_find?_eq_some hd)
        have hlive : s.dev.phase = .running := by simpa [live] using (show live s = true by simp_all [coreFree])
        unfold runChain
        rw [hc s]
        unfold concludeExec
        dsimp only
        split
        · next hout =>
          rw [drain_of_not_coreFree n (coreFree_of_bothOut hout), commitOutcome_aorf]
        · change (drain n (assertReset k false .none (commitOutcome d stOk [] s))).aorf.user = _
          rw [drain_of_not_coreFree n (coreFree_of_not_live (not_live_of_reset ..))]
          have hkept := assertReset_aorf_kept (s := commitOutcome d stOk [] s) (k := k) false .none
            (asserted_of_running (by rw [commitOutcome_dev, hlive])) hk.1 hk.2
          rw [hkept.user, commitOutcome_aorf]
      · rfl
    · rfl

theorem settle_reset_user {c : Chain} {k : Kind} (hc : ResetsAs c k) (hk : k ≠ .powerOn ∧ k ≠ .brownOut)
    (hchains : ∀ d ∈ s.nv.chains, d = c) : (settle s).aorf.user = s.aorf.user := by
  unfold settle
  split
  · rfl
  · exact drain_reset_user 9 hc hk hchains

theorem writeChain_cutOff (c : Chain) (s : State) : CutOff s (writeChain c s) := writeEntries_cutOff c c.order s

theorem writeEntry_chains (c : Chain) (part : Nat) (s : State) : (writeEntry c part s).nv.chains = s.nv.chains := by
  unfold writeEntry
  dsimp only
  split
  · exact (mirror_store _ _ s).chains
  · exact (mirror_store _ _ s).chains

theorem writeChain_chains (c : Chain) (s : State) : (writeChain c s).nv.chains = s.nv.chains := by
  unfold writeChain
  generalize c.order = l
  induction l generalizing s with
  | nil => rfl
  | cons k l ih => exact (ih _).trans (writeEntry_chains c k s)

theorem accept_aorf (p : Packet) (s : State) : (accept p s).aorf = s.aorf := by
  unfold accept
  dsimp only
  split <;> rw [pushReply_aorf] <;> exact (writeChain_cutOff p.chain s).aorf

/-- The only command that can wait after a packet, where none waited before, is the packet's own. -/
theorem accept_chains_alone (p : Packet) (h : s.nv.chains = []) : ∀ d ∈ (accept p s).nv.chains, d = p.chain := by
  have hw := writeChain_chains p.chain s
  rw [h] at hw
  unfold accept
  dsimp only
  split
  · simp [hw]
  · simp [hw]

theorem outOfWindow_aorf (p : Packet) (s : State) : (outOfWindow p s).aorf = s.aorf := by simp [outOfWindow]

theorem answerRepeat_aorf (p : Packet) (s : State) : (answerRepeat p s).aorf = s.aorf := by
  unfold answerRepeat
  split
  · split <;> simp [outOfWindow_aorf]
  · split
    · simp
    · split <;> simp [outOfWindow_aorf]
  · exact outOfWindow_aorf p s

theorem judgeSequenced_reset_user {p : Packet} {k : Kind} (hp : ResetsAs p.chain k) (hk : k ≠ .powerOn ∧ k ≠ .brownOut)
    (h : s.nv.chains = []) : (judgeSequenced p s).aorf.user = s.aorf.user := by
  unfold judgeSequenced
  dsimp only
  split
  · simp
  · split
    · rw [answerRepeat_aorf]
    · split
      · rw [settle_reset_user hp hk (accept_chains_alone p h), accept_aorf]
      · rw [outOfWindow_aorf]

theorem judgeWhole_reset_user {p : Packet} {k : Kind} (n : Nat) (hp : ResetsAs p.chain k) (hk : k ≠ .powerOn ∧ k ≠ .brownOut)
    (ho : opSequenced p.opcode = some true) (h : s.nv.chains = []) : (judgeWhole p n s).aorf.user = s.aorf.user := by
  simp only [judgeWhole, ho, ↓reduceIte]
  split
  · rw [pushReply_aorf]
  · split
    · rw [pushReply_aorf]
    · exact judgeSequenced_reset_user hp hk h

theorem badLength_aorf (p : Packet) (s : State) : (badLength p s).aorf = s.aorf := pushReply_aorf _ _

theorem judge_reset_user {p : Packet} {k : Kind} (hp : ResetsAs p.chain k) (hk : k ≠ .powerOn ∧ k ≠ .brownOut)
    (ho : opSequenced p.opcode = some true) (h : s.nv.chains = []) : (judge p s).aorf.user = s.aorf.user := by
  unfold judge
  split
  · rfl
  · split
    · rw [badLength_aorf, takeTag_aorf]
    · rw [judgeWhole_reset_user (s := takeTag p s) _ hp hk ho h, takeTag_aorf]

/-- A packet of RESET_DEVICE keeps the host words, whatever becomes of it. -/
theorem receivePacket_reset_user {p : Packet} {k : Kind} (hp : ResetsAs p.chain k) (hk : k ≠ .powerOn ∧ k ≠ .brownOut)
    (ho : opSequenced p.opcode = some true) (h : s.nv.chains = []) : (receivePacket p s).aorf.user = s.aorf.user := by
  unfold receivePacket receive
  split
  · rfl
  · split
    · split
      · rfl
      · simp
    · rw [judge_reset_user hp hk ho (by rw [(touchBus_store s).chains, h]), touchBus_aorf]

/-- DBG_RESET keeps the host words (R367). -/
theorem probe_debugReset_user (addr : Word) (crc : Byte) (s : State) :
    (probe true 0x40 addr none crc debugReset s).aorf.user = s.aorf.user := by
  unfold probe
  split
  · rfl
  · next hlive =>
    have hrun : s.dev.phase = .running := by simp_all [live]
    dsimp only
    split
    · rfl
    · split
      · rfl
      · exact (assertReset_aorf_kept (s := { s with db := { s.db with clockUs := 0 } }) (k := .debug) false .none
          (asserted_of_running hrun) nofun nofun).user

theorem watchdogReset_user (h : s.dev.phase.asserted = false) : (watchdogReset s).aorf.user = s.aorf.user := by
  unfold watchdogReset
  split
  · rfl
  · exact (assertReset_aorf_kept (k := .watchdog) false .none h nofun nofun).user

theorem wake_user (byNrst : Bool) (h : s.dev.phase.asserted = false) : (wake byNrst s).aorf.user = s.aorf.user := by
  unfold wake
  split
  · exact (assertReset_aorf_kept (k := .dormantWake) byNrst .none h nofun nofun).user
  · rfl

theorem pinReset_user (h : s.dev.phase.asserted = false) : (pinReset s).aorf.user = s.aorf.user := by
  unfold pinReset
  split
  · exact (assertReset_aorf_kept (k := .dormantWake) true .none h nofun nofun).user
  · exact (assertReset_aorf_kept (k := .pin) false .none h nofun nofun).user

theorem clockTrip_user (why : BitVec 3) {x : Tear} (hx : cutsCommand x = false) (h : s.dev.phase.asserted = false) :
    (clockTrip why x s).aorf.user = s.aorf.user := by
  unfold clockTrip
  split
  · rfl
  · have htorn := tearPacket_cutOff x s hx
    refine (assertReset_aorf_kept (k := .clockWindow) false x ?_ nofun nofun).user.trans (congrArg Aorf.user htorn.aorf)
    change (tearPacket x s).dev.phase.asserted = false
    rw [htorn.dev, h]

/-- Settles O9: a reset that keeps the AORF keeps its host words, and a packet of RESET_DEVICE does nothing else to them. -/
theorem hostWords : Obligations.HostWords := by
  intro s tear why byNrst tag csn addr crc hphase hchains hcut
  have ha : s.dev.phase.asserted = false := by
    obtain h | h := hphase
    · exact asserted_of_running h
    · exact asserted_of_dormant h
  have ha' : (tearPacket tear s).dev.phase.asserted = false := by rw [(tearPacket_cutOff tear s hcut).dev, ha]
  simp only [List.forall_mem_cons, List.not_mem_nil, IsEmpty.forall_iff, implies_true, and_true]
  refine ⟨⟨⟨_, rfl, pinReset_user ha⟩, ⟨_, rfl, watchdogReset_user ha⟩, ⟨_, rfl, clockTrip_user why hcut ha⟩,
    ⟨_, rfl, wake_user byNrst ha⟩,
    ⟨_, rfl, receivePacket_reset_user (k := .warm) (fun _ => rfl) ⟨nofun, nofun⟩ rfl hchains⟩,
    ⟨_, rfl, receivePacket_reset_user (k := .cold) (fun _ => rfl) ⟨nofun, nofun⟩ rfl hchains⟩,
    ⟨_, rfl, probe_debugReset_user addr crc s⟩⟩,
    ⟨⟨_, rfl, assertReset_user_new false tear ha' (.inl rfl)⟩, ⟨_, rfl, assertReset_user_new false tear ha' (.inr rfl)⟩⟩,
    fun k => hrf_user k.isLt s⟩

end Sys2Proof.Machine
end

section
/-! PROOFS. LEARN_PULSES and the draws of a link (R118, R320): the end of a learning run takes links down, and with a link its waiting
draws. -/

namespace Sys2Proof.Machine

theorem exec_learnPulses (tag : BitVec 3) (csn : Word) (params : List Byte) (s : State) :
    exec (.learnPulses tag csn params) s = .next (receivePacket (seqPacket 0x63 tag csn params) s) := rfl

/-- STOP with link 0 up, whose fold into the engine's state still waits for a word, and no image that selects an input. -/
def foldWaits : State :=
  { Tests.idle with
    links := Tests.idle.links.set 0 { Link.new with phase := 6 }, ent := { Entropy.new with waiting := [.engineFold 0] } }

theorem accepts_foldWaits : Accepts 3 foldWaits := by unfold Accepts; decide

theorem inOrder_foldWaits : InOrder 1 foldWaits := by unfold InOrder StoreTakes; decide

/-- With no input to measure the run ends at once, and the draw of its port's link goes with the link. -/
theorem learn_foldWaits :
    (receivePacket (seqPacket 0x63 3 1 [1, 1, 0, 0]) foldWaits).ent.waiting = [] := by decide +kernel

/-- Refutes O32: LEARN_PULSES on a port without an input to measure ends at once and takes the port's link down, which withdraws
the link's waiting draw (R118, R320), so it changes the entropy source beside the links. -/
theorem not_commandFrames : ¬ Obligations.CommandFrames := by
  intro h
  obtain ⟨-, -, -, -, -, -, -, -, hports, -⟩ := h foldWaits 3 1 0 [1, 1, 0, 0] 0 0 0 0 false accepts_foldWaits inOrder_foldWaits
  obtain ⟨t, ht, hframe, -⟩ := hports (.learnPulses 3 1 [1, 1, 0, 0]) (by simp)
  have hwaits : t.ent.waiting = foldWaits.ent.waiting := congrArg (fun u => u.ent.waiting) hframe
  rw [exec_learnPulses] at ht
  rw [← Host.Outcome.next.inj ht, learn_foldWaits] at hwaits
  exact absurd hwaits (by decide)

end Sys2Proof.Machine
end

section
/-! PROOFS. A boot that completes a torn entry (R61, R250): the journal's recovery gives a command its place in E, and the boot
resumes it. -/

namespace Sys2Proof.Machine

theorem exec_boot (b : BootInputs) (s : State) : exec (.boot b) s = .next (boot b s) := rfl

/-- WRITE_HRF of COM_CTRL, waiting in E. -/
def comCtrlWrite : Chain := { csn := 1, opcode := 0x06, ctrl := 8, params := hrfEntry 0x21 3 1, crc := 0 }

/-- A reset that tore the write of the entry of `comCtrlWrite`: no chain is in E yet, and no image is active. -/
def tornEntry : State := { State.reset with nv := { Nv.new with torn := some (.entry comCtrlWrite 0) } }

/-- The boot completes the entry and carries the command out, so the settings are no more the compiler's. -/
theorem boot_tornEntry_speed : (boot Tests.goodBoot tornEntry).set.speed = 1 := by decide +kernel

/-- Refutes O11: a boot without an active image, with every test passed and no chain in E, still resumes the command whose torn
entry the recovery completes (R61, R250), and a resumed WRITE_HRF leaves settings that are not the compiler's. -/
theorem not_boot : ¬ Obligations.Boot := by
  intro h
  obtain ⟨-, hends⟩ := h
  obtain ⟨-, -, hnoImage, -⟩ := hends tornEntry Tests.goodBoot rfl rfl (by decide +kernel)
  obtain ⟨t, ht, -, -, -, -, -, -, hset, -⟩ :=
    hnoImage rfl rfl (by decide) rfl rfl rfl rfl rfl rfl rfl rfl
  rw [exec_boot] at ht
  have hspeed : (boot Tests.goodBoot tornEntry).set.speed = Settings.compiler.speed := by rw [Host.Outcome.next.inj ht, hset]
  rw [boot_tornEntry_speed] at hspeed
  exact absurd hspeed (by decide)

end Sys2Proof.Machine
end

section
/-! PROOFS. The exit from RUN (R145, R206, R226) whatever the command layer holds: it touches the Svaent frames, the entropy source's
waiting draws, the free values and what events touch; the stopped engine changes its own record beside that. -/

namespace Sys2Proof.Machine

/-- What the exit from RUN changes: Svaent frames, the draws that wait, the free values, and what events change. -/
def RunLeft (s t : State) : Prop :=
  t = { s with sf := t.sf, ent := t.ent, fresh := t.fresh, hb := t.hb, jr := t.jr, nv := t.nv } ∧ EventStore s t

namespace RunLeft

variable {s t u : State}

protected theorem refl (s : State) : RunLeft s s := ⟨rfl, .refl s⟩

theorem trans (h : RunLeft s t) (k : RunLeft t u) : RunLeft s u := ⟨by rw [k.1, h.1], h.2.trans k.2⟩

theorem of_event (h : StoreApart s t) (k : EventStore s t) : RunLeft s t := by
  refine ⟨?_, k⟩
  rw [StoreApart] at h
  rw [h]

/-- Svaent frames, draws and free values written, nothing stored. -/
theorem write (h : t = { s with sf := t.sf, ent := t.ent, fresh := t.fresh }) : RunLeft s t := by
  rw [h]
  exact ⟨rfl, .of_nv rfl⟩

protected theorem ite {c : Prop} [Decidable c] (h : RunLeft s t) (k : RunLeft s u) : RunLeft s (if c then t else u) := by
  split
  · exact h
  · exact k

theorem foldl {α : Type} {g : State → α → State} (h : ∀ s a, RunLeft s (g s a)) (l : List α) (s : State) :
    RunLeft s (l.foldl g s) := by
  induction l generalizing s with
  | nil => exact .refl s
  | cons a r ih => exact (h s a).trans (ih _)

theorem dev (h : RunLeft s t) : t.dev = s.dev := by rw [h.1]
theorem en (h : RunLeft s t) : t.en = s.en := by rw [h.1]
theorem cm (h : RunLeft s t) : t.cm = s.cm := by rw [h.1]
theorem db (h : RunLeft s t) : t.db = s.db := by rw [h.1]
theorem aorf (h : RunLeft s t) : t.aorf = s.aorf := by rw [h.1]
theorem chains (h : RunLeft s t) : t.nv.chains = s.nv.chains := h.2.chains

end RunLeft

theorem raise_left (src : Nat) (code : Half) (c : Cls) (arg : DWord) (s : State) : RunLeft s (raise src code c arg s) :=
  .of_event (raise_frame src code c arg s).1 (raise_store src code c arg s)

theorem raiseCause_left (bit : Nat) (s : State) : RunLeft s (raiseCause bit s) :=
  .of_event (by rw [StoreApart, raiseCause_eq]) (raiseCause_store bit s)

theorem rejectRemote_left (n reason : Nat) (seq : BitVec 28) (s : State) : RunLeft s (rejectRemote n reason seq s) := by
  unfold rejectRemote
  split
  · exact raise_left ..
  · exact .trans (t := { s with fresh := s.fresh + 1 }) (.write rfl) (raise_left ..)

theorem placeFrame_left (bytes : List Byte) (s : State) : RunLeft s (placeFrame bytes s) := by
  refine .ite ?_ (.write rfl)
  extract_lets lost _ placed caused
  have hplaced : RunLeft s placed := .write rfl
  have hcaused : RunLeft s caused := .ite (hplaced.trans (raiseCause_left _ _)) hplaced
  exact .ite hcaused (hcaused.trans (raise_left ..))

theorem producerSend_left (n : Nat) (s : State) : RunLeft s (producerSend n s) := by
  unfold producerSend
  split
  · extract_lets sent
    have hsent : RunLeft s { sent with sf := { sent.sf with txCount := inc32 sent.sf.txCount } } := .write rfl
    exact hsent.trans (placeFrame_left _ _)
  · exact .refl s

theorem dropRestarts_left (n : Nat) (s : State) : RunLeft s (dropRestarts n s) := by
  unfold dropRestarts
  extract_lets c cleared reject
  have hcleared : RunLeft s cleared := .write rfl
  have hreject (q : Option (BitVec 28)) (s : State) : RunLeft s (reject q s) := by
    cases q with
    | none => exact .refl s
    | some seq => exact rejectRemote_left n 9 seq s
  exact ((hcleared.trans (hreject _ _)).trans (hreject _ _)).trans (.foldl (fun s seq => rejectRemote_left n 9 seq s) _ _)

theorem leaveRun_left (s : State) : RunLeft s (leaveRun s) := by
  unfold leaveRun
  extract_lets dropped
  have hdropped : RunLeft s dropped := .trans (.foldl (fun s n => producerSend_left n s) _ s) (.foldl (fun s n => dropRestarts_left n s) _ _)
  clear_value dropped
  exact hdropped.trans (.write rfl)

/-! ### The stopped engine (R145, R196, R199, R374) -/

/-- The engine's record once it has stopped. -/
def Engine.stopped (e : Engine) : Engine :=
  { e with scanning := false, reverify := false, haltScan := false, haltedRun := false, haltedAgain := false, debug := false,
           holds := [], mode := { e.mode with pending := false, diff := [] } }

/-- The stopped engine before the host is told that a mode request of its ends (R309). -/
def engineStopped (s : State) : State :=
  let s := noteDisagree (leaveRun s)
  { s with en := s.en.stopped, dev := { s.dev with handover := 0 } }

theorem stopEngine_eq (s : State) : stopEngine s = endModeRequest (engineStopped s) := rfl

/-- The engine's and the device's record changed alike on both sides of an exit from RUN. -/
theorem RunLeft.map {s t : State} (h : RunLeft s t) (f : Engine → Engine) (g : Dev → Dev) :
    RunLeft { s with en := f s.en, dev := g s.dev } { t with en := f t.en, dev := g t.dev } := ⟨by rw [h.1], h.2⟩

/-- The engine's record once the bindings that differed are reported (R200). -/
def Engine.agreed (e : Engine) : Engine := { e with mode := { e.mode with diff := [] } }

theorem noteDisagree_left (s : State) : RunLeft { s with en := s.en.agreed } (noteDisagree s) :=
  (RunLeft.foldl (fun _ _ => raise_left ..) _ s).map Engine.agreed id

theorem engineStopped_left (s : State) :
    RunLeft { s with en := s.en.stopped, dev := { s.dev with handover := 0 } } (engineStopped s) :=
  (((leaveRun_left s).map Engine.agreed id).trans (noteDisagree_left (leaveRun s))).map Engine.stopped
    (fun d => { d with handover := 0 })

/-! ### A mode request that awaits the exit (R309, R372) -/

section
variable {s : State}

theorem headChain_of_no_chain (h : s.nv.chains = []) : headChain s = none := by simp [headChain, h]

/-- With no command waiting a mode request cannot end: at most a core halt holds its outcome. -/
theorem finishRunning_of_no_chain (h : s.nv.chains = []) (status : Byte) (data : List Byte) :
    finishRunning status data s = if s.db.coreHalted then holdOutcome status data s else s := by
  simp [finishRunning, headChain_of_no_chain h]

theorem holdOutcome_cm (status : Byte) (data : List Byte) (s : State) :
    holdOutcome status data s = { s with cm := { s.cm with running := (holdOutcome status data s).cm.running } } := by
  unfold holdOutcome
  split <;> rfl

theorem endModeRequest_of_no_chain (h : s.nv.chains = []) :
    endModeRequest s = { s with cm := { s.cm with running := (endModeRequest s).cm.running } } := by
  unfold endModeRequest
  split
  · rw [finishRunning_of_no_chain h]
    split
    · exact holdOutcome_cm ..
    · rfl
  · rfl

theorem engineStopped_chains (h : s.nv.chains = []) : (engineStopped s).nv.chains = [] := (engineStopped_left s).chains.trans h

end

/-! ### Entries into a state (Table 3-7) -/

theorem setState_dev (new : DvState) (why : Nat) (s : State) :
    (setState new why s).dev = if s.dev.dvState = new then s.dev else withPins new s.dev := by
  unfold setState
  split <;> simp

theorem setState_store (new : DvState) (why : Nat) (s : State) : EventStore s (setState new why s) := by
  unfold setState
  split
  · exact .refl s
  · extract_lets old c _ pinned
    have hpinned : EventStore s pinned := .of_nv rfl
    exact (hpinned.trans (raise_store ..)).trans (raiseCause_store ..)

/-- What the engine's stop leaves of the state `s` while no command waits. -/
structure EngineStop (s t : State) : Prop where
  en : t.en = s.en.stopped
  dev : t.dev = { s.dev with handover := 0 }
  db : t.db = s.db
  aorf : t.aorf = s.aorf
  buffer : t.cm.buffer = s.cm.buffer
  store : EventStore s t

theorem stopEngine_stops {s : State} (h : s.nv.chains = []) : EngineStop s (stopEngine s) := by
  have hleft := engineStopped_left s
  obtain ⟨running, hend⟩ : ∃ r, stopEngine s = { engineStopped s with cm := { (engineStopped s).cm with running := r } } :=
    ⟨_, (stopEngine_eq s).trans (endModeRequest_of_no_chain (engineStopped_chains h))⟩
  rw [hend]
  generalize engineStopped s = u at hleft
  have hwritten : EventStore s { s with en := s.en.stopped, dev := { s.dev with handover := 0 } } := .of_nv rfl
  have hstore : EventStore s u := hwritten.trans hleft.2
  have hbuffer : u.cm.buffer = s.cm.buffer := by rw [hleft.cm]
  exact ⟨hleft.en, hleft.dev, hleft.db, hleft.aorf, hbuffer, hstore.trans (.of_nv rfl)⟩

/-- What an entry into FAULT leaves while no command waits (R158, R159). -/
structure FaultEntered (verify : Bool) (code detail : Byte) (s t : State) : Prop where
  en : t.en = { s.en.stopped with reverify := verify, reverifyOk := s.en.reverifyOk && !verify }
  dvState : t.dev.dvState = .fault
  safeOk : s.dev.dvState ≠ .fault → t.dev.safeOk = false
  faultCode : t.dev.faultCode = code
  faultDetail : t.dev.faultDetail = detail
  faultCount : t.dev.faultCount = inc8 s.dev.faultCount
  db : t.db = s.db
  aorf : t.aorf = s.aorf
  buffer : t.cm.buffer = s.cm.buffer
  store : EventStore s t

theorem faultEntry_entered (verify : Bool) (code detail : Byte) {s : State} (h : s.nv.chains = []) :
    FaultEntered verify code detail s (faultEntry verify code detail s) := by
  have hstop := stopEngine_stops h
  unfold faultEntry
  extract_lets stopped e d marked
  change EngineStop s stopped at hstop
  clear_value stopped
  obtain ⟨hen, hdev, hdb, haorf, hbuffer, hstore⟩ := hstop
  have hmarked : EventStore stopped marked := .of_nv rfl
  have hmen : marked.en = { s.en.stopped with reverify := verify, reverifyOk := s.en.reverifyOk && !verify } := by
    show ({ stopped.en with reverify := verify, reverifyOk := stopped.en.reverifyOk && !verify } : Engine) = _
    rw [hen]; rfl
  have hmdev : marked.dev =
      { s.dev with handover := 0, faultCode := code, faultDetail := detail, faultCount := inc8 s.dev.faultCount } := by
    show ({ stopped.dev with faultCode := code, faultDetail := detail, faultCount := inc8 stopped.dev.faultCount } : Dev) = _
    rw [hdev]
  have hmdb : marked.db = s.db := hdb
  have hmaorf : marked.aorf = s.aorf := haorf
  have hmbuffer : marked.cm.buffer = s.cm.buffer := hbuffer
  clear_value marked
  have hout := setState_dev .fault code.toNat marked
  rw [hmdev] at hout
  refine ⟨(setState_en ..).trans hmen, setState_dvState .., fun hne => ?_, ?_, ?_, ?_, (setState_db ..).trans hmdb,
    (setState_aorf ..).trans hmaorf, (congrArg Cmd.buffer (setState_cm ..)).trans hmbuffer,
    (hstore.trans hmarked).trans (setState_store ..)⟩
  · rw [hout, if_neg hne]; rfl
  all_goals rw [hout]; split <;> rfl

end Sys2Proof.Machine
end

section
/-! PROOFS. The marionette port (R69, R327, R367 to R374): a request that the port carries out is its command in the state that has
seen the port's clock. -/

namespace Sys2Proof.Machine

/-! ### Requests (R367, R368) -/

/-- The port's clock is seen. -/
def clockSeen (s : State) : State := { s with db := { s.db with clockUs := 0 } }

/-- A response DONE with the data `w`, after which `P` holds. -/
def Answers (w : Option Word) (P : State → Prop) (t : State) : Prop :=
  t.db.respStatus = dbDone ∧ t.db.respData = w ∧ t.db.respCrc = w.map (fun x => crc8 (probeBytes x)) ∧ P t

/-- A response REFUSED with its reason, of which the port alone takes notice. -/
def Refuses (s : State) (reason : BitVec 4) (t : State) : Prop :=
  t.db.respStatus = dbRefused ∧ t.db.lastReason = reason ∧ DebugFrame s t

theorem probeDone_answers {u : State} {P : State → Prop} (h : P (probeDone u)) : Answers none P (probeDone u) := ⟨rfl, rfl, rfl, h⟩

theorem probeData_answers {w : Word} {u : State} {P : State → Prop} (h : P (probeData w u)) : Answers (some w) P (probeData w u) :=
  ⟨rfl, rfl, rfl, h⟩

theorem probeRefuse_refuses (reason : BitVec 4) (s : State) : Refuses s reason (probeRefuse reason (clockSeen s)) := ⟨rfl, rfl, rfl⟩

section
variable {s : State} (hl : live s = true) (hd : debugDisabled s = false)
include hl hd

/-- A request whose CRC checks and which the lock does not keep back is carried out. -/
theorem probe_carries {needs : Bool} (hu : needs = true → probeLocked s = false) (cmd : Byte) (addr : Word) (data : Option Word)
    (f : State → State) : probe needs cmd addr data (probeCrc cmd addr data) f s = f (clockSeen s) := by
  have hlock : (needs && probeLocked (clockSeen s)) = false := by
    cases needs
    · rfl
    · exact hu rfl
  have hopen : (!live s || debugDisabled s) = false := by rw [hl, hd]; rfl
  unfold probe
  simp only [hopen, Bool.false_eq_true, ↓reduceIte, ne_eq, not_true_eq_false]
  exact if_neg (Bool.eq_false_iff.mp hlock)

theorem runs_probe {i : Instr} {needs : Bool} {cmd : Byte} {addr : Word} {data : Option Word} {f : State → State}
    (he : exec i s = .next (probe needs cmd addr data (probeCrc cmd addr data) f s)) (hu : needs = true → probeLocked s = false)
    {P : State → Prop} (h : P (f (clockSeen s))) : Runs i s P :=
  ⟨_, he, by rw [probe_carries hl hd hu]; exact h⟩

end

/-! ### Responses to a challenge (R327, R369) -/

section
variable {s : State}

theorem responseWord_stores {addr data : Word} (h : addr.toNat < 7) :
    responseWord addr data s = probeDone { s with db := { s.db with respWords := s.db.respWords.setIfInBounds addr.toNat data } } := by
  unfold responseWord
  rw [if_neg (by omega)]
  exact if_pos h

theorem responseWord_submits {c : DWord} (data : Word) (h : s.db.challenge = some c) :
    responseWord 7 data s =
      probeDone (submitResponse c { s with db := { s.db with respWords := s.db.respWords.setIfInBounds 7 data } }) := by
  unfold responseWord
  rw [if_neg (by decide)]
  simp [h]

/-- An event of the port, of a class that no enable drops, enters an open journal beside what the port itself has written. -/
theorem raise_probe (h : JournalOpen s) (code : Half) (arg : DWord) (d : Debug) :
    raise 236 code .warning arg { s with db := d } =
      { s with db := d, jr := { s.jr with queue := s.jr.queue ++ [eventOf 236 code .warning arg s] } } :=
  raise_open _ _ .warning _ _ (show JournalOpen { s with db := d } from h) (.inl (Nat.le_refl 2))

theorem submitResponse_right {c : DWord} (h : givenResponse s = expectedResponse c s) (ho : JournalOpen s) :
    submitResponse c s = { s with
      db := { s.db with challenge := none, chalUs := 0, unlocked := true }
      jr := { s.jr with queue := s.jr.queue ++ [eventOf 236 0x1001 .warning (argOf [(0, s.db.failures.toNat)]) s] } } := by
  unfold submitResponse
  extract_lets ok before spent unlocked
  have hok : ok = true := by simp [ok, h]
  clear_value ok
  exact (if_pos hok).trans (raise_probe ho _ _ _)

theorem submitResponse_wrong {c : DWord} (h : givenResponse s ≠ expectedResponse c s) :
    (submitResponse c s).db =
      { s.db with challenge := none, chalUs := 0, failures := inc8 s.db.failures, refuseUs := true } := by
  unfold submitResponse
  extract_lets ok before spent unlocked
  have hok : ¬ ok = true := by simp [ok, h]
  clear_value ok
  rw [if_neg hok, raise_db]

end

/-! ### Memory (R370, Table 18-2) -/

theorem regionOf_user (k : Fin 8) :
    regionOf (BitVec.ofNat 32 (0x40001020 + 4 * k.val)).toNat = some (.aorf, 32 + 4 * k.val) := by
  revert k; decide

theorem regionOf_image {o : Nat} (h : o < 4096) :
    regionOf (BitVec.ofNat 32 (0x60000000 + 4 * o)).toNat = some (.image, 4 * o) := by
  have ha : (BitVec.ofNat 32 (0x60000000 + 4 * o)).toNat = 0x60000000 + 4 * o := by
    rw [BitVec.toNat_ofNat]; omega
  rw [ha]
  unfold regionOf
  extract_lets hit
  have hmiss (r : Region) (base size : Nat) (hb : base + size ≤ 0x60000000) : hit r base size = none :=
    if_neg (by omega)
  have himage : hit .image 0x60000000 0x4000 = some (.image, 4 * o) := by
    simp only [hit]
    rw [if_pos (by omega), Nat.add_sub_cancel_left]
  simp (disch := norm_num) only [hmiss, Option.none_or, himage, Option.some_or]

theorem Sram.get_cons (c : Host.Cell) (m : List Host.Cell) (x : Nat) :
    Sram.get (c :: m) x = if c.1 = x then some c.2 else Sram.get m x := by
  unfold Sram.get
  by_cases h : c.1 = x <;> simp [h]

/-- A cell reads what was put there last, and every other cell what it read before. -/
theorem Sram.get_put (m : List Host.Cell) (a x : Nat) (b : Byte) :
    Sram.get (Sram.put m a b) x = if a = x then some b else Sram.get m x := by
  induction m with
  | nil => simp [Sram.put, Sram.get_cons]
  | cons c r ih =>
    unfold Sram.put
    split
    · exact Sram.get_cons ..
    · split
      · rename_i hac
        simp only [Sram.get_cons, ← hac]
        split <;> rfl
      · rename_i hac
        simp only [Sram.get_cons, ih]
        split
        · rename_i hcx
          rw [if_neg (by omega)]
        · rfl

theorem Sram.get_putBytes_below (bs : List Byte) (m : List Host.Cell) {a x : Nat} (h : x < a) :
    Sram.get (Sram.putBytes m a bs) x = Sram.get m x := by
  induction bs generalizing m a with
  | nil => rfl
  | cons b r ih => exact (ih _ (by omega)).trans ((Sram.get_put ..).trans (if_neg (by omega)))

theorem Sram.get_putBytes (bs : List Byte) (m : List Host.Cell) (a : Nat) {i : Nat} (h : i < bs.length) :
    Sram.get (Sram.putBytes m a bs) (a + i) = bs[i]? := by
  induction bs generalizing m a i with
  | nil => simp at h
  | cons b r ih =>
    cases i with
    | zero => exact (Sram.get_putBytes_below r _ (by omega)).trans ((Sram.get_put ..).trans (if_pos rfl))
    | succ i =>
      have hr := ih (Sram.put m a b) (a + 1) (i := i) (by simpa using h)
      rw [show a + 1 + i = a + (i + 1) by omega] at hr
      exact hr

/-- A word of the coded image reads back as it was written, among the signals and past them. -/
theorem imageByte_writeImage (o : Nat) (data : Word) (s : State) {i : Nat} (h : i < 4) :
    imageByte (4 * o + i) (writeImage (4 * o) data s) = (bytes4 data)[i]? := by
  have hword : (4 * o + i) / 4 = o := by omega
  have hbyte : (4 * o + i) % 4 = i := by omega
  have hoff : 4 * o / 4 = o := by omega
  unfold writeImage imageByte
  rw [hword, hbyte, hoff]
  by_cases hin : o < s.en.words.length
  · rw [if_pos hin]
    simp [hin, knownAt]
  · rw [if_neg hin]
    simp only [List.getElem?_eq_none (Nat.le_of_not_lt hin)]
    exact Sram.get_putBytes _ _ _ (by simpa [bytes4, length_leBytes] using h)

theorem imageBytes_writeImage (o : Nat) (data : Word) (s : State) :
    (List.range 4).map (fun i => imageByte (4 * o + i) (writeImage (4 * o) data s)) = (bytes4 data).map some := by
  refine List.ext_getElem? fun i => ?_
  by_cases h : i < 4
  · have hlen : i < (bytes4 data).length := by simpa [bytes4, length_leBytes] using h
    simp [h, imageByte_writeImage o data s h, hlen]
  · have hlen : ¬ i < (bytes4 data).length := by simpa [bytes4, length_leBytes] using h
    simp [h, hlen]

theorem writeImage_frame (off : Nat) (data : Word) (s : State) : writeImage off data s = { s with
    en := { s.en with words := (writeImage off data s).en.words, beyond := (writeImage off data s).en.beyond } } := by
  unfold writeImage
  split <;> rfl

theorem wordAt_flatMap_bytes4 (ws : List Word) {k : Nat} (h : k < ws.length) : wordAt (ws.flatMap bytes4) (4 * k) = ws[k] := by
  induction ws generalizing k with
  | nil => simp at h
  | cons w r ih =>
    rw [List.flatMap_cons]
    cases k with
    | zero => exact wordAt_mid [] (r.flatMap bytes4) w
    | succ k =>
      have hlen : (bytes4 w).length = 4 := length_leBytes ..
      rw [show 4 * (k + 1) = (bytes4 w).length + 4 * k by omega, wordAt_append]
      exact ih (by simpa using h)

/-- The host words stand in the AORF after the 30 bytes of the device and their check (Table 3-6). -/
theorem wordAt_user (a : Aorf) (k : Fin 8) : wordAt a.bytes (32 + 4 * k.val) = a.user[k.val] := by
  have hlen : (a.deviceBytes ++ bytes2 a.crc).length = 32 := by simp [Aorf.deviceBytes, bytes4, bytes2, length_leBytes]
  unfold Aorf.bytes
  rw [show 32 + 4 * k.val = (a.deviceBytes ++ bytes2 a.crc).length + 4 * k.val by omega, wordAt_append,
    wordAt_flatMap_bytes4 _ (by simp)]
  simp

section
variable {s : State} {addr data : Word}

theorem memRead_user (k : Fin 8) (h : addr = BitVec.ofNat 32 (0x40001020 + 4 * k.val)) :
    memRead addr s = probeData s.aorf.user[k.val] s := by
  have haligned : addr.toNat % 4 = 0 := by subst h; revert k; decide
  unfold memRead
  rw [if_neg (by simp [haligned]), h, regionOf_user]
  exact congrArg (fun w => probeData w s) (wordAt_user s.aorf k)

theorem memWrite_user (k : Fin 8) (h : addr = BitVec.ofNat 32 (0x40001020 + 4 * k.val)) :
    memWrite addr data s = probeDone { s with aorf := { s.aorf with user := s.aorf.user.set k.val data } } := by
  have haligned : addr.toNat % 4 = 0 := by subst h; revert k; decide
  have hset : s.aorf.user.setIfInBounds k.val data = s.aorf.user.set k.val data := by
    simp [Vector.setIfInBounds, Vector.set, Array.setIfInBounds]
  unfold memWrite
  rw [if_neg (by simp [haligned]), h, regionOf_user]
  simp only [show ¬ 32 + 4 * k.val < 32 by omega, ↓reduceIte, show (32 + 4 * k.val - 32) / 4 = k.val by omega, hset]

theorem memWrite_image {o : Nat} (ho : o < 4096) (h : addr = BitVec.ofNat 32 (0x60000000 + 4 * o)) :
    memWrite addr data s = probeDone (writeImage (4 * o) data s) := by
  have haligned : addr.toNat % 4 = 0 := by rw [h, BitVec.toNat_ofNat]; omega
  unfold memWrite
  rw [if_neg (by simp [haligned]), h, regionOf_image ho]

theorem memRead_misaligned (h : addr.toNat % 4 ≠ 0) : memRead addr s = probeRefuse 3 s := if_pos h

theorem memWrite_misaligned (h : addr.toNat % 4 ≠ 0) : memWrite addr data s = probeRefuse 3 s := if_pos h

end

/-! ### The core halts and is released (R69, R372, R373) -/

theorem withPins_heldState (st : DvState) (d : Dev) : (withPins st d).heldState = d.heldState := rfl

theorem endPending_db (s : State) : (endPending s).db = s.db := by unfold endPending; split <;> rfl

theorem endDebug_db (s : State) : (endDebug s).db = s.db := by unfold endDebug; split <;> rfl

/-- What a core halt leaves: the state it was in is held, and the halt counted. -/
theorem haltCore_halts (addr : Word) (cause : Nat) (s : State) :
    (haltCore addr cause s).db.coreHalted = true ∧ (haltCore addr cause s).dev.heldState = s.dev.dvState
      ∧ (haltCore addr cause s).dev.dvState = .debugHalt ∧ (haltCore addr cause s).db.haltCount = inc16 s.db.haltCount := by
  unfold haltCore
  extract_lets was left why _ _ _ halted raised
  have hleft : left.db = s.db := by
    refine (endDebug_db _).trans ?_
    split
    · exact (endPending_db _).trans (leaveRun_left s).db
    · rfl
  have hdb : raised.db = halted.db := raise_db ..
  have hdev : raised.dev = halted.dev := raise_dev ..
  refine ⟨?_, ?_, setState_dvState .., ?_⟩
  · rw [setState_db, hdb]
  · rw [setState_dev]
    split
    · rw [hdev]
    · rw [withPins_heldState, hdev]
  · rw [setState_db, hdb]
    exact congrArg (fun d => inc16 d.haltCount) hleft

section
variable {s : State}

/-- The state in which the release of the core is judged. -/
def releasedCore (s : State) : State :=
  raise 236 0x1004 .notice (argOf [(0, satNat 0xFFFFFFFF ((s.clock - s.db.haltUs) / 1000))])
    { s with db := { s.db with coreHalted := false } }

theorem releasedCore_frame (s : State) : EventFrame { s with db := { s.db with coreHalted := false } } (releasedCore s) :=
  raise_frame ..

theorem releasedCore_dev (s : State) : (releasedCore s).dev = s.dev := raise_dev ..
theorem releasedCore_en (s : State) : (releasedCore s).en = s.en := raise_en ..
theorem releasedCore_cm (s : State) : (releasedCore s).cm = s.cm := raise_cm ..
theorem releasedCore_db (s : State) : (releasedCore s).db = { s.db with coreHalted := false } := raise_db ..
theorem releasedCore_chains (s : State) : (releasedCore s).nv.chains = s.nv.chains := (releasedCore_frame s).2.chains

theorem endHeld_of_released (h : s.nv.chains = []) (hh : s.db.coreHalted = false) : endHeld s = s := by
  unfold endHeld
  split
  · rw [finishRunning_of_no_chain h, hh]; rfl
  · rfl

/-- With no command and no packet waiting, the release is that of the device's state. -/
theorem coreResume_released (hh : s.db.coreHalted = true) (hc : s.nv.chains = [])
    (hchains : (releaseState (releasedCore s)).nv.chains = []) (hbuffer : (releaseState (releasedCore s)).cm.buffer = none) :
    coreResume s = probeDone (releaseState (releasedCore s)) := by
  have hheld : endHeld (releasedCore s) = releasedCore s :=
    endHeld_of_released ((releasedCore_chains s).trans hc) (by rw [releasedCore_db])
  have hjudge : judgeBuffered (probeDone (releaseState (releasedCore s))) = probeDone (releaseState (releasedCore s)) := by
    unfold judgeBuffered
    have hnone : (probeDone (releaseState (releasedCore s))).cm.buffer = none := hbuffer
    rw [hnone]
  calc coreResume s = settle (judgeBuffered (probeDone (releaseState (endHeld (releasedCore s))))) := if_pos hh
    _ = probeDone (releaseState (releasedCore s)) := by rw [hheld, hjudge]; exact settle_none _ hchains

/-- Out of a halt in STOP the device is in STOP again. -/
theorem releaseState_stop (h : s.dev.heldState = .stop) (hf : s.en.haltedRun = false ∨ s.dev.faultCode ≠ 0x01) :
    releaseState s = setState .stop (freeCause s) { s with fresh := s.fresh + 1 } := by
  have hcond : (s.dev.heldState == .run || (s.en.haltedRun && s.dev.faultCode == 0x01)) = false := by
    have hcode : (s.dev.faultCode == 0x01) = decide (s.dev.faultCode = 0x01) := rfl
    rcases hf with hf | hf <;> simp only [h, hcode, hf] <;> simp
  unfold releaseState
  rw [hcond, h]
  rfl

/-- Out of a halt in RUN the device enters FAULT. -/
theorem releaseState_run (h : s.dev.heldState = .run) (hf : s.dev.faultCode ≠ 0x01) :
    releaseState s = faultEntry true 0x07 0 s := by
  have hcode : (s.dev.faultCode == 0x01) = decide (s.dev.faultCode = 0x01) := rfl
  unfold releaseState releaseFault
  simp only [h, hcode, hf]
  simp [enterFault]

theorem coreResume_stop (hh : s.db.coreHalted = true) (hc : s.nv.chains = []) (hb : s.cm.buffer = none)
    (h : s.dev.heldState = .stop) (hf : s.en.haltedRun = false ∨ s.dev.faultCode ≠ 0x01) :
    Answers none (fun t => t.db.coreHalted = false ∧ t.dev.dvState = .stop) (coreResume s) := by
  have hrel := releaseState_stop (s := releasedCore s) (by rw [releasedCore_dev, h]) (by rwa [releasedCore_en, releasedCore_dev])
  have hchains : (releaseState (releasedCore s)).nv.chains = [] := by
    rw [hrel, (setState_store ..).chains]
    exact (releasedCore_chains s).trans hc
  have hbuffer : (releaseState (releasedCore s)).cm.buffer = none := by
    rw [hrel, setState_cm]
    exact (congrArg Cmd.buffer (releasedCore_cm s)).trans hb
  rw [coreResume_released hh hc hchains hbuffer]
  refine probeDone_answers ⟨?_, ?_⟩
  · show (releaseState (releasedCore s)).db.coreHalted = false
    rw [hrel, setState_db]
    exact congrArg Debug.coreHalted (releasedCore_db s)
  · show (releaseState (releasedCore s)).dev.dvState = .stop
    rw [hrel, setState_dvState]

theorem coreResume_run (hh : s.db.coreHalted = true) (hc : s.nv.chains = []) (hb : s.cm.buffer = none)
    (h : s.dev.heldState = .run) (hf : s.dev.faultCode ≠ 0x01) :
    Answers none (fun t => t.db.coreHalted = false ∧ t.dev.dvState = .fault ∧ t.dev.faultCode = 0x07) (coreResume s) := by
  have hrel := releaseState_run (s := releasedCore s) (by rw [releasedCore_dev, h]) (by rwa [releasedCore_dev])
  have hnone := (releasedCore_chains s).trans hc
  have hfault := faultEntry_entered true 0x07 0 hnone
  have hchains : (releaseState (releasedCore s)).nv.chains = [] := by
    rw [hrel]
    exact hfault.store.chains.trans hnone
  have hbuffer : (releaseState (releasedCore s)).cm.buffer = none := by
    rw [hrel]
    exact hfault.buffer.trans ((congrArg Cmd.buffer (releasedCore_cm s)).trans hb)
  rw [coreResume_released hh hc hchains hbuffer, hrel]
  have hhalted : (releasedCore s).db.coreHalted = false := by rw [releasedCore_db]
  generalize faultEntry true 0x07 0 (releasedCore s) = t at hfault ⊢
  exact probeDone_answers ⟨(congrArg Debug.coreHalted hfault.db).trans hhalted, hfault.dvState, hfault.faultCode⟩

/-! ### Engine debug mode (R374) -/

theorem engHalt_answers (h : s.dev.dvState = .stop) : Answers none (fun t => t.en.debug = true ∧ t.en.dryStep = 0
    ∧ t.dev = s.dev ∧ t.db.engCount = inc16 s.db.engCount) (engHalt s) := by
  unfold engHalt
  rw [if_pos h]
  refine probeDone_answers ⟨?_, ?_, ?_, ?_⟩ <;> simp [probeDone, respond]

theorem dryNext_block {im : Image} {ix : Nat} {b : Block} (ho : im.order[s.en.dryStep]? = some ix) (hb : im.blocks[ix]? = some b) :
    (dryNext im s).en.words = (dryBlock im ix b s).words ∧ (dryNext im s).en.blocks = s.en.blocks
      ∧ (dryNext im s).en.scanNo = s.en.scanNo ∧ (dryNext im s).dev = s.dev := by
  unfold dryNext
  simp only [ho, hb]
  split
  · unfold dryReject
    simp
  · exact ⟨rfl, rfl, rfl, rfl⟩

theorem engStep_answers {im : Image} {ix : Nat} {b : Block} (hd : s.en.debug = true) (hi : s.en.image = some im)
    (ho : im.order[s.en.dryStep]? = some ix) (hb : im.blocks[ix]? = some b) :
    Answers none (fun t => t.en.words = (dryBlock im ix b s).words ∧ t.en.blocks = s.en.blocks ∧ t.en.scanNo = s.en.scanNo
      ∧ t.dev = s.dev) (engStep s) := by
  unfold engStep
  rw [hd, hi]
  exact probeDone_answers (dryNext_block ho hb)

theorem engResume_answers : Answers none (fun t => t.en = { s.en with debug := false, dryStep := 0 }) (engResume s) :=
  probeDone_answers rfl

theorem engStep_refused (h : s.en.debug = false) : engStep s = probeRefuse 4 s := by
  unfold engStep
  rw [h]

theorem debugReset_answers (h : s.dev.phase = .running) : Answers none (fun t => t.dev.phase = .inReset ∧ t.dev.cause = 8
    ∧ t.tb.counter = s.tb.counter ∧ t.cm = Cmd.new) (debugReset s) := by
  have halone := assertReset_alone .debug false .none (asserted_of_running h)
  exact probeDone_answers ⟨halone.phase, halone.cause, halone.counter, rfl⟩

end

/-! ### The requests -/

section
variable {s : State}

theorem challengeRead_some {addr : Word} {c : DWord} (ha : addr.toNat ≤ 1) (hc : s.db.challenge = some c) :
    challengeRead addr s = probeData ((c >>> (32 * addr.toNat)).setWidth 32) s := by
  unfold challengeRead
  rw [if_neg (by omega), hc]

theorem challengeRead_none {addr : Word} (ha : addr.toNat ≤ 1) (hc : s.db.challenge = none) :
    challengeRead addr s = probeRefuse 4 s := by
  unfold challengeRead
  rw [if_neg (by omega), hc]

theorem responseWord_stored {addr data : Word} (h : addr.toNat < 7) :
    Answers none (fun t => DebugFrame s t ∧ t.db.respWords = s.db.respWords.setIfInBounds addr.toNat data
      ∧ t.db.challenge = s.db.challenge) (responseWord addr data s) := by
  rw [responseWord_stores h]
  exact probeDone_answers ⟨rfl, rfl, rfl⟩

/-- The right response unlocks the port and spends the challenge (R369). -/
theorem responseWord_unlocks {c : DWord} {data : Word} (hc : s.db.challenge = some c) (ho : JournalOpen s)
    (h : (s.db.respWords.setIfInBounds 7 data).toList.flatMap bytes4 = expectedResponse c s) :
    Answers none (fun t => t.db.unlocked = true ∧ t.db.challenge = none
      ∧ Gained [eventOf 236 0x1001 .warning (argOf [(0, s.db.failures.toNat)]) s] s t) (responseWord 7 data s) := by
  have hright := submitResponse_right (s := { s with db := { s.db with respWords := s.db.respWords.setIfInBounds 7 data } }) h ho
  rw [responseWord_submits data hc, hright]
  exact probeDone_answers ⟨rfl, rfl, rfl⟩

/-- A wrong response counts a failure and spends the challenge (R369). -/
theorem responseWord_fails {c : DWord} {data : Word} (hc : s.db.challenge = some c)
    (h : (s.db.respWords.setIfInBounds 7 data).toList.flatMap bytes4 ≠ expectedResponse c s) :
    Answers none (fun t => t.db.unlocked = s.db.unlocked ∧ t.db.challenge = none ∧ t.db.failures = inc8 s.db.failures
      ∧ t.db.refuseUs = true) (responseWord 7 data s) := by
  have hdb := submitResponse_wrong (s := { s with db := { s.db with respWords := s.db.respWords.setIfInBounds 7 data } }) h
  rw [responseWord_submits data hc]
  refine probeDone_answers ⟨?_, ?_, ?_, ?_⟩ <;> simp only [probeDone, respond, hdb]

theorem memWrite_user_answers {addr data : Word} (k : Fin 8) (h : addr = BitVec.ofNat 32 (0x40001020 + 4 * k.val)) :
    Answers none (fun t => t.aorf = { s.aorf with user := s.aorf.user.set k.val data } ∧ t.nv = s.nv ∧ t.dev = s.dev)
      (memWrite addr data s) := by
  rw [memWrite_user k h]
  exact probeDone_answers ⟨rfl, rfl, rfl⟩

theorem memWrite_image_answers {addr data : Word} {o : Nat} (ho : o < 4096) (h : addr = BitVec.ofNat 32 (0x60000000 + 4 * o)) :
    Answers none (fun t => t.nv = s.nv ∧ t.dev = s.dev ∧ t.en = { s.en with words := t.en.words, beyond := t.en.beyond }
      ∧ (List.range 4).map (fun i => imageByte (4 * o + i) t) = (bytes4 data).map some) (memWrite addr data s) := by
  have hframe := writeImage_frame (4 * o) data s
  have hbytes := imageBytes_writeImage o data s
  rw [memWrite_image ho h]
  generalize writeImage (4 * o) data s = t at hframe hbytes ⊢
  have hnv : t.nv = s.nv := (congrArg State.nv hframe :)
  have hdev : t.dev = s.dev := (congrArg State.dev hframe :)
  have hen : t.en = { s.en with words := t.en.words, beyond := t.en.beyond } := congrArg State.en hframe
  exact probeDone_answers ⟨hnv, hdev, hen, hbytes⟩

theorem coreHalt_answers (h : haltAllowed s = true) : Answers none (fun t => t.db.coreHalted = true
    ∧ t.dev.heldState = s.dev.dvState ∧ t.dev.dvState = .debugHalt ∧ t.db.haltCount = inc16 s.db.haltCount) (coreHalt s) := by
  unfold coreHalt
  rw [if_pos h]
  exact probeDone_answers (haltCore_halts (Config.freeWord s.fresh) 1 { s with fresh := s.fresh + 1 })

theorem coreStep_answers (h : s.db.coreHalted = true) :
    Answers none (fun t => t.db.coreHalted = true ∧ t.dev = s.dev ∧ t.en = s.en) (coreStep s) := by
  unfold coreStep
  rw [if_pos h]
  exact probeDone_answers ⟨h, rfl, rfl⟩

theorem not_coreHalted (h : s.db.coreHalted = false) : ¬ s.db.coreHalted = true := by simp [h]

end

/-- Settles O59: each request reaches its command in the state that has seen the clock, and is answered as the command's own lemma
says. -/
theorem probeRequests : Obligations.Probe := by
  unfold Obligations.Probe
  intro s addr data hl hd crc s' answers refuses
  have free {i : Instr} {cmd : Byte} {a : Word} {data : Option Word} {f : State → State}
      (he : exec i s = .next (probe false cmd a data (probeCrc cmd a data) f s)) {P : State → Prop}
      (h : P (f (clockSeen s))) : Runs i s P := runs_probe hl hd he nofun h
  refine ⟨free rfl (probeData_answers rfl), ?_, ?_, ?_, ?_, ?_, ?_⟩
  · refine free rfl ?_
    exact ⟨rfl, rfl, rfl⟩
  · intro c hc ha
    refine free rfl ?_
    rw [challengeRead_some (s := clockSeen s) ha hc]
    exact probeData_answers rfl
  · intro hc ha
    refine free rfl ?_
    rw [challengeRead_none (s := clockSeen s) ha hc]
    exact probeRefuse_refuses 4 s
  · intro ha
    refine free rfl ?_
    exact responseWord_stored (s := clockSeen s) ha
  · intro c hc ha ho given
    subst ha
    exact ⟨fun h => free rfl (responseWord_unlocks (s := clockSeen s) hc ho h),
      fun h => free rfl (responseWord_fails (s := clockSeen s) hc h)⟩
  · intro hu
    have unlocked {i : Instr} {cmd : Byte} {a : Word} {data : Option Word} {f : State → State}
        (he : exec i s = .next (probe true cmd a data (probeCrc cmd a data) f s)) {P : State → Prop}
        (h : P (f (clockSeen s))) : Runs i s P := runs_probe hl hd he (fun _ => hu) h
    have refused {i : Instr} {cmd : Byte} {a : Word} {data : Option Word} {f : State → State} {reason : BitVec 4}
        (he : exec i s = .next (probe true cmd a data (probeCrc cmd a data) f s))
        (h : f (clockSeen s) = probeRefuse reason (clockSeen s)) : refuses i reason :=
      unlocked he (h ▸ probeRefuse_refuses reason s)
    refine ⟨fun k hk => ⟨unlocked rfl ?_, unlocked rfl ?_⟩, fun o ho ha => unlocked rfl (memWrite_image_answers ho ha),
      fun ha => ⟨refused rfl (memRead_misaligned ha), refused rfl (memWrite_misaligned ha)⟩,
      fun hh => unlocked rfl (coreHalt_answers (s := clockSeen s) hh), fun hh hc hb => ⟨?_, ?_, ?_⟩,
      fun hh => ⟨refused rfl (if_neg (not_coreHalted (s := clockSeen s) hh)), refused rfl (if_neg (not_coreHalted (s := clockSeen s) hh))⟩,
      fun h => unlocked rfl (engHalt_answers h), fun h => refused rfl (if_neg h), unlocked rfl engResume_answers,
      fun im ix b hdebug him hix hb => unlocked rfl (engStep_answers hdebug him hix hb),
      fun h => refused rfl (engStep_refused h), fun h => unlocked rfl (debugReset_answers h)⟩
    · rw [memRead_user k hk]
      exact probeData_answers rfl
    · exact memWrite_user_answers (s := clockSeen s) k hk
    · exact fun h hf => unlocked rfl (coreResume_stop (s := clockSeen s) hh hc hb h hf)
    · exact fun h hf => unlocked rfl (coreResume_run (s := clockSeen s) hh hc hb h hf)
    · exact unlocked rfl (coreStep_answers (s := clockSeen s) hh)

end Sys2Proof.Machine
end

section
/-! PROOFS. A scan while no command waits (R146, R151, R158, R164): what its phases leave of the engine's record, of the device's state
and of the store, and how it ends. -/

namespace Sys2Proof.Machine

/-! ### What the phases of a scan leave -/

/-- The engine's record but for the selector, the holds and the demands on refused channels, the device's state, the commands that
wait, the failure window and the store's soundness are as they were. -/
structure ScanFrame (s t : State) : Prop where
  en : t.en = { s.en with mode := t.en.mode, holds := t.en.holds, demanded := t.en.demanded }
  dvState : t.dev.dvState = s.dev.dvState
  chains : t.nv.chains = s.nv.chains
  failAge : t.nv.live.failAge = s.nv.live.failAge
  takes : StoreTakes s → StoreTakes t

/-- While no command waits, from `s` to `t` the frame of a scan holds. -/
structure ScanKept (s t : State) : Prop where
  frame : s.nv.chains = [] → ScanFrame s t

namespace ScanKept

variable {s t u : State}

protected theorem refl (s : State) : ScanKept s s := ⟨fun _ => ⟨rfl, rfl, rfl, rfl, id⟩⟩

theorem trans (h : ScanKept s t) (k : ScanKept t u) : ScanKept s u := ⟨fun hc => by
  obtain ⟨hen, hdv, hchains, hage, htakes⟩ := h.frame hc
  obtain ⟨ken, kdv, kchains, kage, ktakes⟩ := k.frame (hchains.trans hc)
  exact ⟨by rw [ken, hen], kdv.trans hdv, kchains.trans hchains, kage.trans hage, ktakes ∘ htakes⟩⟩

theorem of_left (h : RunLeft s t) : ScanKept s t := ⟨fun _ =>
  ⟨by rw [h.en], by rw [h.dev], h.chains, by rw [h.2.1], h.2.takes⟩⟩

/-- Fields outside the store written. -/
theorem write (hnv : t.nv = s.nv) (hdv : t.dev.dvState = s.dev.dvState)
    (hen : t.en = { s.en with mode := t.en.mode, holds := t.en.holds, demanded := t.en.demanded }) : ScanKept s t :=
  ⟨fun _ => ⟨hen, hdv, by rw [hnv], by rw [hnv], (EventStore.of_nv hnv).takes⟩⟩

protected theorem ite {c : Prop} [Decidable c] (h : ScanKept s t) (k : ScanKept s u) : ScanKept s (if c then t else u) := by
  split
  · exact h
  · exact k

theorem foldl {α : Type} {g : State → α → State} (h : ∀ s a, ScanKept s (g s a)) (l : List α) (s : State) :
    ScanKept s (l.foldl g s) := by
  induction l generalizing s with
  | nil => exact .refl s
  | cons a r ih => exact (h s a).trans (ih _)

end ScanKept

theorem raise_scanKept (src : Nat) (code : Half) (c : Cls) (arg : DWord) (s : State) : ScanKept s (raise src code c arg s) :=
  .of_left (raise_left ..)

/-! ### The take-in at the scan start (R229) -/

theorem judgeRR_left (n : Nat) (f : SflFrame) (s : State) : RunLeft s (judgeRR n f s) := by
  refine .ite (rejectRemote_left ..) ?_
  split
  · exact rejectRemote_left ..
  · exact .ite (rejectRemote_left ..) (.ite (.write rfl) (.ite (.write rfl) (.ite (.write rfl) (rejectRemote_left ..))))

theorem updCons_left (n : Nat) (f : ConsSt → ConsSt) (s : State) : RunLeft s (updCons n f s) := .write rfl

theorem connLost_left (n reason : Nat) (was : ConsSt) (s : State) : RunLeft s (connLost n reason was s) :=
  .ite ((updCons_left ..).trans (raise_left ..)) (.refl s)

theorem judgeSeq_left (n : Nat) (f : SflFrame) (age : Word) (s : State) : RunLeft s (judgeSeq n f age s) := by
  unfold judgeSeq
  extract_lets c count _ st taken lost
  have hcount (s : State) : RunLeft s (count s) := .write rfl
  have hrr (u : State) (hu : RunLeft s u) : RunLeft s (if f.rr then judgeRR n f u else u) := .ite (hu.trans (judgeRR_left ..)) hu
  split
  · exact hrr _ ((((updCons_left ..).trans (hcount _)).trans (raise_left ..)).trans (connLost_left ..))
  · have htaken : RunLeft s taken := (updCons_left ..).trans (hcount _)
    exact hrr _ (.ite (htaken.trans (connLost_left ..)) (.ite (htaken.trans (raise_left ..)) htaken))
  · exact .ite (.trans (t := { s with sf := { s.sf with rxDup := inc32 s.sf.rxDup } }) (.write rfl) (rejectRemote_left ..)) (.write rfl)
  · exact .write rfl
  · exact .write rfl

theorem judgeFrame_left (b : List Byte) (s : State) : RunLeft s (judgeFrame b s) := by
  refine .ite (.write rfl) ?_
  extract_lets f
  split
  · exact .write rfl
  · exact .ite (.write rfl) (judgeSeq_left ..)

theorem expire_left (n : Nat) (s : State) : RunLeft s (expire n s) := by
  unfold expire
  split
  · exact .refl s
  · exact .ite ((updCons_left ..).trans (connLost_left ..)) (.refl s)

theorem takeIn_left (s : State) : RunLeft s (takeIn s) := by
  unfold takeIn
  extract_lets frames _ emptied
  have hemptied : RunLeft s emptied := .write rfl
  have htaken : RunLeft s ((List.range 32).foldl (fun s n => expire n s) (frames.foldl (fun s b => judgeFrame b s) emptied)) :=
    (hemptied.trans (.foldl (fun s b => judgeFrame_left b s) _ _)).trans (.foldl (fun s n => expire_left n s) _ _)
  split
  · exact htaken
  · exact htaken
  · exact htaken
  · exact hemptied

theorem scanStart_left (s : State) :
    RunLeft { s with dev := { s.dev with handover := s.dev.handover - 1 } } (scanStart s) :=
  (RunLeft.foldl (fun s n => producerSend_left n s) _ _).trans (takeIn_left _)

/-! ### The blocks (R164, R174, R195) -/

theorem raiseBlk_left (im : Image) (ix : Nat) (b : Block) (evs : List BlkEvent) (s : State) : RunLeft s (raiseBlk im ix b evs s) :=
  .foldl (fun _ _ => raise_left ..) evs s

theorem reportBlk_scanKept (im : Image) (ix : Nat) (b : Block) (r : BlkRes) (s : State) : ScanKept s (reportBlk im ix b r s) := by
  unfold reportBlk
  extract_lets cleared
  have hcleared : ScanKept s cleared := .ite ⟨fun _ => ⟨rfl, rfl, rfl, rfl, id⟩⟩ (.refl s)
  have hstored : RunLeft cleared (if b.type == .sbc && !r.evs.isEmpty then storedFirst cleared else cleared) :=
    .ite (.ite (.of_event (writeParams_eq _) (writeParams_store _)) (.refl _)) (.refl _)
  exact hcleared.trans (.of_left (hstored.trans (raiseBlk_left ..)))

theorem running_scanKept (r : Option Running) (s : State) : ScanKept s { s with cm := { s.cm with running := r } } :=
  .write rfl rfl rfl

theorem answerMode_scanKept (r : ModeRes) (s : State) : ScanKept s (answerMode r s) := by
  refine ⟨fun hc => ?_⟩
  unfold answerMode
  split
  · rw [finishRunning_of_no_chain hc]
    split
    · rw [holdOutcome_cm]
      exact (running_scanKept _ s).frame hc
    · exact (ScanKept.refl s).frame hc
  · exact (ScanKept.refl s).frame hc

theorem applyModesel_scanKept (im : Image) (ix : Nat) (b : Block) (r : ModeRes) (s : State) :
    ScanKept s (applyModesel im ix b r s) := by
  have htaken : ScanKept s (takeModesel im ix b r s) := .trans (t := { s with
      dev := { s.dev with mode := r.mode, handover := if r.grant then 2 else s.dev.handover },
      en := { s.en with mode := r.st } }) (.write rfl rfl rfl) (.of_left (raiseBlk_left ..))
  exact htaken.trans (answerMode_scanKept ..)

theorem takeRestart_left (mode : Mode) (ix : Nat) (b : Block) (s : State) : RunLeft s (takeRestart mode ix b s) := by
  unfold takeRestart
  extract_lets n c given reason cleared rejected
  have hrejected : RunLeft s rejected := (updCons_left ..).trans (.foldl (fun s seq => rejectRemote_left n reason seq s) _ _)
  split
  · exact hrejected
  · exact .ite (hrejected.trans (raise_left ..)) (hrejected.trans (rejectRemote_left ..))

theorem runBlock_scanKept (im : Image) (dOld d k : Word) (mode : Mode) (ix : Nat) (p : Work × State) :
    ScanKept p.2 (runBlock im dOld d k mode ix p).2 := by
  unfold runBlock
  split
  · exact .refl _
  · split
    · exact .refl _
    · refine .trans (.trans (.ite (applyModesel_scanKept ..) (.refl _)) (.ite (.of_left (takeRestart_left ..)) (.refl _)))
        (reportBlk_scanKept ..)

theorem scanFold_scanKept (e : ScanEnv) (im : Image) (mode : Mode) (s : State) : ScanKept s (scanFold e im mode s).2 := by
  have hfold (l : List Nat) (p : Work × State) :
      ScanKept p.2 (l.foldl (fun p ix => runBlock im s.en.lfsr (scanSeed s) (s.en.scanNo + 1) mode ix p) p).2 := by
    induction l generalizing p with
    | nil => exact .refl _
    | cons ix r ih => exact (runBlock_scanKept ..).trans (ih _)
  have hcleared : ScanKept s (clearFolds s) := .write rfl rfl rfl
  exact hcleared.trans (hfold _ (_, clearFolds s))

/-! ### Phase 4 (R128, R156, R157, R161, R199) -/

theorem noteRefused_scanKept (b : OutBind) (on : Bool) (s : State) : ScanKept s (noteRefused b on s) :=
  .ite (.trans (t := { s with en := { s.en with demanded := s.en.demanded ||| ((1 : BitVec 48) <<< b.index) } })
    (.write rfl rfl rfl) (raise_scanKept ..)) (.refl s)

theorem publishBind_scanKept (im : Image) (d k : Word) (words : List Word) (old : Option (List Word)) (ix : Nat) (b : OutBind)
    (s : State) : ScanKept s (publishBind im d k words old ix b s) := by
  unfold publishBind
  extract_lets _ _ _ _ _ _ _ noted _ _ _ _ _ _ _ held
  have hnoted : ScanKept s noted := .ite (noteRefused_scanKept ..) (.refl s)
  have hheld : ScanKept noted held := .write rfl rfl rfl
  exact (hnoted.trans hheld).trans (.write rfl rfl rfl)

theorem publishBinds_scanKept (im : Image) (d k : Word) (words : List Word) (old : Option (List Word)) (l : List Nat) (s : State) :
    ScanKept s (l.foldl (fun s i =>
      match im.outs[i]? with
      | some b => publishBind im d k words old i b s
      | none => s) s) := by
  refine .foldl (fun s i => ?_) l s
  split
  · exact publishBind_scanKept ..
  · exact .refl s

theorem handoverEvents_scanKept (before : List Nat) (s : State) : ScanKept s (handoverEvents before s) := by
  refine .ite ?_ (.refl s)
  extract_lets noted placed
  have hnoted : ScanKept s noted := .trans (t := { s with en := s.en.agreed }) (.write rfl rfl rfl) (.of_left (noteDisagree_left s))
  exact hnoted.trans (.foldl (fun _ _ => raise_scanKept ..) _ _)

theorem markProducer_left (im : Image) (d : Word) (words : List Word) (old : Option (List Word)) (rose : Bool) (b : Block)
    (s : State) : RunLeft s (markProducer im d words old rose b s) := by
  unfold markProducer
  extract_lets n v p edge
  split
  · exact .refl s
  · exact .ite (.refl s) (.ite (.write rfl) (.write rfl))

theorem markProducers_left (im : Image) (d : Word) (w : Work) (old : Option (List Word)) (l : List Nat) (s : State) :
    RunLeft s (l.foldl (fun s i =>
      match im.blocks[i]? with
      | some b => if b.type = .sflOut then markProducer im d w.words old (stAt w.sts b i).armed b s else s
      | none => s) s) := by
  refine .foldl (fun s i => ?_) l s
  split
  · exact .ite (markProducer_left ..) (.refl s)
  · exact .refl s

/-- What phase 4 leaves of the engine's record: the scan's number, its snapshot and its times. -/
structure Published (im : Image) (d k : Word) (w : Work) (execUs : Half) (s t : State) : Prop where
  scanNo : t.en.scanNo = k
  lfsr : t.en.lfsr = s.en.lfsr
  words : t.en.words = s.en.words
  blocks : t.en.blocks = s.en.blocks
  published : t.en.published = true
  execLast : t.en.execLast = execUs
  snapNew : t.en.snapNew = some (snapshotOf im d k w.words)
  dvState : t.dev.dvState = s.dev.dvState
  chains : t.nv.chains = []

theorem publish_published (im : Image) (d k : Word) (w : Work) (old : Option (List Word)) (execUs : Half) {s : State}
    (hc : s.nv.chains = []) : Published im d k w execUs s (publish im d k w old execUs s) := by
  unfold publish
  extract_lets before idled bound handed auxed shown marked
  have hbound : ScanKept s bound := .trans (t := idled) (.write rfl rfl rfl) (publishBinds_scanKept ..)
  have hhanded : ScanKept s handed := hbound.trans (handoverEvents_scanKept before bound)
  have hmarked : RunLeft shown marked := markProducers_left ..
  obtain ⟨hen, hdv, hchains, -, -⟩ := hhanded.frame hc
  have hsen : shown.en = { handed.en with snapNew := some (snapshotOf im d k w.words), snapRead := shown.en.snapRead } := rfl
  have hsdv : shown.dev.dvState = handed.dev.dvState := rfl
  have hschains : shown.nv.chains = handed.nv.chains := rfl
  clear_value marked
  clear_value shown
  clear_value handed
  rw [hen] at hsen
  have hall := hmarked.en.trans hsen
  exact ⟨rfl, (congrArg Engine.lfsr hall :), (congrArg Engine.words hall :), (congrArg Engine.blocks hall :), rfl, rfl,
    (congrArg Engine.snapNew hall :), (congrArg Dev.dvState hmarked.dev).trans (hsdv.trans hdv),
    hmarked.chains.trans (hschains.trans (hchains.trans hc))⟩

end Sys2Proof.Machine
end

section
/-! PROOFS. How a scan ends (R146, R147, R151, R153, R158 to R160, R164), re-verification, SRAM ECC errors and the failure window. -/

namespace Sys2Proof.Machine

/-! ### Coding failures (R158, R160) -/

/-- A coding failure in RUN or STOP, before a second one within the window makes it LOCKOUT: FAULT is entered, and the failure is
stored. -/
def failureStored (verify : Bool) (code : Byte) (check : Word) (detail : Byte) (evCode : Half) (evArg : DWord) (s : State) : State :=
  storeItem (fun p => { p with failAge := some 0 })
    (faultEntry verify code detail (raise 226 evCode .fault evArg { s with en := { s.en with check := check } }))

/-- What it leaves of the state in which the failure is found. -/
structure FailureStored (verify : Bool) (code : Byte) (check : Word) (s t : State) : Prop where
  en : t.en = { s.en.stopped with check := check, reverify := verify, reverifyOk := s.en.reverifyOk && !verify }
  dvState : t.dev.dvState = .fault
  safeOk : t.dev.safeOk = false
  faultCode : t.dev.faultCode = code
  chains : t.nv.chains = []
  failAge : t.nv.live.failAge = some 0
  stored : StoreTakes s → t.nv.stored.failAge = some 0
  takes : StoreTakes s → StoreTakes t

section
variable {s : State}

theorem not_fault_of_stateRunStop (h : stateRunStop s = true) : s.dev.dvState ≠ .fault := by
  intro hf
  simp [stateRunStop, hf] at h

theorem failureStored_leaves (verify : Bool) (code : Byte) (check : Word) (detail : Byte) (evCode : Half) (evArg : DWord)
    (hr : stateRunStop s = true) (hc : s.nv.chains = []) :
    FailureStored verify code check s (failureStored verify code check detail evCode evArg s) := by
  have hraised := raise_frame 226 evCode .fault evArg { s with en := { s.en with check := check } }
  have hen := raise_en 226 evCode .fault evArg { s with en := { s.en with check := check } }
  have hdev := raise_dev 226 evCode .fault evArg { s with en := { s.en with check := check } }
  unfold failureStored
  generalize raise 226 evCode .fault evArg { s with en := { s.en with check := check } } = u at hraised hen hdev ⊢
  have hstart : EventStore s u := (EventStore.of_nv (t := { s with en := { s.en with check := check } }) rfl).trans hraised.2
  have hfault := faultEntry_entered verify code detail (s := u) (hstart.chains.trans hc)
  have hstore := hstart.trans hfault.store
  generalize faultEntry verify code detail u = v at hfault hstore ⊢
  have hlive : (storeItem (fun p => { p with failAge := some 0 }) v).nv.live.failAge = some 0 := by
    have hwritten := writeParams_store (setItem (fun p => { p with failAge := some 0 }) v)
    exact congrArg (fun n => n.live.failAge) hwritten.1
  have htakes (h : StoreTakes v) : StoreTakes (storeItem (fun p => { p with failAge := some 0 }) v) :=
    (writeParams_store _).takes h
  refine ⟨?_, ?_, ?_, ?_, ?_, hlive, fun h => ?_, htakes ∘ hstore.takes⟩
  · rw [storeItem_en, hfault.en, hen]; rfl
  · rw [storeItem_dev, hfault.dvState]
  · rw [storeItem_dev]
    exact hfault.safeOk (by rw [hdev]; exact not_fault_of_stateRunStop hr)
  · rw [storeItem_dev, hfault.faultCode]
  · exact ((writeParams_store _).chains.trans rfl).trans (hstore.chains.trans hc)
  · exact congrArg Params.failAge (storeItem_sound _ (hstore.takes h) ⟨rfl, rfl⟩).2

theorem codingFailure_counted (code : Byte) (check : Word) (detail : Byte) (evCode : Half) (evArg : DWord)
    (hr : stateRunStop s = true) (hw : inWindow s = false) :
    codingFailure code check detail evCode evArg s = failureStored true code check detail evCode evArg s := by
  unfold codingFailure failureStored
  extract_lets again _ checked entered failed
  have hagain : again = false := hw
  clear_value again
  subst hagain
  rw [if_pos hr, if_neg Bool.false_ne_true]
  simp only [failed, entered, checked, Bool.not_false]

theorem codingFailure_again (code : Byte) (check : Word) (detail : Byte) (evCode : Half) (evArg : DWord)
    (hr : stateRunStop s = true) (hw : inWindow s = true) : codingFailure code check detail evCode evArg s
      = enterLockout code.toNat (failureStored false code check detail evCode evArg s) := by
  unfold codingFailure failureStored
  extract_lets again _ checked entered failed
  have hagain : again = true := hw
  clear_value again
  subst hagain
  rw [if_pos hr, if_pos rfl]
  simp only [failed, entered, checked, Bool.not_true]

/-! ### The stored age of the failure (R160, R247) -/

end

/-- The live age of the last counted failure and the stored one are this, in a store that takes what is written. -/
structure AgeHeld (a : Option Nat) (s : State) : Prop where
  takes : StoreTakes s
  live : s.nv.live.failAge = a
  stored : s.nv.stored.failAge = a

namespace AgeHeld

variable {a : Option Nat} {s t : State}

/-- Events leave the live age, and the record either stands or is written again from the live items. -/
theorem of_eventStore (h : AgeHeld a s) (ht : EventStore s t)
    (hs : t.nv.stored = s.nv.stored ∨ t.nv.stored.failAge = t.nv.live.failAge) : AgeHeld a t := by
  have hlive : t.nv.live.failAge = a := by rw [ht.1]; exact h.live
  refine ⟨ht.takes h.takes, hlive, ?_⟩
  rcases hs with hs | hs
  · rw [hs]; exact h.stored
  · exact hs.trans hlive

theorem of_nv (h : AgeHeld a s) (ht : t.nv = s.nv) : AgeHeld a t := h.of_eventStore (.of_nv ht) (.inl (by rw [ht]))

theorem writeParams (h : AgeHeld a s) : AgeHeld a (writeParams s) :=
  h.of_eventStore (writeParams_store s) (.inr (by rw [writeParams_sound h.takes]))

theorem enqueue (h : AgeHeld a s) (time : DWord) (src : Nat) (code : Half) (c : Cls) (arg : DWord) :
    AgeHeld a (enqueue time src code c arg s) := by
  have hqueued := h.of_eventStore (queueEvent_store time src code c arg s) (.inl (queueEvent_stored ..))
  unfold Machine.enqueue
  extract_lets queued
  split
  · exact hqueued.writeParams
  · exact hqueued

theorem check75 (h : AgeHeld a s) : AgeHeld a (check75 s) := by
  unfold Machine.check75
  split
  · extract_lets _ marked
    have hmarked : AgeHeld a marked := h.of_nv rfl
    exact (hmarked.enqueue ..).of_nv (raiseCause_nv ..)
  · exact h

theorem commitGap (h : AgeHeld a s) : AgeHeld a (commitGap s) := by
  unfold Machine.commitGap
  split
  · extract_lets written recorded
    have hwritten : AgeHeld a written := by
      rw [show written = s from mirror_sound h.takes.1 ..]
      exact h
    split
    · exact hwritten
    · have hrecord := hwritten.of_eventStore (commitRecord_store (gapRecord written) written) (.inl (commitRecord_stored ..))
      have hrecorded : AgeHeld a recorded :=
        (hrecord.of_eventStore (setGap_store (fun _ => Gap.none) _) (.inl rfl)).writeParams
      refine check75 ?_
      split
      · exact hrecorded.of_nv (setPending_nv ..)
      · exact hrecorded
  · exact h

theorem raise (h : AgeHeld a s) (src : Nat) (code : Half) (c : Cls) (arg : DWord) : AgeHeld a (raise src code c arg s) :=
  h.commitGap.enqueue ..

theorem setState (h : AgeHeld a s) (new : DvState) (why : Nat) : AgeHeld a (setState new why s) := by
  unfold Machine.setState
  split
  · exact h
  · extract_lets old c _ pinned
    have hpinned : AgeHeld a pinned := h.of_nv rfl
    exact (hpinned.raise ..).of_nv (raiseCause_nv ..)

end AgeHeld

section
variable {s : State}

/-- What an entry into LOCKOUT leaves (R67, R160). -/
structure LockedOut (s t : State) : Prop where
  dvState : t.dev.dvState = .lockout
  lockout : t.aorf.lockout = true
  faultN : t.dev.faultN = false
  safeOk : t.dev.safeOk = false
  faultCode : t.dev.faultCode = s.dev.faultCode
  en : t.en = { s.en with reverify := false }
  store : EventStore s t
  ages : ∀ a, AgeHeld a s → AgeHeld a t

theorem enterLockout_locked (why : Nat) (h : s.dev.dvState ≠ .lockout) : LockedOut s (enterLockout why s) := by
  unfold enterLockout
  extract_lets _ _ latched
  have hlatched : EventStore s latched := .of_nv rfl
  have hdev : (setState .lockout why latched).dev = withPins .lockout s.dev := (setState_dev ..).trans (if_neg h)
  have haorf : (setState .lockout why latched).aorf = Aorf.seal { s.aorf with lockout := true } := setState_aorf ..
  have hen : (setState .lockout why latched).en = { s.en with reverify := false } := setState_en ..
  refine ⟨?_, ?_, ?_, ?_, ?_, hen, hlatched.trans (setState_store ..),
    fun a h => (h.of_nv rfl : AgeHeld a latched).setState ..⟩
  · rw [hdev]; rfl
  · rw [haorf]; rfl
  · rw [hdev]; rfl
  · rw [hdev]; rfl
  · rw [hdev]; rfl

end

/-! ### A due scan start (R145 to R147) -/

section
variable {s : State} {e : ScanEnv} {im : Image} (hc : s.nv.chains = [])

theorem scan_inRun (hr : s.dev.dvState = .run) (hs : s.en.scanning = true) (hw : s.en.seedWait = false) (hi : s.en.image = some im) :
    scan e s = if e.released && e.phase4Done then scanBody e im s else scanOverrun e s := by
  unfold scan
  rw [hs, hw, hi]
  simp only [hr]
  rfl

/-- The scan as it is judged: its inputs taken over and its blocks evaluated. -/
def scanEvaluated (e : ScanEnv) (im : Image) (s : State) : Work × State := scanEval e im (scanStart s)

/-- The verdict on it. -/
def scanJudged (e : ScanEnv) (im : Image) (s : State) : Option (Nat × Nat × Nat) :=
  scanVerdict e im (scanSeed (scanStart s)) (scanStart s).en.opVector (scanEvaluated e im s).1

theorem scanBody_eq (e : ScanEnv) (im : Image) (s : State) : scanBody e im s = match scanJudged e im s with
    | some f => scanFailed f (scanStart s) (scanEvaluated e im s).1 (scanEvaluated e im s).2
    | none => scanPublish e im (scanStart s) (scanEvaluated e im s).1 (scanEvaluated e im s).2 := rfl

theorem scanStart_en (s : State) : (scanStart s).en = s.en := (scanStart_left s).en

theorem scanStart_seed (s : State) : scanSeed (scanStart s) = lfsrNext (applyFolds s.en.lfsr s.links.toList) := by
  have hlinks : (scanStart s).links = s.links := by rw [(scanStart_left s).1]
  rw [scanSeed, scanStart_en, hlinks]

include hc

theorem scanEvaluated_frame (e : ScanEnv) (im : Image) : ScanFrame s (scanEvaluated e im s).2 := by
  have hstart : ScanKept s (scanStart s) :=
    .trans (t := { s with dev := { s.dev with handover := s.dev.handover - 1 } }) (.write rfl rfl rfl) (.of_left (scanStart_left s))
  exact (hstart.trans (scanFold_scanKept ..)).frame hc

/-- A scan that passes is published under its own D and number. -/
theorem scanBody_passes (hv : scanJudged e im s = none) :
    Published im (scanSeed (scanStart s)) (s.en.scanNo + 1) (scanEvaluated e im s).1 e.execUs
      { (scanEvaluated e im s).2 with en := { (scanEvaluated e im s).2.en with
        lfsr := scanSeed (scanStart s), words := (scanEvaluated e im s).1.words, blocks := (scanEvaluated e im s).1.sts,
        opVector := (scanEvaluated e im s).2.en.opVector + 1 } } (scanBody e im s) := by
  rw [scanBody_eq, hv, ← scanStart_en s]
  exact publish_published _ _ _ _ _ _ ((scanEvaluated_frame hc e im).chains.trans hc)

end

/-- The state in which a scan's rejection is found. -/
def scanRejected (e : ScanEnv) (im : Image) (s : State) : State :=
  { (scanEvaluated e im s).2 with en := { (scanEvaluated e im s).2.en with
    lfsr := lfsrNext (scanStart s).en.lfsr, words := (scanEvaluated e im s).1.words, blocks := (scanEvaluated e im s).1.sts,
    opVector := (scanEvaluated e im s).2.en.opVector + 1 } }

/-- What stands in it of the state of the scan's start. -/
structure Rejected (s t : State) : Prop where
  scanNo : t.en.scanNo = s.en.scanNo
  lfsr : t.en.lfsr = lfsrNext s.en.lfsr
  reverifyOk : t.en.reverifyOk = s.en.reverifyOk
  stateRunStop : stateRunStop t = stateRunStop s
  inWindow : inWindow t = inWindow s
  chains : t.nv.chains = []
  takes : StoreTakes s → StoreTakes t

section
variable {s : State} {e : ScanEnv} {im : Image} {f : Nat × Nat × Nat}

theorem scanRejected_leaves (hc : s.nv.chains = []) (e : ScanEnv) (im : Image) : Rejected s (scanRejected e im s) := by
  obtain ⟨hen, hdv, hchains, hage, htakes⟩ := scanEvaluated_frame hc e im
  have hstate : stateRunStop (scanEvaluated e im s).2 = stateRunStop s := by simp only [stateRunStop, hdv]
  have hwindow : inWindow (scanEvaluated e im s).2 = inWindow s := by simp only [inWindow, hage]
  have hscanNo : (scanEvaluated e im s).2.en.scanNo = s.en.scanNo := (congrArg Engine.scanNo hen :)
  have hverified : (scanEvaluated e im s).2.en.reverifyOk = s.en.reverifyOk := (congrArg Engine.reverifyOk hen :)
  have hlfsr : (scanRejected e im s).en.lfsr = lfsrNext s.en.lfsr := by
    rw [← scanStart_en s]; rfl
  exact ⟨hscanNo, hlfsr, hverified, hstate, hwindow, hchains.trans hc, htakes⟩

theorem scanBody_rejects (hv : scanJudged e im s = some f) : scanBody e im s =
    codingFailure 0x01 (checkWord f.1 f.2.1 f.2.2 0) (BitVec.ofNat 8 f.2.2) 0x0011
      (argOf [(0, (checkWord f.1 f.2.1 f.2.2 0).toNat), (4, ((scanStart s).en.scanNo + 1).toNat)]) (scanRejected e im s) := by
  rw [scanBody_eq, hv]
  rfl

theorem stateRunStop_of_run (h : s.dev.dvState = .run) : stateRunStop s = true := by rw [stateRunStop, h]; rfl

/-- A rejection is FAULT where no failure was counted within the window. -/
theorem scanBody_faults (hc : s.nv.chains = []) (hr : s.dev.dvState = .run) (hv : scanJudged e im s = some f)
    (hw : inWindow s = false) :
    FailureStored true 0x01 (checkWord f.1 f.2.1 f.2.2 0) (scanRejected e im s) (scanBody e im s) := by
  have hrej := scanRejected_leaves hc e im
  have hstate := hrej.stateRunStop.trans (stateRunStop_of_run hr)
  rw [scanBody_rejects hv, codingFailure_counted _ _ _ _ _ hstate (hrej.inWindow.trans hw)]
  exact failureStored_leaves _ _ _ _ _ _ hstate hrej.chains

/-- A coding failure in RUN or STOP with one counted in the window is LOCKOUT. -/
theorem codingFailure_locks (code : Byte) (check : Word) (detail : Byte) (evCode : Half) (evArg : DWord)
    (hr : stateRunStop s = true) (hw : inWindow s = true) (hc : s.nv.chains = []) :
    ∃ u, FailureStored false code check s u ∧ LockedOut u (codingFailure code check detail evCode evArg s) := by
  have hstored := failureStored_leaves false code check detail evCode evArg hr hc
  refine ⟨_, hstored, ?_⟩
  rw [codingFailure_again _ _ _ _ _ hr hw]
  exact enterLockout_locked _ (by rw [hstored.dvState]; decide)

theorem scanBody_locks (hc : s.nv.chains = []) (hr : s.dev.dvState = .run) (hv : scanJudged e im s = some f)
    (hw : inWindow s = true) : ∃ u, FailureStored false 0x01 (checkWord f.1 f.2.1 f.2.2 0) (scanRejected e im s) u
      ∧ LockedOut u (scanBody e im s) := by
  have hrej := scanRejected_leaves hc e im
  rw [scanBody_rejects hv]
  exact codingFailure_locks _ _ _ _ _ (hrej.stateRunStop.trans (stateRunStop_of_run hr)) (hrej.inWindow.trans hw) hrej.chains

theorem runs_scan {P : State → Prop} (hc : (scan e s).nv.chains = []) (h : P (scan e s)) : Runs (.scan e) s P :=
  ⟨_, rfl, by rw [settle_none _ hc]; exact h⟩

/-! ### Re-verification and SRAM ECC (R68, R159) -/

theorem reverifyDone_passes (hf : s.dev.dvState = .fault) (hr : s.en.reverify = true) (check : Word) (us : Half) :
    reverifyDone true check us s = raise 226 0x0013 .notice (argOf [(0, us.toNat)])
      { s with en := { s.en with reverify := false, reverifyOk := true } } := by
  unfold reverifyDone
  rw [if_pos ⟨hf, hr⟩, if_pos rfl]

/-- A re-verification that fails is LOCKOUT, with its check marked. -/
theorem reverifyDone_fails (hf : s.dev.dvState = .fault) (hr : s.en.reverify = true) (check : Word) (us : Half) :
    ∃ u, EventStore s u ∧ u.en = { s.en with reverify := false, reverifyOk := false, check := (check &&& 0x1FFF0FFF) ||| 0x9000 }
      ∧ LockedOut u (reverifyDone false check us s) := by
  unfold reverifyDone
  rw [if_pos ⟨hf, hr⟩, if_neg Bool.false_ne_true]
  extract_lets _ w raised
  have hmarked : EventStore s { s with en := { s.en with reverify := false, reverifyOk := false, check := w } } := .of_nv rfl
  have hraised : EventStore s raised := hmarked.trans (raise_store ..)
  have hen : raised.en = { s.en with reverify := false, reverifyOk := false, check := w } := raise_en ..
  have hdev : raised.dev = s.dev := raise_dev ..
  exact ⟨raised, hraised, hen, enterLockout_locked _ (by rw [hdev, hf]; decide)⟩

/-- The last operating minute of the window leaves no counted failure in it. -/
theorem inWindow_windowEnd (s : State) : inWindow (windowEnd s) = false := by
  unfold windowEnd
  split
  · rename_i a ha
    simp [inWindow, setItem]
  · rename_i ha
    simp [inWindow, ha]

theorem windowEnd_frame (s : State) : windowEnd s = { s with nv := (windowEnd s).nv } ∧ (windowEnd s).nv.chains = s.nv.chains
    ∧ (windowEnd s).nv.outcomes = s.nv.outcomes := by
  unfold windowEnd
  split <;> exact ⟨rfl, rfl, rfl⟩

end

section
variable {s : State} {e : ScanEnv} {im : Image} (hr : s.dev.dvState = .run) (hs : s.en.scanning = true) (hw : s.en.seedWait = false)
  (him : s.en.image = some im) (hc : s.nv.chains = [])
include hr hs hw him

theorem scan_released (h : e.released = true) (h4 : e.phase4Done = true) : scan e s = scanBody e im s := by
  rw [scan_inRun hr hs hw him, h, h4]; rfl

theorem scan_unreleased (h : e.released = false ∨ e.phase4Done = false) : scan e s = scanOverrun e s := by
  rw [scan_inRun hr hs hw him, if_neg]
  rcases h with h | h <;> simp [h]

include hc

theorem runs_scan_published (h : e.released = true) (h4 : e.phase4Done = true) (hv : scanJudged e im s = none) :
    Runs (.scan e) s (fun t => t.en.scanNo = s.en.scanNo + 1 ∧ t.en.lfsr = lfsrNext (applyFolds s.en.lfsr s.links.toList)
      ∧ t.en.words = (scanEvaluated e im s).1.words ∧ t.en.blocks = (scanEvaluated e im s).1.sts ∧ t.en.published = true
      ∧ t.en.execLast = e.execUs ∧ t.dev.dvState = .run
      ∧ t.en.snapNew = some (snapshotOf im t.en.lfsr t.en.scanNo (scanEvaluated e im s).1.words) ∧ t.ports = s.ports) := by
  have hpub := scanBody_passes hc hv
  have hdv := (scanEvaluated_frame hc e im).dvState
  have hports := scan_ports e s
  rw [← scan_released hr hs hw him h h4] at hpub
  refine runs_scan hpub.chains ?_
  have hlfsr : (scan e s).en.lfsr = lfsrNext (applyFolds s.en.lfsr s.links.toList) := hpub.lfsr.trans (scanStart_seed s)
  refine ⟨hpub.scanNo, hlfsr, hpub.words, hpub.blocks, hpub.published, hpub.execLast, hpub.dvState.trans (hdv.trans hr), ?_, hports⟩
  rw [hpub.snapNew, hlfsr, hpub.scanNo, scanStart_seed]

theorem runs_scan_rejected {f : Nat × Nat × Nat} (h : e.released = true) (h4 : e.phase4Done = true)
    (hv : scanJudged e im s = some f) (hn : inWindow s = false) :
    Runs (.scan e) s (fun t => t.dev.dvState = .fault ∧ t.dev.faultCode = 0x01 ∧ t.dev.safeOk = false
      ∧ t.en.check = checkWord f.1 f.2.1 f.2.2 0 ∧ t.en.scanning = false ∧ t.en.reverify = true
      ∧ t.en.scanNo = s.en.scanNo ∧ t.en.lfsr = lfsrNext s.en.lfsr ∧ t.nv.live.failAge = some 0
      ∧ (StoreTakes s → t.nv.stored.failAge = some 0)) := by
  have hrej := scanRejected_leaves hc e im
  obtain ⟨hen, hdv, hsafe, hcode, hchains, hage, hstored⟩ := scanBody_faults hc hr hv hn
  rw [← scan_released hr hs hw him h h4] at hen hdv hsafe hcode hchains hage hstored
  refine runs_scan hchains ⟨hdv, hcode, hsafe, ?_, ?_, ?_, ?_, ?_, hage, hstored ∘ hrej.takes⟩
  · rw [hen]
  · rw [hen]; rfl
  · rw [hen]
  · rw [hen]; exact hrej.scanNo
  · rw [hen]; exact hrej.lfsr

theorem runs_scan_rejected_again {f : Nat × Nat × Nat} (h : e.released = true) (h4 : e.phase4Done = true)
    (hv : scanJudged e im s = some f) (hn : inWindow s = true) :
    Runs (.scan e) s (fun t => t.dev.dvState = .lockout ∧ t.aorf.lockout = true ∧ t.dev.faultCode = 0x01 ∧ t.dev.safeOk = false
      ∧ t.en.check = checkWord f.1 f.2.1 f.2.2 0 ∧ t.en.scanning = false ∧ t.en.reverify = false
      ∧ t.en.reverifyOk = s.en.reverifyOk ∧ t.nv.live.failAge = some 0 ∧ (StoreTakes s → t.nv.stored.failAge = some 0)) := by
  have hrej := scanRejected_leaves hc e im
  obtain ⟨u, hstored, hlocked⟩ := scanBody_locks hc hr hv hn
  rw [← scan_released hr hs hw him h h4] at hlocked
  have hchains : (scan e s).nv.chains = [] := hlocked.store.chains.trans hstored.chains
  have hage : (scan e s).nv.live.failAge = some 0 := by rw [hlocked.store.1]; exact hstored.failAge
  refine runs_scan hchains ⟨hlocked.dvState, hlocked.lockout, hlocked.faultCode.trans hstored.faultCode, hlocked.safeOk, ?_, ?_, ?_,
    ?_, hage, fun htakes => ?_⟩
  · rw [hlocked.en, hstored.en]
  · rw [hlocked.en, hstored.en]; rfl
  · rw [hlocked.en]
  · rw [hlocked.en, hstored.en]
    simp [hrej.reverifyOk]
  · exact (hlocked.ages _ ⟨hstored.takes (hrej.takes htakes), hstored.failAge, hstored.stored (hrej.takes htakes)⟩).stored

theorem runs_scan_overrun (h : e.released = false ∨ e.phase4Done = false) (hn : inWindow s = false) :
    Runs (.scan e) s (fun t => t.dev.dvState = .fault ∧ t.dev.faultCode = 0x06 ∧ t.en.check = checkWord 0 8 0 0
      ∧ t.en.scanNo = s.en.scanNo) := by
  have hstate := stateRunStop_of_run hr
  have hscan : scan e s = failureStored true 0x06 (checkWord 0 8 0 0) 0 0x0012
      (argOf [(0, e.execUs.toNat), (2, if e.phase4Done then 1 else 0)]) s :=
    (scan_unreleased hr hs hw him h).trans (codingFailure_counted _ _ _ _ _ hstate hn)
  have hstored := failureStored_leaves true 0x06 (checkWord 0 8 0 0) 0 0x0012
    (argOf [(0, e.execUs.toNat), (2, if e.phase4Done then 1 else 0)]) hstate hc
  rw [← hscan] at hstored
  refine runs_scan hstored.chains ⟨hstored.dvState, hstored.faultCode, ?_, ?_⟩
  · rw [hstored.en]
  · rw [hstored.en]; rfl

theorem runs_scan_overrun_again (h : e.released = false ∨ e.phase4Done = false) (hn : inWindow s = true) :
    Runs (.scan e) s (fun t => t.dev.dvState = .lockout ∧ t.aorf.lockout = true ∧ t.dev.faultN = false) := by
  obtain ⟨u, hstored, hlocked⟩ := codingFailure_locks 0x06 (checkWord 0 8 0 0) 0 0x0012
    (argOf [(0, e.execUs.toNat), (2, if e.phase4Done then 1 else 0)]) (stateRunStop_of_run hr) hn hc
  have hscan := scan_unreleased hr hs hw him h
  unfold scanOverrun at hscan
  rw [← hscan] at hlocked
  exact runs_scan (hlocked.store.chains.trans hstored.chains) ⟨hlocked.dvState, hlocked.lockout, hlocked.faultN⟩

end

/-- Settles O39: a scan that passes is published; one that is rejected, or not released, is a coding failure. -/
theorem scanEnds : Obligations.Scan := by
  refine ⟨fun s e im hr hs hw him hc => ⟨?_, ?_, ?_, ?_, ?_⟩, fun s check addr us hc => ⟨fun hf hv => ⟨?_, ?_⟩, fun hr => ?_, ?_⟩⟩
  · exact fun h h4 hv => runs_scan_published hr hs hw him hc h h4 hv
  · exact fun f h h4 hv hn => runs_scan_rejected hr hs hw him hc h h4 hv hn
  · exact fun f h h4 hv hn => runs_scan_rejected_again hr hs hw him hc h h4 hv hn
  · exact fun h hn => runs_scan_overrun hr hs hw him hc h hn
  · exact fun h hn => runs_scan_overrun_again hr hs hw him hc h hn
  · have hpass := reverifyDone_passes hf hv check us
    have hstore : EventStore s (reverifyDone true check us s) := by
      rw [hpass]
      exact (EventStore.of_nv (t := { s with en := { s.en with reverify := false, reverifyOk := true } }) rfl).trans (raise_store ..)
    refine ⟨_, rfl, ?_⟩
    rw [settle_none _ (hstore.chains.trans hc)]
    refine ⟨?_, ?_, by rw [hstore.1]⟩
    · rw [hpass, raise_en]
    · rw [hpass, raise_dev]
  · obtain ⟨u, hstore, hen, hlocked⟩ := reverifyDone_fails hf hv check us
    refine ⟨_, rfl, ?_⟩
    rw [settle_none _ (hlocked.store.chains.trans (hstore.chains.trans hc))]
    refine ⟨hlocked.dvState, hlocked.lockout, ?_, ?_, ?_⟩ <;> rw [hlocked.en, hen]
  · have hfault := faultEntry_entered true 0x05 ((addr >>> 2).setWidth 8) hc
    refine ⟨_, rfl, ?_⟩
    have hecc : sramEcc addr s = faultEntry true 0x05 ((addr >>> 2).setWidth 8) s := by
      unfold sramEcc enterFault
      rw [if_pos hr]
      exact settle_none _ (hfault.store.chains.trans hc)
    rw [hecc]
    refine ⟨hfault.dvState, hfault.safeOk (not_fault_of_stateRunStop hr), hfault.faultCode, hfault.faultDetail, hfault.faultCount,
      ?_, ?_, ?_, hfault.aorf⟩ <;> rw [hfault.en]
    · rfl
    · rfl
  · obtain ⟨hframe, hchains, houtcomes⟩ := windowEnd_frame s
    exact ⟨_, rfl, hframe, inWindow_windowEnd s, hchains, houtcomes⟩

end Sys2Proof.Machine
end

section
/-! PROOFS. RESET_DEVICE, ENTER_DORMANT and ENTROPY_RETEST as they execute in order (R70, R240, R325). -/

namespace Sys2Proof.Machine

/-! ### A command that goes on, or whose outcome a reset follows -/

theorem checkLearn_of_not_learn {s : State} (h : ∀ ports sources done, s.cm.running ≠ some (.learn ports sources done)) :
    checkLearn s = s := by
  unfold checkLearn
  split
  · next hr => exact absurd hr (h _ _ _)
  · rfl

theorem pushReply_running (r : Reply) (s : State) : (pushReply r s).cm.running = s.cm.running := by
  unfold pushReply
  dsimp only
  rw [raiseCause_cm]

theorem seqStart_running {csn : Word} {s : State} (hi : InOrder csn s) (p : Packet) : (seqStart p s).cm.running = none := by
  obtain ⟨hc, hr, he, hn⟩ := hi
  obtain ⟨ring, pos, e⟩ := accept_sound p (heard_takes p hn)
  have hheard : (heard p s).cm.running = s.cm.running := by
    change (touchBus s).cm.running = s.cm.running
    rw [touchBus_cm]
  unfold seqStart
  rw [e, pushReply_running]
  exact hheard.trans hr

theorem seqStart_headChain {csn : Word} {s : State} (hi : InOrder csn s) {p : Packet} (hp : p.csn = csn) :
    headChain (seqStart p s) = some p.chain := by
  unfold headChain
  rw [(seqStart_endsIn hi p).chains, seqStart_lastE hi p, ← hi.2.2.1, ← hp]
  exact List.find?_cons_of_pos (beq_self_eq_true p.csn)

theorem live_of_accepts {tag : BitVec 3} {s : State} (h : Accepts tag s) : s.dev.phase = .running := by
  have hserves := h.1
  simp only [busServes, live, Bool.and_eq_true, beq_iff_eq] at hserves
  exact hserves.1

section
variable {op : Byte} {tag : BitVec 3} {csn : Word} {params : List Byte} {s u : State} (h : Accepts tag s) (hi : InOrder csn s)
  (ho : opSequenced op = some true) (hl : params.length ≤ 508)
include h hi ho hl

/-- An execution that goes on, LEARN_PULSES apart, leaves the command in execution. -/
theorem receivePacket_goesOn {k : Running} (hk : ∀ ports sources done, k ≠ .learn ports sources done)
    (hx : execCommand op csn params (seqStart (seqPacket op tag csn params) s) = goesOn k u) :
    receivePacket (seqPacket op tag csn params) s = { u with cm := { u.cm with running := some k } } := by
  have hrun : runChain (seqPacket op tag csn params).chain (seqStart (seqPacket op tag csn params) s)
      = { u with cm := { u.cm with running := some k } } := by
    unfold runChain
    rw [show execCommand (seqPacket op tag csn params).chain.opcode (seqPacket op tag csn params).chain.csn
      (seqPacket op tag csn params).chain.params _ = _ from hx]
    exact checkLearn_of_not_learn fun a b c hc => hk a b c (Option.some.inj hc)
  rw [receivePacket_seq h hi ho hl]
  exact (congrArg (drain 8) hrun).trans (drain_busy 8 (r := k) rfl)

/-- One that goes on without a word to the command layer is started. -/
theorem receivePacket_starts {k : Running} (hk : ∀ ports sources done, k ≠ .learn ports sources done)
    (hx : execCommand op csn params (seqStart (seqPacket op tag csn params) s) = goesOn k u)
    (hcm : u.cm = (seqStart (seqPacket op tag csn params) s).cm)
    (hhead : headChain u = headChain (seqStart (seqPacket op tag csn params) s)) :
    Started (seqPacket op tag csn params) k (receivePacket (seqPacket op tag csn params) s) := by
  rw [receivePacket_goesOn h hi ho hl hk hx]
  refine ⟨rfl, ?_, hhead.trans (seqStart_headChain hi rfl)⟩
  show u.cm.replies.getLast? = _
  rw [hcm]
  exact seqStart_reply hi _

/-- An outcome that a reset follows. -/
theorem receivePacket_resets {k : Kind}
    (hx : execCommand op csn params (seqStart (seqPacket op tag csn params) s) =
      { result := some (stOk, []), st := seqStart (seqPacket op tag csn params) s, after := .reset k }) :
    receivePacket (seqPacket op tag csn params) s = assertReset k false .none
      (commitOutcome (seqPacket op tag csn params).chain stOk [] (seqStart (seqPacket op tag csn params) s)) := by
  have htakes := (seqStart_endsIn hi (seqPacket op tag csn params)).takes
  have hout : nvBothOut (commitOutcome (seqPacket op tag csn params).chain stOk [] (seqStart (seqPacket op tag csn params) s)) = false :=
    ((commitOutcome_store _ stOk [] htakes).takes (putOutcome_takes _ htakes)).2
  have hrun : runChain (seqPacket op tag csn params).chain (seqStart (seqPacket op tag csn params) s) = assertReset k false .none
      (commitOutcome (seqPacket op tag csn params).chain stOk [] (seqStart (seqPacket op tag csn params) s)) := by
    unfold runChain
    rw [show execCommand (seqPacket op tag csn params).chain.opcode (seqPacket op tag csn params).chain.csn
      (seqPacket op tag csn params).chain.params _ = _ from hx]
    exact if_neg (by rw [hout]; decide)
  have hfree := coreFree_of_not_live (not_live_of_reset k false .none
    (commitOutcome (seqPacket op tag csn params).chain stOk [] (seqStart (seqPacket op tag csn params) s)))
  calc receivePacket (seqPacket op tag csn params) s
      = drain 8 (runChain (seqPacket op tag csn params).chain (seqStart (seqPacket op tag csn params) s)) :=
        receivePacket_seq h hi ho hl
    _ = _ := by rw [hrun]; exact drain_of_not_coreFree 8 hfree

end

/-! ### RESET_DEVICE (R325) -/

section
variable {tag : BitVec 3} {csn : Word} {params : List Byte} {s : State} {k : Kind}

/-- What a reset of kind `k` leaves after the outcome of the command that asked for it. -/
structure ResetAfter (p : Packet) (k : Kind) (s t : State) : Prop where
  phase : t.dev.phase = if k = .clockWindow then .clockHeld else .inReset
  cause : t.dev.cause = BitVec.ofNat 4 k.code
  counter : t.tb.counter = if k.keepsTime then s.tb.counter else 0
  cm : t.cm = Cmd.new
  lastE : t.nv.lastE = p.csn
  chains : t.nv.chains = []
  outcome : outcomeOf p.csn t = some (outcomeEntry p stOk [])
  resetCount : t.aorf.resetCount = inc8 s.aorf.resetCount

theorem outcomeOf_congr {t : State} (h : t.nv = s.nv) (c : Word) : outcomeOf c t = outcomeOf c s := by unfold outcomeOf; rw [h]

theorem receivePacket_resetAfter (h : Accepts tag s) (hi : InOrder csn s) (hl : params.length ≤ 508)
    (hk : k ≠ .powerOn ∧ k ≠ .brownOut)
    (hx : execCommand 0x90 csn params (seqStart (seqPacket 0x90 tag csn params) s) =
      { result := some (stOk, []), st := seqStart (seqPacket 0x90 tag csn params) s, after := .reset k }) :
    ResetAfter (seqPacket 0x90 tag csn params) k s (receivePacket (seqPacket 0x90 tag csn params) s) := by
  rw [receivePacket_resets h hi rfl hl hx]
  have hends := seqStart_endsIn hi (seqPacket 0x90 tag csn params)
  obtain ⟨hchains, hlast, hout⟩ := commitOutcome_alone (seqPacket 0x90 tag csn params).chain stOk [] hends.takes hends.chains
  have hframe := (seqStart_hostFrame (seqPacket 0x90 tag csn params) hi.2.2.2).trans
    (commitOutcome_hostFrame (seqPacket 0x90 tag csn params).chain stOk [] _)
  generalize commitOutcome (seqPacket 0x90 tag csn params).chain stOk [] (seqStart (seqPacket 0x90 tag csn params) s) = u
    at hchains hlast hout hframe ⊢
  have hasserted : u.dev.phase.asserted = false := asserted_of_running (by rw [hframe.dev]; exact live_of_accepts h)
  have hnv := assertReset_nv_of_none k false u
  have halone := assertReset_alone k false .none hasserted
  have haorf := assertReset_aorf_kept (k := k) false .none hasserted hk.1 hk.2
  refine ⟨halone.phase, halone.cause, ?_, rfl, ?_, ?_, ?_, ?_⟩
  · rw [halone.counter, hframe.tb]
  · rw [hnv]; exact hlast
  · rw [hnv]; exact hchains
  · exact (outcomeOf_congr hnv _).trans hout
  · rw [haorf.resetCount, hframe.aorf]

end

/-! ### ENTER_DORMANT (R70) -/

section
variable {tag : BitVec 3} {csn : Word} {s : State}

/-- While no command is in execution nothing awaits the engine's stop. -/
theorem stopEngine_of_not_running (h : s.cm.running = none) : stopEngine s = engineStopped s := by
  have hnone : (engineStopped s).cm.running = none := by rw [(engineStopped_left s).cm]; exact h
  rw [stopEngine_eq]
  unfold endModeRequest
  rw [hnone]

theorem execDormantSeq_high (h : s.dev.wakePin = true) : execDormantSeq s = refuses stWrongState s := if_pos h

theorem execDormantSeq_low (h : s.dev.wakePin = false) (hr : s.cm.running = none) :
    execDormantSeq s = goesOn .dormant (setState .dormantEntry 0x91 (engineStopped s)) := by
  unfold execDormantSeq
  rw [if_neg (by simp [h]), stopEngine_of_not_running hr]

/-- The entry into DORMANT_ENTRY: the engine is stopped, SAFE_OK is low, and the command layer is as it was. -/
theorem dormantEntry_enters (h : s.dev.dvState ≠ .dormantEntry) :
    let u := setState .dormantEntry 0x91 (engineStopped s)
    u.dev.dvState = .dormantEntry ∧ u.dev.safeOk = false ∧ u.en.scanning = false ∧ u.cm = s.cm ∧ headChain u = headChain s := by
  have hleft := engineStopped_left s
  have hstore : EventStore s (engineStopped s) :=
    (EventStore.of_nv (t := { s with en := s.en.stopped, dev := { s.dev with handover := 0 } }) rfl).trans hleft.2
  generalize engineStopped s = v at hleft hstore ⊢
  intro u
  have hne : v.dev.dvState ≠ .dormantEntry := by rw [hleft.dev]; exact h
  have hdev : u.dev = withPins .dormantEntry v.dev := (setState_dev ..).trans (if_neg hne)
  have hen : u.en = s.en.stopped := (setState_en ..).trans hleft.en
  have hcm : u.cm = s.cm := (setState_cm ..).trans hleft.cm
  refine ⟨setState_dvState .., ?_, ?_, hcm, (hstore.trans (setState_store ..)).headChain⟩
  · rw [hdev]; rfl
  · rw [hen]; rfl

section
variable (h : Accepts tag s) (hi : InOrder csn s)
include h hi

theorem receivePacket_enterDormant_low (hw : s.dev.wakePin = false) :
    let p := seqPacket 0x91 tag csn []
    Started p .dormant (receivePacket p s) ∧ (receivePacket p s).dev.dvState = .dormantEntry
      ∧ (receivePacket p s).dev.safeOk = false ∧ (receivePacket p s).en.scanning = false := by
  intro p
  have hdev := (seqStart_hostFrame p hi.2.2.2).dev
  have hx : execCommand 0x91 csn [] (seqStart p s) = goesOn .dormant (setState .dormantEntry 0x91 (engineStopped (seqStart p s))) :=
    execDormantSeq_low (by rw [hdev, hw]) (seqStart_running hi p)
  have hne : (seqStart p s).dev.dvState ≠ .dormantEntry := by rw [hdev]; exact (stateAll_not_boot s h.2.1).1
  obtain ⟨hdv, hsafe, hscan, hcm, hhead⟩ := dormantEntry_enters hne
  generalize setState .dormantEntry 0x91 (engineStopped (seqStart p s)) = u at hx hdv hsafe hscan hcm hhead
  have hk : ∀ ports sources done, Running.dormant ≠ .learn ports sources done := nofun
  refine ⟨receivePacket_starts h hi rfl (by decide) hk hx hcm hhead, ?_⟩
  rw [receivePacket_goesOn h hi rfl (by decide) hk hx]
  exact ⟨hdv, hsafe, hscan⟩

theorem receivePacket_enterDormant_high (hw : s.dev.wakePin = true) :
    let p := seqPacket 0x91 tag csn []
    Done p stWrongState [] (receivePacket p s) ∧ HostFrame s (receivePacket p s) := by
  intro p
  have hdev := (seqStart_hostFrame p hi.2.2.2).dev
  have hx : execCommand 0x91 csn [] (seqStart p s) = refuses stWrongState (seqStart p s) :=
    execDormantSeq_high (by rw [hdev, hw])
  exact receivePacket_refuses h hi rfl (by decide) hx

end

end

/-! ### ENTROPY_RETEST (R240) -/

section
variable {s : State}

theorem execRetestSeq_unhealthy (h : s.ent.state = .unhealthy) :
    execRetestSeq s = goesOn (.retest true) { s with ent := { s.ent.afresh with state := .startup } } := by
  unfold execRetestSeq entropyRetest
  rw [h]
  rfl

theorem execRetestSeq_healthy (h : s.ent.state = .healthy) : execRetestSeq s = refuses stWrongState s := by
  unfold execRetestSeq entropyRetest
  rw [h]

theorem execRetestSeq_locked (h : s.ent.state = .locked) : execRetestSeq s = refuses stLocked s := by
  unfold execRetestSeq entropyRetest
  rw [h]

theorem HostFrame.ent {t : State} (h : HostFrame s t) : t.ent = s.ent := by rw [h]

variable {tag : BitVec 3} {csn : Word} (h : Accepts tag s) (hi : InOrder csn s)
include h hi

theorem receivePacket_retest_refused {status : Byte}
    (hx : execRetestSeq (seqStart (seqPacket 0x58 tag csn []) s) = refuses status (seqStart (seqPacket 0x58 tag csn []) s)) :
    let p := seqPacket 0x58 tag csn []
    Done p status [] (receivePacket p s) ∧ (receivePacket p s).ent = s.ent := by
  intro p
  obtain ⟨hdone, hframe⟩ := receivePacket_refuses (op := 0x58) (params := []) h hi rfl (by decide) hx
  exact ⟨hdone, hframe.ent⟩

theorem receivePacket_retest_started (he : s.ent.state = .unhealthy) :
    let p := seqPacket 0x58 tag csn []
    Started p (.retest true) (receivePacket p s) ∧ (receivePacket p s).ent = { s.ent.afresh with state := .startup } := by
  intro p
  have hent := (seqStart_hostFrame p hi.2.2.2).ent
  have hx : execCommand 0x58 csn [] (seqStart p s) =
      goesOn (.retest true) { seqStart p s with ent := { (seqStart p s).ent.afresh with state := .startup } } :=
    execRetestSeq_unhealthy (by rw [hent, he])
  have hk : ∀ ports sources done, Running.retest true ≠ .learn ports sources done := nofun
  have hhead : headChain { seqStart p s with ent := { (seqStart p s).ent.afresh with state := .startup } } = headChain (seqStart p s) :=
    (EventStore.of_nv rfl).headChain
  refine ⟨receivePacket_starts h hi rfl (by decide) hk hx rfl hhead, ?_⟩
  rw [receivePacket_goesOn h hi rfl (by decide) hk hx, hent]

end

/-- Settles O31: RESET_DEVICE is its outcome and a reset of its kind, ENTER_DORMANT and ENTROPY_RETEST go on or refuse. -/
theorem deviceCommands : Obligations.DeviceCommands := by
  intro s tag csn h hi p reset
  have hent (q : Packet) : (seqStart q s).ent = s.ent := (seqStart_hostFrame q hi.2.2.2).ent
  refine ⟨?_, ?_, ?_, ?_, fun he => ?_, fun he => ?_, fun he => ?_⟩
  · obtain ⟨hphase, hcause, hcounter, hcm, hlast, hchains, hout, hcount⟩ :=
      receivePacket_resetAfter h hi (params := [0, 0, 0, 0]) (k := .warm) (by decide) (by decide) rfl
    exact ⟨_, rfl, ⟨hphase, hcm, hlast, hchains, hout, hcount⟩, hcause, hcounter⟩
  · obtain ⟨hphase, hcause, hcounter, hcm, hlast, hchains, hout, hcount⟩ :=
      receivePacket_resetAfter h hi (params := [1, 0, 0, 0]) (k := .cold) (by decide) (by decide) rfl
    exact ⟨_, rfl, ⟨hphase, hcm, hlast, hchains, hout, hcount⟩, hcause, hcounter⟩
  · exact ⟨_, rfl, receivePacket_enterDormant_low (s := { s with dev := { s.dev with wakePin := false } }) h hi rfl⟩
  · obtain ⟨hdone, hframe⟩ :=
      receivePacket_enterDormant_high (s := { s with dev := { s.dev with wakePin := true } }) h hi rfl
    exact ⟨_, rfl, hdone, (congrArg Dev.dvState hframe.dev :), hframe.en⟩
  · exact ⟨_, rfl, receivePacket_retest_started h hi he⟩
  · exact ⟨_, rfl, receivePacket_retest_refused h hi (execRetestSeq_healthy ((congrArg Entropy.state (hent _)).trans he))⟩
  · exact ⟨_, rfl, receivePacket_retest_refused h hi (execRetestSeq_locked ((congrArg Entropy.state (hent _)).trans he))⟩

end Sys2Proof.Machine
end

section
/-! PROOFS. A frame as a port takes it (R86 to R94): what its reception leaves of the port, what a pass over the channels makes of each
of them, and what a RUN frame makes of a channel. -/

namespace Sys2Proof.Machine

/-! ## One channel changed -/

theorem updVec_updVec {α : Type} {n : Nat} (v : Vector α n) (i : Nat) (f g : α → α) :
    updVec (updVec v i f) i g = updVec v i (g ∘ f) := by
  ext k hk
  rw [getElem_updVec _ _ _ hk, getElem_updVec _ _ _ hk, getElem_updVec _ _ _ hk]
  split <;> rfl

theorem updChan_updChan (p : PortSt) (c : Nat) (f g : ChanSt → ChanSt) :
    (p.updChan c f).updChan c g = p.updChan c (g ∘ f) :=
  congrArg (fun v => { p with chans := v }) (updVec_updVec p.chans c f g)

theorem chan_updChan_self (p : PortSt) (c : Fin 6) (f : ChanSt → ChanSt) :
    (p.updChan c.val f).chan c.val = f (p.chan c.val) := by
  rw [chan_updChan p f c.val c.isLt, if_pos rfl]

/-- A port made of another by a change of channel c alone. -/
def OwnStep (c : Nat) (p r : PortSt) : Prop := ∃ g, r = p.updChan c g

theorem OwnStep.refl (c : Nat) (p : PortSt) : OwnStep c p p := ⟨id, (updChan_id p c).symm⟩

theorem ownStep_updChan (c : Nat) (g : ChanSt → ChanSt) (p : PortSt) : OwnStep c p (p.updChan c g) := ⟨g, rfl⟩

theorem OwnStep.updChan {c : Nat} {p r : PortSt} (h : OwnStep c p r) (g : ChanSt → ChanSt) : OwnStep c p (r.updChan c g) := by
  obtain ⟨f, rfl⟩ := h
  exact ⟨_, updChan_updChan p c f g⟩

theorem OwnStep.trans {c : Nat} {p q r : PortSt} (h : OwnStep c p q) (h' : OwnStep c q r) : OwnStep c p r := by
  obtain ⟨g, rfl⟩ := h'
  exact h.updChan g

theorem OwnStep.chan_ne {c : Nat} {p r : PortSt} (h : OwnStep c p r) {d : Fin 6} (hd : d.val ≠ c) :
    r.chan d.val = p.chan d.val := by
  obtain ⟨g, rfl⟩ := h
  rw [chan_updChan p g c d.isLt, if_neg (Ne.symm hd)]

/-! ## A pass over the channels -/

/-- A port that differs from another in its channels alone. -/
def SameButChans (p r : PortSt) : Prop := ∃ v, r = { p with chans := v }

theorem SameButChans.refl (p : PortSt) : SameButChans p p := ⟨p.chans, rfl⟩

theorem SameButChans.trans {p q r : PortSt} (h : SameButChans p q) (h' : SameButChans q r) : SameButChans p r := by
  obtain ⟨v, rfl⟩ := h
  obtain ⟨w, rfl⟩ := h'
  exact ⟨w, rfl⟩

theorem OwnStep.sameButChans {c : Nat} {p r : PortSt} (h : OwnStep c p r) : SameButChans p r := by
  obtain ⟨g, rfl⟩ := h
  exact ⟨_, rfl⟩

/-- A pass in which every step changes its own channel: a channel ends as its own step left it, taken on a port with that channel as it
was before the pass. -/
theorem foldl_ownStep {f : Nat → PortSt → PortSt} {q : PortSt} (hf : ∀ c r, SameButChans q r → OwnStep c r (f c r))
    (l : List Nat) (hl : l.Nodup) {p : PortSt} (hp : SameButChans q p) :
    SameButChans q (l.foldl (fun p c => f c p) p)
      ∧ (∀ c : Fin 6, c.val ∉ l → (l.foldl (fun p c => f c p) p).chan c.val = p.chan c.val)
      ∧ ∀ c : Fin 6, c.val ∈ l → ∃ r, SameButChans q r ∧ r.chan c.val = p.chan c.val
        ∧ (l.foldl (fun p c => f c p) p).chan c.val = (f c.val r).chan c.val := by
  induction l generalizing p with
  | nil => exact ⟨hp, fun _ _ => rfl, fun _ h => absurd h List.not_mem_nil⟩
  | cons a l ih =>
    obtain ⟨ha, hl⟩ := List.nodup_cons.1 hl
    have hstep := hf a p hp
    obtain ⟨hkeeps, hother, hown⟩ := ih hl (hp.trans hstep.sameButChans)
    rw [List.foldl_cons]
    refine ⟨hkeeps, fun c hc => ?_, fun c hc => ?_⟩
    · obtain ⟨hne, hc⟩ := List.ne_and_not_mem_of_not_mem_cons hc
      rw [hother c hc, hstep.chan_ne hne]
    · rcases eq_or_ne c.val a with e | hne
      · exact ⟨p, hp, rfl, by rw [hother c (e ▸ ha), e]⟩
      · obtain ⟨r, hr, hrc, hend⟩ := hown c (List.mem_of_ne_of_mem hne hc)
        exact ⟨r, hr, hrc.trans (hstep.chan_ne hne), hend⟩

theorem eachChan_ownStep {f : Nat → PortSt → PortSt} {q : PortSt} (hf : ∀ c r, SameButChans q r → OwnStep c r (f c r)) :
    SameButChans q (q.eachChan f) ∧ ∀ c : Fin 6, ∃ r, SameButChans q r ∧ r.chan c.val = q.chan c.val
      ∧ (q.eachChan f).chan c.val = (f c.val r).chan c.val := by
  obtain ⟨hkeeps, -, hown⟩ := foldl_ownStep hf (List.range 6) List.nodup_range (SameButChans.refl q)
  exact ⟨hkeeps, fun c => hown c (List.mem_range.2 c.isLt)⟩

/-! ## The decision on a channel (R90, R122, R123, R130) -/

/-- A channel without an ON value: it opens where it is closed or clamped. -/
def ChanSt.turnOff (x : ChanSt) : ChanSt :=
  let y := { x with wantClose := false, wanted := .off }
  if x.closed || x.brake == .clamp then y.opened else y

theorem ChanSt.turnOff_closed (x : ChanSt) : x.turnOff.closed = false := by
  unfold ChanSt.turnOff
  cases h : x.closed
  · by_cases hb : x.brake = .clamp <;> simp [hb, h, ChanSt.opened]
  · rfl

theorem ChanSt.turnOff_latches (x : ChanSt) : x.turnOff.portOpen = x.portOpen ∧ x.turnOff.overcurr = x.overcurr := by
  unfold ChanSt.turnOff
  dsimp only
  split <;> exact ⟨rfl, rfl⟩

theorem takeOff_chan (p : PortSt) (c : Fin 6) : (p.takeOff c.val).chan c.val = (p.chan c.val).turnOff := by
  unfold PortSt.takeOff ChanSt.turnOff
  dsimp only
  rw [chan_updChan_self]
  split
  · exact (chan_updChan_self _ c _).trans (by rw [chan_updChan_self])
  · exact chan_updChan_self _ c _

theorem ownStep_takeOff (c : Nat) (p : PortSt) : OwnStep c p (p.takeOff c) := by
  unfold PortSt.takeOff
  dsimp only
  split
  · exact (ownStep_updChan c _ p).updChan _
  · exact ownStep_updChan c _ p

theorem ownStep_clearLatches (c : Nat) (p : PortSt) : OwnStep c p (p.clearLatches c) := ownStep_updChan c _ p

/-- The latches that a non-ON value clears whatever stands (Table 6-1); the switches stay as they are. -/
theorem clearLatches_chan (p : PortSt) (c : Fin 6) :
    ((p.clearLatches c.val).chan c.val).portOpen = false ∧ ((p.clearLatches c.val).chan c.val).overcurr = false
      ∧ ((p.clearLatches c.val).chan c.val).brake = (p.chan c.val).brake := by
  unfold PortSt.clearLatches
  dsimp only
  rw [chan_updChan_self]
  exact ⟨rfl, rfl, rfl⟩

/-- The request to close does not bear on whether the channel may close. -/
theorem mayClose_updChan {p : PortSt} {c : Fin 6} {g : ChanSt → ChanSt} (hl : (g (p.chan c.val)).latched = (p.chan c.val).latched)
    (ho : (g (p.chan c.val)).onPassed = (p.chan c.val).onPassed) (ht : (g (p.chan c.val)).testing = (p.chan c.val).testing) :
    (p.updChan c.val g).mayClose c.val = p.mayClose c.val := by
  unfold PortSt.mayClose
  rw [chan_updChan_self, hl, ho, ht]
  rfl

/-- A channel with its ON code: the holds are pumped and the close request stands. -/
def ChanSt.request (c : Nat) (want : BrState) (x : ChanSt) : ChanSt := { x.pump c with wantClose := true, wanted := want }

theorem takeOn_chan {p : PortSt} {c : Fin 6} (h : p.mayClose c.val = true) (t : Nat) (want : BrState) :
    (p.takeOn t c.val want).chan c.val = ((p.chan c.val).request c.val want).close t c.val := by
  have hmay : (p.updChan c.val (ChanSt.request c.val want)).mayClose c.val = true := (mayClose_updChan rfl rfl rfl).trans h
  show (PortSt.tryClose t c.val (p.updChan c.val (ChanSt.request c.val want))).chan c.val = _
  have hwant : ((p.updChan c.val (ChanSt.request c.val want)).chan c.val).wantClose = true := by rw [chan_updChan_self]; rfl
  unfold PortSt.tryClose
  rw [if_pos (Bool.and_eq_true_iff.2 ⟨hwant, hmay⟩), chan_updChan_self, chan_updChan_self]

theorem ownStep_takeOn (t c : Nat) (want : BrState) (p : PortSt) : OwnStep c p (p.takeOn t c want) := by
  unfold PortSt.takeOn PortSt.tryClose
  split
  · exact (ownStep_updChan c _ p).updChan _
  · exact ownStep_updChan c _ p

/-- A safe output that closes is closed. -/
theorem ChanSt.close_safeOutput {c : Nat} (hc : c < 4) (t : Nat) (x : ChanSt) : (x.close t c).closed = true := by
  unfold ChanSt.close
  dsimp only
  rw [if_pos hc]
  split <;> rfl

/-- A brake at rest that closes is released, with its pull-in. -/
theorem ChanSt.close_brake {c : Nat} {x : ChanSt} (hc : 4 ≤ c) (hx : x.brake = .off) (t : Nat) :
    (x.close t c).closed = true ∧ (x.close t c).brake = .release ∧ (x.close t c).pullIn = true := by
  unfold ChanSt.close ChanSt.energise
  dsimp only
  rw [if_neg (not_lt.2 hc), hx]
  split <;> exact ⟨rfl, rfl, rfl⟩

theorem codeMatches_iff {p : PortSt} {c : Nat} {f : Frame} : p.codeMatches c f = true ↔ dlCode f c = onCode p.seed p.scanX c :=
  beq_iff_eq

theorem ownStep_decideQ {p : PortSt} (h : p.scanAge ≤ p.staleAfter) (t c : Nat) (f : Frame) : OwnStep c p (p.decideQ t c f) := by
  unfold PortSt.decideQ
  split
  · rw [if_neg (not_lt.2 h)]; exact ownStep_takeOn t c _ p
  · exact (ownStep_clearLatches c p).trans (ownStep_takeOff c _)

/-- A brake frame that asks for RELEASE or HOLD_PWM. -/
theorem decideBr_energised {c : Nat} {f : Frame} (h : (BrState.ofBits (dlBrake f (c - 4))).energised = true) (t : Nat) (p : PortSt) :
    p.decideBr t c f = if p.codeMatches c f then
      if p.staleAfter < p.scanAge then p.staleChan c else p.takeOn t c (BrState.ofBits (dlBrake f (c - 4)))
    else p.takeOff c := by
  unfold PortSt.decideBr
  cases hb : BrState.ofBits (dlBrake f (c - 4)) with
  | off => rw [hb] at h; exact absurd h Bool.false_ne_true
  | clamp => rw [hb] at h; exact absurd h Bool.false_ne_true
  | release => rfl
  | holdPwm => rfl

theorem decideBr_off {c : Nat} {f : Frame} (h : BrState.ofBits (dlBrake f (c - 4)) = .off) (t : Nat) (p : PortSt) :
    p.decideBr t c f = (p.clearLatches c).takeOff c := by
  unfold PortSt.decideBr; rw [h]

/-- A channel that a frame clamps. -/
def ChanSt.takeClamp (x : ChanSt) : ChanSt :=
  { x.clampOn with wantClose := false, wanted := .clamp, chargedFw := true, chargedDs := true }

theorem decideBr_clamp {c : Nat} {f : Frame} (h : BrState.ofBits (dlBrake f (c - 4)) = .clamp) (t : Nat) (p : PortSt) :
    p.decideBr t c f = (p.clearLatches c).updChan c ChanSt.takeClamp := by
  unfold PortSt.decideBr; rw [h]; rfl

theorem ownStep_decideBr {p : PortSt} (h : p.scanAge ≤ p.staleAfter) (t c : Nat) (f : Frame) : OwnStep c p (p.decideBr t c f) := by
  cases he : (BrState.ofBits (dlBrake f (c - 4))).energised
  case true =>
    rw [decideBr_energised he]
    split
    · rw [if_neg (not_lt.2 h)]; exact ownStep_takeOn t c _ p
    · exact ownStep_takeOff c p
  case false =>
    cases hb : BrState.ofBits (dlBrake f (c - 4)) with
    | off => rw [decideBr_off hb]; exact (ownStep_clearLatches c p).trans (ownStep_takeOff c _)
    | clamp => rw [decideBr_clamp hb]; exact (ownStep_clearLatches c p).updChan _
    | release => rw [hb] at he; exact absurd he.symm Bool.false_ne_true
    | holdPwm => rw [hb] at he; exact absurd he.symm Bool.false_ne_true

/-- With a scan number that is not stale the decision for a channel changes that channel alone. -/
theorem ownStep_judgeChan {p : PortSt} (h : p.scanAge ≤ p.staleAfter) (t c : Nat) (f : Frame) :
    OwnStep c p (p.judgeChan t c f) := by
  unfold PortSt.judgeChan
  split
  · split
    · exact ownStep_clearLatches c p
    · exact .refl c p
  · split
    · exact ownStep_decideQ h t c f
    · exact ownStep_decideBr h t c f

/-! ## A scan-sequence fault (R91, R123) -/

theorem ownStep_faultChan (c : Nat) (f : Frame) (p : PortSt) : OwnStep c p (p.faultChan c f) := by
  unfold PortSt.faultChan
  split
  · exact (ownStep_clearLatches c p).updChan _
  · exact ownStep_updChan c _ p

theorem faultChan_chan (p : PortSt) (c : Fin 6) (f : Frame) :
    ((p.faultChan c.val f).chan c.val).closed = false ∧ ((p.faultChan c.val f).chan c.val).portOpen = true
      ∧ (p.nonOn c.val f = true → ((p.faultChan c.val f).chan c.val).overcurr = false) := by
  unfold PortSt.faultChan PortSt.openLatched
  dsimp only
  rw [chan_updChan_self]
  refine ⟨rfl, rfl, fun h => ?_⟩
  rw [if_pos h]
  exact (clearLatches_chan p c).2.1

theorem nonOn_of_ne {p : PortSt} {c : Nat} {f : Frame} (hc : c < 4) (h : dlCode f c ≠ onCode p.seed p.scanX c) :
    p.nonOn c f = true := by
  unfold PortSt.nonOn
  rw [if_pos hc, Bool.eq_false_iff.2 fun hm => h (codeMatches_iff.1 hm)]
  rfl

end Sys2Proof.Machine
end

section
/-! PROOFS. The port's side of the link (R56, R86 to R94, R134). -/

namespace Sys2Proof.Machine

/-! ## A frame received (R77, R79) -/

/-- What sending the uplink frame leaves of a port: all but what it has sent. -/
def SameButSent (q r : PortSt) : Prop :=
  ∃ tx diagq seqFault edges, r = { q with tx := tx, diagq := diagq, seqFault := seqFault, edges := edges }

theorem sendUplink_same (f : Frame) (q : PortSt) : SameButSent q (q.sendUplink f) := by
  unfold PortSt.sendUplink
  split
  · exact ⟨_, _, _, _, rfl⟩
  · split
    · exact ⟨_, _, _, _, rfl⟩
    · split <;> exact ⟨_, _, _, _, rfl⟩

theorem awake_of_clocked {q : PortSt} (h : q.phase ≠ .silent) : q.awake = q := if_neg fun e => h (beq_iff_eq.1 e)

/-- A type that the port expects is judged by the frame alone. -/
theorem frameOk_expected {type : Nat} {q : PortSt} (h : type ∈ q.expects) (framing : Bool) (f : Frame) :
    q.frameOk type framing f = dlValid framing q.straps [type] f := by
  unfold PortSt.frameOk; rw [if_pos (List.contains_iff_mem.2 h)]

theorem receive_heard {q : PortSt} (hf : q.fitted = true) (hp : q.powered = true) (hc : q.phase ≠ .silent) {type : Nat}
    (he : type ∈ q.expects) (framing : Bool) (f : Frame) (take : PortSt → PortSt) :
    ∃ r, SameButSent q r ∧ q.receive type framing f take
      = if dlValid framing q.straps [type] f then take (r.goodDownlink f) else r.badDownlink := by
  refine ⟨_, sendUplink_same f q, ?_⟩
  obtain ⟨tx, dq, sf, es, hr⟩ := sendUplink_same f q
  have hok : (q.sendUplink f).frameOk type framing f = dlValid framing q.straps [type] f := by
    rw [hr]; exact frameOk_expected (q := q) he framing f
  unfold PortSt.receive
  rw [hf, hp, awake_of_clocked hc]
  dsimp only
  rw [hok]
  rfl

/-- A port with a valid frame: what it has sent, its run of invalid frames and ECHO. -/
def Heard (f : Frame) (q r : PortSt) : Prop := ∃ u, SameButSent q u ∧ r = u.goodDownlink f

theorem receive_valid {q : PortSt} {type : Nat} {framing : Bool} {f : Frame}
    (h : (q.fitted = true ∧ q.powered = true) ∧ dlValid framing q.straps [type] f = true) (hc : q.phase ≠ .silent)
    (he : type ∈ q.expects) (take : PortSt → PortSt) : ∃ r, Heard f q r ∧ q.receive type framing f take = take r := by
  obtain ⟨⟨hf, hp⟩, hv⟩ := h
  obtain ⟨u, hu, hr⟩ := receive_heard hf hp hc he framing f take
  exact ⟨_, ⟨u, hu, rfl⟩, hr.trans (if_pos hv)⟩

theorem receive_invalid {q : PortSt} {type : Nat} {framing : Bool} {f : Frame} (h : q.fitted = true ∧ q.powered = true)
    (hv : ¬ dlValid framing q.straps [type] f = true) (hc : q.phase ≠ .silent) (he : type ∈ q.expects) (take : PortSt → PortSt) :
    ∃ r, SameButSent q r ∧ q.receive type framing f take = r.badDownlink := by
  obtain ⟨hf, hp⟩ := h
  obtain ⟨u, hu, hr⟩ := receive_heard hf hp hc he framing f take
  exact ⟨u, hu, hr.trans (if_neg hv)⟩

theorem receive_unheard {q : PortSt} (h : ¬ (q.fitted = true ∧ q.powered = true)) (type : Nat) (framing : Bool) (f : Frame)
    (take : PortSt → PortSt) : q.receive type framing f take = q := by
  unfold PortSt.receive
  rw [if_pos]
  simpa [imp_iff_not_or] using h

theorem expects_seeded {q : PortSt} (h : q.phase = .seeded) (hg : q.gotRun = true) : q.expects = [3] := by
  unfold PortSt.expects; rw [h, hg]; rfl

theorem expects_ident {q : PortSt} (h : q.phase = .ident) : q.expects = [0, 1, 2] := by
  unfold PortSt.expects; rw [h]

theorem expects_locking {q : PortSt} (h : q.phase = .locking) : q.expects = [0] := by
  unfold PortSt.expects; rw [h]

/-! ## The resets of a port (R56, R134) -/

theorem powerReset_chan (q : PortSt) (c : Fin 6) : q.powerReset.chan c.val = ChanSt.new := by
  show (Vector.replicate 6 ChanSt.new)[c.val]?.getD ChanSt.new = _
  rw [Vector.getElem?_replicate, if_pos c.isLt]; rfl

theorem powerReset_aux (q : PortSt) : q.powerReset.aux = if q.uf2Out then 0 else q.strapped := by
  have haux : q.powerReset.aux = if q.uf2Out || false || false then 0 else q.strapped &&& ~~~0 := rfl
  rw [haux, Bool.or_false, Bool.or_false]
  split
  · rfl
  · exact BitVec.and_allOnes

/-- A power-on reset opens every output. -/
theorem powerReset_opens (q : PortSt) : let r := q.powerReset
    r.phase = .silent ∧ r.gotRun = false ∧ r.powered = true ∧ r.aux = (if q.uf2Out then 0 else q.strapped)
      ∧ ∀ c : Fin 6, (r.chan c.val).closed = false ∧ (r.chan c.val).charged = false := by
  refine ⟨rfl, rfl, rfl, powerReset_aux q, fun c => ?_⟩
  rw [powerReset_chan]
  exact ⟨rfl, rfl⟩

/-- Without its supply the logic of a port is held in reset, its switches as they were. -/
theorem logicReset_keeps (q : PortSt) : let r := { q.logicReset with powered := false }
    r.phase = .silent ∧ r.gotRun = false ∧ r.powered = false ∧ r.aux = q.aux ∧ r.luLow = true
      ∧ ∀ c : Fin 6, (r.chan c.val).closed = (q.chan c.val).closed ∧ (r.chan c.val).onPassed = false := by
  refine ⟨rfl, rfl, rfl, rfl, ?_, fun c => ?_⟩
  · simp [PortSt.luLow]
  · show (q.logicReset.chan c.val).closed = _ ∧ (q.logicReset.chan c.val).onPassed = _
    rw [logicReset_chan]
    exact ⟨rfl, rfl⟩

/-! ## Lock (R86) -/

theorem takeSync_third {q : PortSt} (h : q.phase = .locking) (hn : q.syncRun = 2) :
    q.takeSync.phase = .ident ∧ q.takeSync.badRun = q.badRun ∧ q.takeSync.echo = q.echo := by
  have hr : q.takeSync = { q with syncRun := 3, seedRun := 0, phase := .ident } := by
    unfold PortSt.takeSync
    dsimp only
    rw [hn, h]
    rfl
  rw [hr]
  exact ⟨rfl, rfl, rfl⟩

/-! ## A START frame's parameter word (R81, R100) -/

theorem judgeWord_sharedPair {q : PortSt} {a : Nat} (ha : a < 16) (w : Half) (h : q.pairShares (a / 2) = true) :
    (0x0106, BitVec.ofNat 16 (a / 2)) ∈ (q.judgeWord a w).diagq := by
  unfold PortSt.judgeWord
  dsimp only
  rw [if_pos]
  · exact List.mem_append_right _ List.mem_cons_self
  · rw [decide_eq_true ha]
    split <;> exact h

/-- A pair is judged on the parameter words alone. -/
theorem pairShares_congr {q r : PortSt} (h : r.words = q.words) (n : Nat) : r.pairShares n = q.pairShares n := by
  unfold PortSt.pairShares PortSt.used PortSt.par; rw [h]

theorem takeStart_ident {q : PortSt} {f : Frame} (h : q.phase = .ident) (ha : (dlParamAddr f).toNat < 128) :
    let a := (dlParamAddr f).toNat
    let r := q.takeStart f
    r.phase = .ident ∧ r.echo = q.echo ∧ r.words = q.words.set a (dlParamData f)
      ∧ (a < 16 → r.pairShares (a / 2) = true → (0x0106, BitVec.ofNat 16 (a / 2)) ∈ r.diagq) := by
  intro a r
  obtain ⟨ok, hr⟩ : ∃ ok, r = PortSt.judgeWord a (dlParamData f)
      { q with seedRun := 0, words := q.words.set a (dlParamData f), paramOk := ok } := by
    show ∃ ok, PortSt.startWrite a (dlParamData f) { q with seedRun := 0 } = _
    rw [PortSt.startWrite, if_pos ha, PortSt.imageWrite]
    dsimp only
    rw [h]
    exact ⟨_, rfl⟩
  have hframe := judgeWord_eq a (dlParamData f) { q with seedRun := 0, words := q.words.set a (dlParamData f), paramOk := ok }
  rw [← hr] at hframe
  have hwords : r.words = q.words.set a (dlParamData f) := by rw [hframe]
  refine ⟨by rw [hframe]; exact h, by rw [hframe], hwords, fun ha hpair => ?_⟩
  rw [hr]
  exact judgeWord_sharedPair ha _ ((pairShares_congr (by rw [hwords]) _).trans hpair)

/-! ## The seed (R88) -/

theorem takeSeed_third {q : PortSt} {f : Frame} (h : q.phase = .ident) (hn : 2 ≤ q.seedRun) (hs : sameSeed f q.seedLast = true) :
    let r := q.takeSeed f
    r.phase = .seeded ∧ r.seed = dlSeed f ∧ r.scanX = dlScanBase f ∧ r.scanPer = dlScanPer f ∧ r.echo = q.echo := by
  intro r
  have hrun : (if 0 < q.seedRun && sameSeed f q.seedLast then q.seedRun + 1 else 1) = q.seedRun + 1 := by
    rw [hs, decide_eq_true (by omega)]; rfl
  have hr : r = { q with seedRun := q.seedRun + 1, seedLast := f, phase := .seeded, seed := dlSeed f, scanX := dlScanBase f,
                         scanPer := dlScanPer f, scanAge := 0 } := by
    show q.takeSeed f = _
    unfold PortSt.takeSeed
    dsimp only
    rw [hrun, if_pos ⟨by omega, h⟩]
  rw [hr]
  exact ⟨rfl, rfl, rfl, rfl, rfl⟩

/-! ## Link loss (R94) -/

/-- What link loss leaves of a seeded port. -/
theorem linkLoss_lost {q : PortSt} (h : q.phase = .seeded) :
    let r := q.linkLoss
    r.phase = .ident ∧ r.seed = 0 ∧ r.aux = q.aux ∧ r.gotRun = false
      ∧ (∀ c : Fin 6, (r.chan c.val).closed = false ∧ (r.chan c.val).portOpen = true)
      ∧ (∀ i : Fin 16, r.level i.val = false) ∧ ∀ k : Fin 8, r.sources[k.val].on = false ∧ r.sources[k.val].dark = false := by
  intro r
  obtain ⟨hphase, -, hchan⟩ := linkLoss_seeded h
  obtain ⟨⟨v, hv⟩, -⟩ := eachChan_ownStep (q := q) (f := fun c p => p.openLatched c) fun c r _ => ownStep_updChan c _ r
  have hr : r = { q with
      chans := v, phase := .ident, seed := 0, seedRun := 0, seedLast := 0, gotRun := false,
      inputs := Vector.replicate 16 InputSt.new, sources := Vector.replicate 8 SourceSt.new } := by
    show q.linkLoss = _
    unfold PortSt.linkLoss
    rw [if_pos (beq_iff_eq.2 h), hv]
  refine ⟨hphase, by rw [hr], by rw [hr], by rw [hr], hchan, fun i => ?_, fun k => ?_⟩
  · rw [hr]
    unfold PortSt.level
    dsimp only
    rw [Vector.getElem?_replicate, if_pos i.isLt]
    simp [InputSt.new]
  · simp [hr, SourceSt.new]

theorem linkLoss_unseeded {q : PortSt} (h : q.phase ≠ .seeded) : q.linkLoss = q := if_neg fun e => h (beq_iff_eq.1 e)

/-- The fourth invalid frame in a row (R94). -/
theorem badDownlink_fourth {q : PortSt} (h : q.badRun = 3) : ∃ n age,
    q.badDownlink = PortSt.linkLoss { q with badRun := 4, dlErr := n, syncRun := 0, seedRun := 0, scanAge := age } := by
  unfold PortSt.badDownlink
  rw [h]
  exact ⟨_, _, rfl⟩

/-! ## A RUN frame (R81, R90, R91) -/

/-- What the parameter word of a RUN frame leaves of a port: each channel but for a test asked for, and what the frame has set
before. -/
def RunKept (q r : PortSt) : Prop :=
  (r.scanX = q.scanX ∧ r.echo = q.echo ∧ r.ctExpired = q.ctExpired ∧ r.seqFault = q.seqFault ∧ r.seqScans = q.seqScans)
    ∧ ∀ c : Fin 6, ∃ b, r.chan c.val = { q.chan c.val with asked := b }

theorem RunKept.refl (q : PortSt) : RunKept q q := ⟨⟨rfl, rfl, rfl, rfl, rfl⟩, fun c => ⟨(q.chan c.val).asked, rfl⟩⟩

theorem ownStep_testNow (m : BitVec 6) (c : Nat) (p : PortSt) : OwnStep c p
    (if m.getLsbD c && p.chanEn c && (p.chan c).brake != .clamp then p.updChan c (fun x => { x with asked := true }) else p) := by
  split
  · exact ownStep_updChan c _ p
  · exact .refl c p

theorem testNow_kept (m : BitVec 6) (q : PortSt) : RunKept q (q.testNow m) := by
  obtain ⟨⟨v, hv⟩, -⟩ := eachChan_ownStep (q := q) fun c r _ => ownStep_testNow m c r
  have hframe : q.testNow m = { q with chans := v } := hv
  obtain ⟨-, hchan⟩ := testNow_chans m q
  exact ⟨by rw [hframe]; exact ⟨rfl, rfl, rfl, rfl, rfl⟩, fun c => ⟨_, hchan c⟩⟩

theorem runWrite_kept {a : Nat} (ha : 128 ≤ a) (t : Nat) (w : Half) (q : PortSt) : RunKept q (q.runWrite t a w) := by
  have same {r : PortSt} (h : r = { q with
      samplePh := r.samplePh, phaseLo := r.phaseLo, framePhase := r.framePhase, phaseAt := r.phaseAt, learnReq := r.learnReq,
      inputs := r.inputs }) : RunKept q r := by
    rw [h]
    exact ⟨⟨rfl, rfl, rfl, rfl, rfl⟩, fun c => ⟨(q.chan c.val).asked, rfl⟩⟩
  unfold PortSt.runWrite
  rw [if_neg (not_lt.2 ha)]
  split
  case h_1 => unfold PortSt.setSamplePhase; split <;> exact same rfl
  case h_2 => unfold PortSt.setPhaseLo; split <;> exact same rfl
  case h_3 =>
    unfold PortSt.setPhaseHi
    split
    · split <;> exact same rfl
    · exact .refl q
  case h_4 => unfold PortSt.setLearn; split <;> exact same rfl
  case h_5 =>
    unfold PortSt.setTestNow
    split
    · exact testNow_kept _ q
    · exact .refl q
  case h_6 => exact .refl q

theorem firstRun_of_gotRun {q : PortSt} (hg : q.gotRun = true) (f : Frame) : (q.takeScan f).firstRun = q.takeScan f := if_pos hg

theorem takeAux_chan (bits : BitVec 4) (q : PortSt) (c : Nat) : (q.takeAux bits).chan c = q.chan c := rfl

section
variable {q : PortSt} {f : Frame} (hg : q.gotRun = true) (ha : 128 ≤ (dlParamAddr f).toNat) (t : Nat) (v : Half)
include hg ha

/-- A RUN frame that carries the next scan number has every channel judged. -/
theorem takeRun_next (hs : q.scanStep f = 1) :
    RunKept (((q.takeScan f).eachChan (fun c p => p.judgeChan t c f)).takeAux (dlAux f)) (q.takeRun t v f) := by
  have hb : q.scanBad f = false := by unfold PortSt.scanBad; rw [hs]; rfl
  unfold PortSt.takeRun
  dsimp only
  rw [hb, firstRun_of_gotRun hg f, if_neg Bool.false_ne_true]
  exact runWrite_kept ha t _ _

/-- A RUN frame that skips a scan number. -/
theorem takeRun_skip (hs : 1 < (q.scanStep f).toNat) :
    RunKept (PortSt.takeAux (dlAux f) { (q.takeScan f).eachChan (fun c p => p.faultChan c f) with
      seqFault := true, seqScans := some (q.scanX + 1, (q.takeScan f).scanX),
      diagq := (q.takeScan f).diagq ++ [(0x0006, v)] }) (q.takeRun t v f) := by
  have hb : q.scanBad f = true := decide_eq_true hs
  unfold PortSt.takeRun
  dsimp only
  rw [hb, firstRun_of_gotRun hg f, if_pos rfl]
  exact runWrite_kept ha t _ _

end

/-- A port on which a channel is judged, in the frame of the scan number after its last. -/
def JudgedOn (f : Frame) (q r : PortSt) : Prop :=
  ∃ u, Heard f q u ∧ ∃ v, r = { u with scanX := q.scanX + 1, scanAge := 0, chans := v }

section
variable {q r : PortSt} {f : Frame} (hr : Heard f q r) (hg : q.gotRun = true) (ha : 128 ≤ (dlParamAddr f).toNat) (t : Nat) (v : Half)
include hr hg ha

/-- A frame that carries the next scan number leaves each channel as the decision on it does, but for a test asked for. -/
theorem heard_next (hs : q.scanStep f = 1) :
    ((r.takeRun t v f).scanX = q.scanX + 1 ∧ (r.takeRun t v f).echo = dlCycle f ∧ (r.takeRun t v f).ctExpired = false)
      ∧ ∀ c : Fin 6, ∃ u b, JudgedOn f q u ∧ u.chan c.val = q.chan c.val
        ∧ (r.takeRun t v f).chan c.val = { (u.judgeChan t c.val f).chan c.val with asked := b } := by
  have hheard := hr
  obtain ⟨_, ⟨tx, dq, sf, es, rfl⟩, rfl⟩ := hr
  generalize hw : PortSt.goodDownlink f { q with tx := tx, diagq := dq, seqFault := sf, edges := es } = w at hheard ⊢
  have hw' : w.gotRun = true ∧ w.scanStep f = 1 ∧ w.scanX = q.scanX ∧ w.echo = dlCycle f ∧ w.chans = q.chans := by
    subst hw; exact ⟨hg, hs, rfl, rfl, rfl⟩
  clear hw
  obtain ⟨hwg, hws, hwx, hwe, hwc⟩ := hw'
  have hscan : w.takeScan f = { w with scanX := q.scanX + 1, scanAge := 0 } := by
    unfold PortSt.takeScan
    rw [hws, hwx]
    rfl
  obtain ⟨⟨cs, hpass⟩, hchan⟩ := eachChan_ownStep (q := w.takeScan f) (f := fun c p => p.judgeChan t c f)
    (by rintro c _ ⟨cs, rfl⟩; exact ownStep_judgeChan (by rw [hscan]; exact Nat.zero_le _) t c f)
  obtain ⟨⟨hx, he, hct, -, -⟩, hkept⟩ := takeRun_next hwg ha t v hws
  generalize w.takeRun t v f = out at *
  refine ⟨⟨hx.trans ?_, he.trans ?_, hct⟩, fun c => ?_⟩
  · rw [hpass, hscan]; rfl
  · rw [hpass, hscan]; exact hwe
  · obtain ⟨u, ⟨cs, hu⟩, huc, hend⟩ := hchan c
    obtain ⟨b, hb⟩ := hkept c
    have hwc' : (w.takeScan f).chan c.val = q.chan c.val := by rw [hscan]; unfold PortSt.chan; rw [← hwc]
    rw [hscan] at hu
    refine ⟨u, b, ⟨w, hheard, cs, hu⟩, huc.trans hwc', ?_⟩
    rw [hb, takeAux_chan, hend]

/-- A frame that skips a scan number opens every channel with its latch. -/
theorem heard_skip (hs : 1 < (q.scanStep f).toNat) :
    let x := q.scanX + (q.scanStep f).setWidth 32
    (r.takeRun t v f).seqFault = true ∧ (r.takeRun t v f).seqScans = some (q.scanX + 1, x)
      ∧ ∀ c : Fin 6, (((r.takeRun t v f).chan c.val).closed = false ∧ ((r.takeRun t v f).chan c.val).portOpen = true)
        ∧ (c.val < 4 → dlCode f c.val ≠ onCode q.seed x c.val → ((r.takeRun t v f).chan c.val).overcurr = false) := by
  intro x
  obtain ⟨_, ⟨tx, dq, sf, es, rfl⟩, rfl⟩ := hr
  generalize hw : PortSt.goodDownlink f { q with tx := tx, diagq := dq, seqFault := sf, edges := es } = w
  have hw' : w.gotRun = true ∧ 1 < (w.scanStep f).toNat ∧ w.scanX = q.scanX ∧ (w.takeScan f).scanX = x ∧ w.seed = q.seed := by
    subst hw; exact ⟨hg, hs, rfl, rfl, rfl⟩
  clear hw
  obtain ⟨hwg, hws, hwx, hscan, hseed⟩ := hw'
  obtain ⟨-, hchan⟩ := eachChan_ownStep (q := w.takeScan f) (f := fun c p => p.faultChan c f)
    fun c p _ => ownStep_faultChan c f p
  obtain ⟨⟨-, -, -, hsf, hss⟩, hkept⟩ := takeRun_skip hwg ha t v hws
  generalize w.takeRun t v f = out at *
  refine ⟨hsf, hss.trans ?_, fun c => ?_⟩
  · rw [← hscan, ← hwx]; rfl
  · obtain ⟨u, ⟨cs, rfl⟩, -, hend⟩ := hchan c
    obtain ⟨b, hb⟩ := hkept c
    obtain ⟨hclosed, hopen, hover⟩ := faultChan_chan { w.takeScan f with chans := cs } c f
    rw [takeAux_chan] at hb
    have hb' : out.chan c.val = { ((w.takeScan f).eachChan (fun c p => p.faultChan c f)).chan c.val with asked := b } := hb
    rw [hb', hend]
    refine ⟨⟨hclosed, hopen⟩, fun hc hne => hover (nonOn_of_ne hc ?_)⟩
    show dlCode f c.val ≠ onCode w.seed (w.takeScan f).scanX c.val
    rw [hseed, hscan]
    exact hne

end

/-! ## A channel under the frame of the next scan number (R90, R122, R123, R130) -/

section
variable {q u : PortSt} {f : Frame} {c : Fin 6} (hu : JudgedOn f q u) (hc : u.chan c.val = q.chan c.val)
  (hen : q.chanEn c.val = true) (t : Nat)

include hu in
theorem JudgedOn.codeMatches_iff : u.codeMatches c.val f = true ↔ dlCode f c.val = onCode q.seed (q.scanX + 1) c.val := by
  obtain ⟨_, ⟨_, ⟨tx, dq, sf, es, rfl⟩, rfl⟩, v, rfl⟩ := hu
  exact Machine.codeMatches_iff

include hu in
theorem JudgedOn.scanAge_fresh : ¬ u.staleAfter < u.scanAge := by
  obtain ⟨_, -, v, rfl⟩ := hu
  exact Nat.not_lt_zero _

include hu hc in
theorem JudgedOn.mayClose : u.mayClose c.val = q.mayClose c.val := by
  unfold PortSt.mayClose
  rw [hc]
  obtain ⟨_, ⟨_, ⟨tx, dq, sf, es, rfl⟩, rfl⟩, v, rfl⟩ := hu
  rfl

include hu hen in
theorem JudgedOn.judgeChan : u.judgeChan t c.val f = if c.val < 4 then u.decideQ t c.val f else u.decideBr t c.val f := by
  have hue : u.chanEn c.val = true := by
    obtain ⟨_, ⟨_, ⟨tx, dq, sf, es, rfl⟩, rfl⟩, v, rfl⟩ := hu
    exact hen
  unfold PortSt.judgeChan
  rw [hue]
  rfl

/-- A non-ON value opens a channel and clears its latches. -/
theorem nonOn_chan (p : PortSt) : let x := ((p.clearLatches c.val).takeOff c.val).chan c.val
    x.closed = false ∧ x.portOpen = false ∧ x.overcurr = false := by
  intro x
  obtain ⟨hopen, hover, -⟩ := clearLatches_chan p c
  have hx : x = ((p.clearLatches c.val).chan c.val).turnOff := takeOff_chan _ c
  obtain ⟨hl, ho⟩ := ((p.clearLatches c.val).chan c.val).turnOff_latches
  rw [hx]
  exact ⟨ChanSt.turnOff_closed _, hl.trans hopen, ho.trans hover⟩

include hu hen in
theorem JudgedOn.safeOutput (h4 : c.val < 4) : u.judgeChan t c.val f =
    if u.codeMatches c.val f then u.takeOn t c.val .off else (u.clearLatches c.val).takeOff c.val := by
  rw [hu.judgeChan hen, if_pos h4, PortSt.decideQ, if_neg hu.scanAge_fresh]

include hu hen in
theorem JudgedOn.brake (h4 : 4 ≤ c.val) : u.judgeChan t c.val f = u.decideBr t c.val f := by
  rw [hu.judgeChan hen, if_neg (not_lt.2 h4)]

/-- The clamp takes a released or held brake, with the latches that a non-ON value clears. -/
theorem clamp_chan {p : PortSt} (h : (p.chan c.val).brake.energised = true) :
    let x := ((p.clearLatches c.val).updChan c.val ChanSt.takeClamp).chan c.val
    x.closed = false ∧ x.brake = .clamp ∧ x.portOpen = false := by
  intro x
  obtain ⟨hopen, -, hbrake⟩ := clearLatches_chan p c
  have hx : x = ((p.clearLatches c.val).chan c.val).takeClamp := chan_updChan_self _ c _
  rw [hx]
  unfold ChanSt.takeClamp ChanSt.clampOn
  rw [hbrake, if_pos h]
  exact ⟨rfl, rfl, hopen⟩

end

/-! ## A stale code (R91, R92) -/

/-- A channel without its latch is opened, latched and reported. -/
theorem staleChan_reports {q : PortSt} {c : Fin 6} (h : (q.chan c.val).portOpen = false) :
    let r := q.staleChan c.val
    (r.chan c.val).closed = false ∧ (r.chan c.val).portOpen = true ∧ r.seqFault = true
      ∧ r.diagq = q.diagq ++ [(0x0007, BitVec.ofNat 16 c.val)] := by
  intro r
  have hr : r = { (q.openLatched c.val).diag 0x0007 c.val with seqFault := true } :=
    if_neg (by rw [h]; exact Bool.false_ne_true)
  have hchan : r.chan c.val = { (q.chan c.val).opened with portOpen := true, wantClose := false } := by
    rw [hr]; exact chan_updChan_self q c _
  rw [hchan, hr]
  exact ⟨rfl, rfl, rfl, rfl⟩

/-- Settles O51: the frame is heard, its type's operation acts on what reception leaves, and a RUN frame's pass over the channels is
the decision on each of them. -/
theorem portLink : Obligations.PortLink := by
  intro s p framing f c q hears ok run lost bits carries
  have row {x : Instr} {g : PortSt → PortSt} {P : State → Prop} (hx : exec x s = .next (updPort p.val g s))
      (h : ∀ t : State, t.ports[p.val] = g q → P t) : Runs x s P := ⟨_, hx, h _ (getElem_updPort p g s)⟩
  have idle {x : Instr} {g : PortSt → PortSt} (hx : exec x s = .next (updPort p.val g s)) (h : g q = q) :
      exec x s = .next s := by rw [hx, updPort_of_fixed h]
  have hseeded (h : q.phase = .seeded) : q.phase ≠ .silent := by rw [h]; decide
  have hident (h : q.phase = .ident) : q.phase ≠ .silent := by rw [h]; decide
  have runFrame {P : State → Prop} (hP : ∀ (v : Half) (t : State),
      t.ports[p.val] = q.receive 3 framing f (fun r => r.takeRun s.clock v f) → P t) : Runs (.downlinkRun p framing f) s P :=
    ⟨_, rfl, hP _ _ (getElem_updPort p _ _)⟩
  have runRow {P : State → Prop} (h : run) (hP : ∀ r, Heard f q r → ∀ (v : Half) (t : State),
      t.ports[p.val] = r.takeRun s.clock v f → P t) : Runs (.downlinkRun p framing f) s P := by
    obtain ⟨hok, hphase, hg, -⟩ := h
    refine runFrame fun v t ht => ?_
    obtain ⟨r, hr, he⟩ := receive_valid hok (hseeded hphase) (by rw [expects_seeded hphase hg]; exact List.mem_cons_self) fun r =>
      r.takeRun s.clock v f
    exact hP r hr v t (ht.trans he)
  have next {P : State → Prop} (h : run) (hs : q.scanStep f = 1)
      (hP : ∀ u, JudgedOn f q u → u.chan c.val = q.chan c.val → ∀ b (t : State),
        t.ports[p.val].chan c.val = { (u.judgeChan s.clock c.val f).chan c.val with asked := b } →
        t.ports[p.val].scanX = q.scanX + 1 ∧ t.ports[p.val].echo = dlCycle f ∧ t.ports[p.val].ctExpired = false → P t) :
      Runs (.downlinkRun p framing f) s P := by
    refine runRow h fun r hr v t ht => ?_
    obtain ⟨-, -, hg, ha⟩ := h
    obtain ⟨hregs, hchan⟩ := heard_next hr hg ha s.clock v hs
    obtain ⟨u, b, hu, hc, he⟩ := hchan c
    rw [← ht] at hregs he
    exact hP u hu hc b t he hregs
  have heard {x : Instr} {type : Nat} {take : PortSt → PortSt} {P : State → Prop}
      (hx : exec x s = .next (updPort p.val (fun q => q.receive type framing f take) s)) (h : ok type) (hc : q.phase ≠ .silent)
      (he : type ∈ q.expects) (hP : ∀ r, Heard f q r → ∀ t : State, t.ports[p.val] = take r → P t) : Runs x s P := by
    obtain ⟨r, hr, hrecv⟩ := receive_valid h hc he take
    exact row hx fun t ht => hP r hr t (ht.trans hrecv)
  refine ⟨row rfl fun t ht => ?_, row rfl fun t ht => ?_, fun h => ?_, fun h hphase hn => ?_, fun h hphase ha => ?_,
    fun h hphase hn hs => ?_, fun h h4 hen hs => ⟨fun hcode hmay => ?_, fun hcode => ?_⟩,
    fun h h4 hen hs => ⟨fun hbits hcode hmay hbrake => ?_, fun hbits hcode => ?_, fun hbits => ?_, fun hbits hbrake => ?_⟩,
    fun h hs => ?_, fun h hheard hphase hg hb => ?_, fun h => idle rfl (if_neg ?_),
    fun hphase hs hclosed hopen => row rfl fun t ht => ?_, fun h => row rfl fun t ht => ?_,
    fun h => idle rfl (linkLoss_unseeded h)⟩
  · rw [ht]; exact powerReset_opens q
  · rw [ht]; exact logicReset_keeps q
  · simp only [List.forall_mem_cons, List.not_mem_nil, IsEmpty.forall_iff, implies_true, and_true]
    exact ⟨idle rfl (receive_unheard h 0 framing f _), idle rfl (receive_unheard h 1 framing f _),
      idle rfl (receive_unheard h 2 framing f _)⟩
  · refine heard rfl h (by rw [hphase]; decide) (by rw [expects_locking hphase]; decide) ?_
    rintro _ ⟨_, ⟨tx, dq, sf, es, rfl⟩, rfl⟩ t ht
    rw [ht]
    exact takeSync_third hphase hn
  · refine heard rfl h (hident hphase) (by rw [expects_ident hphase]; decide) ?_
    rintro _ ⟨_, ⟨tx, dq, sf, es, rfl⟩, rfl⟩ t ht
    rw [ht]
    exact takeStart_ident hphase ha
  · refine heard rfl h (hident hphase) (by rw [expects_ident hphase]; decide) ?_
    rintro _ ⟨_, ⟨tx, dq, sf, es, rfl⟩, rfl⟩ t ht
    rw [ht]
    exact takeSeed_third hphase hn hs
  · refine next h hs fun u hu hc b t ht hregs => ⟨?_, hregs⟩
    rw [ht, hu.safeOutput hen s.clock h4, if_pos (hu.codeMatches_iff.2 hcode), takeOn_chan ((hu.mayClose hc).trans hmay)]
    exact ChanSt.close_safeOutput h4 _ _
  · refine next h hs fun u hu hc b t ht _ => ?_
    rw [hu.safeOutput hen s.clock h4, if_neg (mt hu.codeMatches_iff.1 hcode)] at ht
    show _ ∧ _ ∧ _
    rw [ht]
    exact nonOn_chan u
  · refine next h hs fun u hu hc b t ht _ => ?_
    rw [hu.brake hen s.clock h4, decideBr_energised hbits, if_pos (hu.codeMatches_iff.2 hcode), if_neg hu.scanAge_fresh,
      takeOn_chan ((hu.mayClose hc).trans hmay)] at ht
    rw [ht]
    exact ChanSt.close_brake h4 (by rw [hc]; exact hbrake) _
  · refine next h hs fun u hu hc b t ht _ => ?_
    rw [hu.brake hen s.clock h4, decideBr_energised hbits, if_neg (mt hu.codeMatches_iff.1 hcode), takeOff_chan, hc] at ht
    obtain ⟨hopen, -⟩ := (q.chan c.val).turnOff_latches
    rw [ht]
    exact ⟨ChanSt.turnOff_closed _, hopen⟩
  · refine next h hs fun u hu hc b t ht _ => ?_
    rw [hu.brake hen s.clock h4, decideBr_off hbits] at ht
    rw [ht]
    exact nonOn_chan u
  · refine next h hs fun u hu hc b t ht _ => ?_
    rw [hu.brake hen s.clock h4, decideBr_clamp hbits] at ht
    rw [ht]
    exact clamp_chan (by rw [hc]; exact hbrake)
  · refine runRow h fun r hr v t ht => ?_
    obtain ⟨-, -, hg, ha⟩ := h
    obtain ⟨hsf, hscans, hchan⟩ := heard_skip hr hg ha s.clock v hs
    rw [ht]
    exact ⟨hsf, hscans, fun d => (hchan d).1, (hchan c).2⟩
  · refine runFrame fun v t ht => ?_
    obtain ⟨_, ⟨tx, dq, sf, es, rfl⟩, hrecv⟩ := receive_invalid hheard (fun hv => h ⟨hheard, hv⟩) (hseeded hphase)
      (by rw [expects_seeded hphase hg]; exact List.mem_cons_self) fun r => r.takeRun s.clock v f
    obtain ⟨n, age, hbad⟩ := badDownlink_fourth (q := { q with tx := tx, diagq := dq, seqFault := sf, edges := es }) hb
    rw [ht, hrecv, hbad]
    exact linkLoss_lost hphase
  · simp [not_lt.2 h]
  · have hg : (q.phase == .seeded && (q.chan c.val).closed && decide (q.staleAfter < q.scanAge)) = true := by
      rw [hphase, hclosed, decide_eq_true hs]; rfl
    rw [ht.trans (if_pos hg)]
    exact staleChan_reports hopen
  · rw [ht]; exact linkLoss_lost h

end Sys2Proof.Machine
end

section
/-! PROOFS. One link as the controller changes it (R76, R86, R94, R96): what its rows leave alone, and what each operation makes of the
link itself. -/

namespace Sys2Proof.Machine

/-! ### One link of the state -/

theorem getLink_fin (l : Fin 8) (s : State) : getLink l.val s = s.links[l.val] := by simp [getLink]

theorem updLink_self (l : Fin 8) (f : Link → Link) (s : State) : (updLink l.val f s).links[l.val] = f s.links[l.val] :=
  (getElem_updVec s.links f l.val l.isLt).trans (if_pos rfl)

theorem eventOf_congr {s t : State} (htb : t.tb = s.tb) (hset : t.set = s.set) (src : Nat) (code : Half) (c : Cls) (arg : DWord) :
    eventOf src code c arg t = eventOf src code c arg s := by
  unfold eventOf evEnabled
  rw [htb, hset]

/-! ### What the rows of a link leave alone -/

/-- From `s` to `t` links, free values and what events reach have changed. -/
def LinkFrame (s t : State) : Prop :=
  t = { s with links := t.links, fresh := t.fresh, hb := t.hb, jr := t.jr, nv := t.nv } ∧ EventStore s t

namespace LinkFrame

variable {s t u : State}

protected theorem refl (s : State) : LinkFrame s s := ⟨rfl, .refl s⟩

theorem trans (h : LinkFrame s t) (k : LinkFrame t u) : LinkFrame s u := ⟨by rw [k.1, h.1], h.2.trans k.2⟩

theorem of_event (h : StoreApart s t) (k : EventStore s t) : LinkFrame s t := by
  refine ⟨?_, k⟩
  rw [StoreApart] at h
  rw [h]

protected theorem ite {c : Prop} [Decidable c] (h : LinkFrame s t) (k : LinkFrame s u) : LinkFrame s (if c then t else u) := by
  split
  · exact h
  · exact k

theorem foldl {α : Type} {g : State → α → State} (h : ∀ s a, LinkFrame s (g s a)) (l : List α) (s : State) :
    LinkFrame s (l.foldl g s) := by
  induction l generalizing s with
  | nil => exact .refl s
  | cons a r ih => exact (h s a).trans (ih _)

theorem en (h : LinkFrame s t) : t.en = s.en := by rw [h.1]
theorem dev (h : LinkFrame s t) : t.dev = s.dev := by rw [h.1]
theorem ports (h : LinkFrame s t) : t.ports = s.ports := by rw [h.1]
theorem tb (h : LinkFrame s t) : t.tb = s.tb := by rw [h.1]
theorem set (h : LinkFrame s t) : t.set = s.set := by rw [h.1]
theorem clock (h : LinkFrame s t) : t.clock = s.clock := by rw [h.1]
theorem cm (h : LinkFrame s t) : t.cm = s.cm := by rw [h.1]
theorem chains (h : LinkFrame s t) : t.nv.chains = s.nv.chains := h.2.chains
theorem idle (h : LinkFrame s t) (i : Idle s) : Idle t := ⟨h.chains.trans i.1, by rw [h.cm, i.2]⟩

end LinkFrame

theorem raise_linkFrame (src : Nat) (code : Half) (c : Cls) (arg : DWord) (s : State) : LinkFrame s (raise src code c arg s) :=
  .of_event (raise_frame ..).1 (raise_store ..)

theorem raiseCause_linkFrame (bit : Nat) (s : State) : LinkFrame s (raiseCause bit s) :=
  .of_event (by rw [StoreApart, raiseCause_eq]) (raiseCause_store bit s)

theorem updLink_linkFrame (l : Nat) (f : Link → Link) (s : State) : LinkFrame s (updLink l f s) := ⟨rfl, .of_nv rfl⟩

theorem noteStartFail_linkFrame (l : Nat) (s : State) : LinkFrame s (noteStartFail l s) :=
  .trans (.ite (.refl s) (raise_linkFrame ..)) (updLink_linkFrame ..)

theorem checkRate_linkFrame (l : Nat) (s : State) : LinkFrame s (checkRate l s) := by
  unfold checkRate
  extract_lets k ul dl ulOver dlOver counted told
  have hcounted : LinkFrame s counted := updLink_linkFrame ..
  have htold : LinkFrame s told := .ite (hcounted.trans (raise_linkFrame ..)) hcounted
  exact .ite (htold.trans (raise_linkFrame ..)) htold

/-! ### The error rates (R96) -/

/-- A link with its error counts as those of link `j`, over the latest cycles. -/
def Link.ratedAs (j k : Link) : Link :=
  { k with ulBad := recentBad j.cycles j.ulBad, dlBad := recentBad j.cycles j.dlBad,
           ulOver := decide (64 ≤ (recentBad j.cycles j.ulBad).length), dlOver := decide (64 ≤ (recentBad j.cycles j.dlBad).length) }

/-- A link with the invalid frames of its latest cycles counted. -/
def Link.rated (k : Link) : Link := k.ratedAs k

/-- A change of a link by what it holds now. -/
theorem updLink_getLink (l : Fin 8) (g : Link → Link → Link) (s : State) :
    updLink l.val (g (getLink l.val s)) s = updLink l.val (fun k => g k k) s := by
  rw [getLink_fin]
  unfold updLink updVec
  rw [Vector.getElem?_eq_getElem l.isLt]

theorem checkRate_links (l : Fin 8) (s : State) : (checkRate l.val s).links = (updLink l.val Link.rated s).links := by
  unfold checkRate
  extract_lets k ul dl ulOver dlOver counted told
  have hcounted : counted = updLink l.val Link.rated s := updLink_getLink l Link.ratedAs s
  simp only [told, apply_ite State.links, raise_links, ite_self, hcounted]

/-- A direction's count does not rise to 64: it has been there, or it stays below. -/
def RateQuiet (seen : Bool) (cycles : Nat) (bad : List Nat) : Prop := seen = true ∨ (recentBad cycles bad).length < 64

theorem RateQuiet.not_rises {seen : Bool} {cycles : Nat} {bad : List Nat} (h : RateQuiet seen cycles bad) :
    ¬ (decide (64 ≤ (recentBad cycles bad).length) && !seen) = true := by
  rcases h with h | h
  · simp [h]
  · simp [Nat.not_le.2 h]

/-- While neither direction's count rises to 64, the rates are counted and nothing is raised. -/
theorem checkRate_quiet {l : Fin 8} {s : State} {k : Link} (hk : s.links[l.val] = k) (hul : RateQuiet k.ulOver k.cycles k.ulBad)
    (hdl : RateQuiet k.dlOver k.cycles k.dlBad) : checkRate l.val s = updLink l.val Link.rated s := by
  rw [← hk, ← getLink_fin] at hul hdl
  calc checkRate l.val s = updLink l.val (Link.ratedAs (getLink l.val s)) s :=
        (if_neg hdl.not_rises).trans (if_neg hul.not_rises)
    _ = updLink l.val Link.rated s := updLink_getLink ..

/-! ### A link cycle (R76) -/

theorem portImage_congr {s t : State} (h : LinkFrame s t) (l : Nat) : portImage l t = portImage l s := by
  have hdecay : t.nv.live.decay = s.nv.live.decay := by rw [h.2.1]
  unfold portImage
  rw [h.en, hdecay]

/-- The frame of one link is the same after the rows of others. -/
theorem linkFrame_congr {s t : State} (h : LinkFrame s t) (l : Nat) (k : Link) : linkFrame l k t = linkFrame l k s := by
  have himage := portImage_congr h l
  obtain ⟨ht, -⟩ := h
  unfold linkFrame
  rw [himage, ht]
  rfl

theorem linkFrame_cycle (l : Nat) (k : Link) (s : State) : (linkFrame l k s).cycle = k.cycle + 1 := by
  unfold linkFrame
  dsimp only
  (repeat' split) <;> rfl

theorem linkFrame_phase (l : Nat) (k : Link) (s : State) : (linkFrame l k s).phase = k.phase := by
  unfold linkFrame
  dsimp only
  (repeat' split) <;> rfl

/-- A link cycle of link `l`: a started link sends its frame. -/
def cycleLink (s : State) (l : Fin 8) : State :=
  if s.links[l.val].held || s.links[l.val].phase == 0 then s
  else checkRate l.val (updLink l.val (fun k => linkFrame l.val k s) s)

/-- What a link cycle makes of link `l`. -/
def Link.cycled (l : Nat) (s : State) (k : Link) : Link :=
  if k.held || k.phase == 0 then k else (linkFrame l k s).rated

theorem Link.cycled_idle {l : Nat} {s : State} {k : Link} (h : k.held = true ∨ k.phase = 0) : k.cycled l s = k :=
  if_pos (by simpa using h)

theorem Link.cycled_started {l : Nat} {s : State} {k : Link} (hheld : k.held = false) (hphase : k.phase ≠ 0) :
    k.cycled l s = (linkFrame l k s).rated := if_neg (by simp [hheld, hphase])

theorem linkCycle_eq {s : State} (h : live s = true) : linkCycle s = (List.finRange 8).foldl cycleLink s := by
  unfold linkCycle
  rw [h, ← List.map_coe_finRange_eq_range, List.foldl_map]
  simp only [getLink_fin]
  rfl

theorem cycleLink_linkFrame (s : State) (l : Fin 8) : LinkFrame s (cycleLink s l) :=
  .ite (.refl s) ((updLink_linkFrame ..).trans (checkRate_linkFrame ..))

theorem cycleLink_other {l m : Fin 8} (h : m ≠ l) (s : State) : (cycleLink s l).links[m.val] = s.links[m.val] := by
  unfold cycleLink
  split
  · rfl
  · simp only [checkRate_links]
    exact (updLink_otherLinks l _ _ m h).trans (updLink_otherLinks l _ _ m h)

theorem cycleLink_self (s : State) (l : Fin 8) : (cycleLink s l).links[l.val] = s.links[l.val].cycled l.val s := by
  unfold cycleLink Link.cycled
  split
  · rfl
  · simp only [checkRate_links, updLink_self]

theorem cycleLinks_link (ls : List (Fin 8)) (hls : ls.Nodup) (s : State) (m : Fin 8) :
    (ls.foldl cycleLink s).links[m.val] = if m ∈ ls then s.links[m.val].cycled m.val s else s.links[m.val] := by
  induction ls generalizing s with
  | nil => simp
  | cons l ls ih =>
    obtain ⟨hl, hls⟩ := List.nodup_cons.1 hls
    have hcycled (k : Link) : k.cycled m.val (cycleLink s l) = k.cycled m.val s := by
      unfold Link.cycled
      rw [linkFrame_congr (cycleLink_linkFrame s l)]
    rw [List.foldl_cons, ih hls, hcycled]
    by_cases h : m = l
    · subst h
      rw [if_neg hl, cycleLink_self, if_pos List.mem_cons_self]
    · simp [cycleLink_other h, h]

theorem linkCycle_link {s : State} (h : live s = true) (l : Fin 8) :
    (linkCycle s).links[l.val] = s.links[l.val].cycled l.val s := by
  rw [linkCycle_eq h, cycleLinks_link _ (List.nodup_finRange 8), if_pos (List.mem_finRange l)]

theorem linkCycle_linkFrame {s : State} (h : live s = true) : LinkFrame s (linkCycle s) := by
  rw [linkCycle_eq h]
  exact .foldl cycleLink_linkFrame _ s

end Sys2Proof.Machine
end

section
/-! PROOFS. Link cycles, link starts and losses (R76, R86, R94): what a start that fails and a loss make of a link, and the events they
put in the journal. -/

namespace Sys2Proof.Machine

/-- A row that settles accepted commands, while none waits. -/
theorem runs_settled {i : Instr} {s u : State} {P : State → Prop} (hi : exec i s = .next (settle u)) (hc : u.nv.chains = [])
    (h : P u) : Runs i s P := ⟨u, by rw [hi, settle_none u hc], h⟩

theorem next_settle {t u : State} (h : t = u) : (Host.Outcome.next (settle t) : Out) = .next (settle u) := by rw [h]

/-! ### A failed start noted (R94) -/

section
variable {s : State} {l : Fin 8}

/-- A link after a failed start. -/
def Link.startFailed (k : Link) : Link := { k with failed := inc8 k.failed, failShown := true }

/-- A link let go (R94). -/
def Link.dropped (k : Link) : Link := { k.down with seenClosed := k.seenClosed ||| k.outNow }

theorem Link.dropped_phase {k : Link} (h : 1 ≤ k.phase) : k.dropped.phase = 1 := if_neg (Nat.ne_of_gt h)

/-- LINK_START_FAIL in the present phase of link `l`. -/
def startFailEvent (l : Fin 8) (s : State) : QEvent := eventOf (184 + l.val) 0x0003 .warning (argOf [(0, s.links[l.val].phase)]) s

theorem noteStartFail_eq : noteStartFail l.val s = updLink l.val Link.startFailed (if s.links[l.val].failShown then s
    else raise (184 + l.val) 0x0003 .warning (argOf [(0, s.links[l.val].phase)]) s) := by
  unfold noteStartFail
  rw [getLink_fin]
  rfl

theorem noteStartFail_link : (noteStartFail l.val s).links[l.val] = s.links[l.val].startFailed := by
  rw [noteStartFail_eq, updLink_self]
  simp only [apply_ite State.links, raise_links, ite_self]

theorem noteStartFail_shown (h : s.links[l.val].failShown = true) : (noteStartFail l.val s).jr = s.jr := by
  rw [noteStartFail_eq, if_pos h, updLink_jr]

theorem noteStartFail_gains (h : s.links[l.val].failShown = false) (ho : JournalOpen s) :
    Gained [startFailEvent l s] s (noteStartFail l.val s) := by
  unfold Gained
  rw [noteStartFail_eq, if_neg (by simp [h]), updLink_jr, raise_open _ _ .warning _ _ ho (.inl (Nat.le_refl 2))]
  rfl

/-! ### A link let go -/

theorem dropLink_link (i : Idle s) : (dropLink l.val s).links[l.val] = s.links[l.val].dropped := by
  rw [dropLink_idle i, updLink_self]
  rfl

theorem dropLink_jr (i : Idle s) : (dropLink l.val s).jr = s.jr := by
  rw [dropLink_idle i]
  rfl

theorem mayTimeOut_iff {k : Link} :
    mayTimeOut k = true ↔ k.held = false ∧ 1 ≤ k.phase ∧ k.phase ≤ 5 ∧ (k.phase = 5 → 0 < k.seedSent) := by
  simp [mayTimeOut, and_assoc, imp_iff_not_or]

theorem linkStartFail_eq (h : mayTimeOut s.links[l.val] = true) :
    linkStartFail l.val s = dropLink l.val (noteStartFail l.val s) := if_pos (by rwa [getLink_fin])

theorem linkStartFail_link (i : Idle s) (h : mayTimeOut s.links[l.val] = true) :
    (linkStartFail l.val s).links[l.val] = s.links[l.val].startFailed.dropped := by
  rw [linkStartFail_eq h, dropLink_link ((noteStartFail_linkFrame ..).idle i), noteStartFail_link]

theorem linkStartFail_jr (i : Idle s) (h : mayTimeOut s.links[l.val] = true) :
    (linkStartFail l.val s).jr = (noteStartFail l.val s).jr := by
  rw [linkStartFail_eq h, dropLink_jr ((noteStartFail_linkFrame ..).idle i)]

theorem linkStartFail_untimed (h : mayTimeOut s.links[l.val] = false) : linkStartFail l.val s = s :=
  if_neg (by rw [getLink_fin, h]; exact Bool.false_ne_true)

/-! ### A loss (R94, Table 4-10) -/

/-- LINK_LOST of link `l`. -/
def lostEvent (l : Fin 8) (cause : Nat) (s : State) : QEvent :=
  eventOf (184 + l.val) 0x0002 .warning (argOf [(0, cause), (1, s.links[l.val].phase)]) s

/-- LINK_LOST raised, with its attention. -/
def tellLost (l : Fin 8) (cause : Nat) (s : State) : State :=
  raiseCause 7 (raise (184 + l.val) 0x0002 .warning (argOf [(0, cause), (1, s.links[l.val].phase)]) s)

/-- The loss told, and in phases 2 to 5 the start noted as failed. -/
def lossNoted (l : Fin 8) (cause : Nat) (s : State) : State :=
  if s.links[l.val].phase ≤ 5 then noteStartFail l.val (tellLost l cause s) else tellLost l cause s

/-- A link as a loss leaves it. -/
def Link.lost (k : Link) : Link := (if k.phase ≤ 5 then k.startFailed else k).dropped

theorem Link.lost_phase {k : Link} (h : 2 ≤ k.phase) : k.lost.phase = 1 := by
  unfold Link.lost
  refine Link.dropped_phase ?_
  split <;> exact Nat.le_of_succ_le h

theorem Link.lost_failed (k : Link) : k.lost.failed = if k.phase ≤ 5 then inc8 k.failed else k.failed := by
  unfold Link.lost
  split <;> rfl

theorem Link.lost_ulErr (k : Link) : k.lost.ulErr = k.ulErr := by
  unfold Link.lost
  split <;> rfl

theorem tellLost_linkFrame (cause : Nat) : LinkFrame s (tellLost l cause s) :=
  (raise_linkFrame ..).trans (raiseCause_linkFrame ..)

theorem tellLost_links (cause : Nat) : (tellLost l cause s).links = s.links := by simp [tellLost]

theorem tellLost_eq (ho : JournalOpen s) (cause : Nat) : tellLost l cause s = { s with
    jr := { s.jr with queue := s.jr.queue ++ [lostEvent l cause s] }, hb := (tellLost l cause s).hb } := by
  unfold tellLost
  rw [raise_open _ _ .warning _ _ ho (.inl (Nat.le_refl 2)), raiseCause_eq]
  rfl

theorem lossNoted_linkFrame (cause : Nat) : LinkFrame s (lossNoted l cause s) :=
  .ite ((tellLost_linkFrame cause).trans (noteStartFail_linkFrame ..)) (tellLost_linkFrame cause)

theorem linkLost_eq (i : Idle s) (hheld : s.links[l.val].held = false) (hphase : 2 ≤ s.links[l.val].phase) (cause : Nat) :
    linkLost l.val cause s = dropLink l.val (lossNoted l cause s) := by
  have hnoted : Idle (lossNoted l cause s) := (lossNoted_linkFrame cause).idle i
  unfold linkLost
  rw [getLink_fin, if_pos ⟨by simp [hheld], hphase⟩]
  exact abandonLearn_idle ((dropLink_within l.val _).result hnoted).1 l.val

theorem linkLost_none (h : s.links[l.val].held = true ∨ s.links[l.val].phase < 2) (cause : Nat) : linkLost l.val cause s = s :=
  if_neg fun hlost => by
    rw [getLink_fin] at hlost
    rcases h with h | h
    · simp [h] at hlost
    · omega

theorem linkLost_link (i : Idle s) (hheld : s.links[l.val].held = false) (hphase : 2 ≤ s.links[l.val].phase) (cause : Nat) :
    (linkLost l.val cause s).links[l.val] = s.links[l.val].lost := by
  rw [linkLost_eq i hheld hphase, dropLink_link ((lossNoted_linkFrame cause).idle i)]
  unfold lossNoted Link.lost
  split
  · rw [noteStartFail_link]; simp only [tellLost_links]
  · simp only [tellLost_links]

theorem linkLost_jr (i : Idle s) (hheld : s.links[l.val].held = false) (hphase : 2 ≤ s.links[l.val].phase) (cause : Nat) :
    (linkLost l.val cause s).jr = (lossNoted l cause s).jr := by
  rw [linkLost_eq i hheld hphase, dropLink_jr ((lossNoted_linkFrame cause).idle i)]

theorem tellLost_gains (ho : JournalOpen s) (cause : Nat) : Gained [lostEvent l cause s] s (tellLost l cause s) := by
  rw [tellLost_eq ho]
  rfl

/-- A link that was up, or whose failed start has been journalled, is journalled as lost alone. -/
theorem lossNoted_gains_lost (ho : JournalOpen s) (h : 6 ≤ s.links[l.val].phase ∨ s.links[l.val].failShown = true) (cause : Nat) :
    Gained [lostEvent l cause s] s (lossNoted l cause s) := by
  have htold := tellLost_gains (l := l) ho cause
  unfold lossNoted
  split
  next hphase =>
    have hshown : s.links[l.val].failShown = true := h.resolve_left (by omega)
    unfold Gained
    rw [noteStartFail_shown (by simpa only [tellLost_links] using hshown)]
    exact htold
  · exact htold

/-- The first failure of a run is journalled after the loss. -/
theorem lossNoted_gains_both (ho : JournalOpen s) (hphase : s.links[l.val].phase ≤ 5) (h : s.links[l.val].failShown = false)
    (hroom : s.jr.queue.length < 63) (cause : Nat) :
    Gained [lostEvent l cause s, startFailEvent l s] s (lossNoted l cause s) := by
  have htold := tellLost_gains (l := l) ho cause
  have hopen : JournalOpen (tellLost l cause s) := by
    have hfull : queueFull (tellLost l cause s) = false := by
      rw [queueFull, htold, List.length_append, List.length_singleton, decide_eq_false (by omega)]
    rw [tellLost_eq ho] at hfull ⊢
    obtain ⟨hgap, -, hslot⟩ := ho
    exact ⟨hgap, hfull, hslot⟩
  have hevent : startFailEvent l (tellLost l cause s) = startFailEvent l s := by
    have hframe : LinkFrame s (tellLost l cause s) := tellLost_linkFrame cause
    unfold startFailEvent
    rw [eventOf_congr hframe.tb hframe.set]
    simp only [tellLost_links]
  have hfailed := noteStartFail_gains (s := tellLost l cause s) (l := l) (by simpa only [tellLost_links] using h) hopen
  unfold lossNoted
  rw [if_pos hphase]
  unfold Gained at htold hfailed ⊢
  rw [hfailed, htold, hevent, List.append_assoc]
  rfl

/-! ### A start (R86) -/

theorem linkStart_eq (hlive : live s = true) (hheld : s.links[l.val].held = true) (hphase : s.links[l.val].phase = 1)
    (hfused : l.val < portsFused s) (hstate : s.dev.dvState ≠ .dormantEntry) : linkStart l.val s = startLink l.val s :=
  if_pos (by rw [getLink_fin]; simp [hlive, hheld, hphase, hfused, hstate])

theorem startLink_link : (startLink l.val s).links[l.val] = { s.links[l.val] with
    phase := 1, held := false, quarantine := false, strapErr := false, startUs := s.clock, delays := [],
    inLatched := 0, chLatches := Vector.replicate 6 0, dlLast := 0 } := by
  simp only [startLink, disarmRestarts_links, updLink_self]

end

/-- Settles O46: a cycle sends one frame on each started link, a loss and a failed start let the link go, and a start begins phase 1. -/
theorem links : Obligations.Links := by
  refine ⟨fun s hlive => ?_, fun s l hchains => ⟨fun cause hheld hphase hrun ho => ?_, fun cause h => ?_,
    fun hlive hheld hphase hfused hstate => ?_, fun hheld hlow hhigh hseed hrun => ?_, fun hphase hseed => ?_⟩⟩
  · have hframe := linkCycle_linkFrame hlive
    refine ⟨_, rfl, fun l h => ?_, fun l hheld hphase => ?_, hframe.en, hframe.dev, hframe.ports⟩
    · rw [linkCycle_link hlive, Link.cycled_idle h]
    · rw [linkCycle_link hlive, Link.cycled_started hheld hphase]
      exact ⟨linkFrame_cycle .., rfl, linkFrame_phase ..⟩
  · have i : Idle s := ⟨hchains, hrun⟩
    have hlink := linkLost_link i hheld hphase (cause.val + 1)
    have hjr := linkLost_jr i hheld hphase (cause.val + 1)
    refine runs_settled rfl ((linkLost_within ..).result i).1.1 ?_
    unfold Gained
    rw [hlink, hjr]
    exact ⟨Link.lost_phase hphase, rfl, rfl, rfl, linkLost_otherLinks i l _, Link.lost_failed _, fun h => lossNoted_gains_lost ho h _,
      fun hlow hshown hroom => lossNoted_gains_both ho hlow hshown hroom _⟩
  · exact (next_settle (linkLost_none h _)).trans (by rw [settle_none s hchains])
  · refine ⟨_, congrArg Host.Outcome.next (linkStart_eq hlive hheld hphase hfused hstate), ?_⟩
    simp only [startLink_link, and_self]
  · have i : Idle s := ⟨hchains, hrun⟩
    have hmay := mayTimeOut_iff.2 ⟨hheld, hlow, hhigh, hseed⟩
    have hjr := linkStartFail_jr i hmay
    refine runs_settled rfl ((linkStartFail_within ..).result i).1.1 ?_
    unfold Gained
    rw [linkStartFail_link i hmay, hjr]
    exact ⟨Link.dropped_phase hlow, rfl, rfl, rfl, noteStartFail_shown, noteStartFail_gains⟩
  · have hmay : mayTimeOut s.links[l.val] = false := by simp [mayTimeOut, hphase, hseed]
    exact (next_settle (linkStartFail_untimed hmay)).trans (by rw [settle_none s hchains])

end Sys2Proof.Machine
end

section
/-! PROOFS. What every uplink frame does to its link (R47, R77, R94, R128): a valid one gives levels, echo and the standing of the
channels, and an invalid one is counted. -/

namespace Sys2Proof.Machine

/-! ### What is measured beside a frame's contents (R47, R48, R128) -/

/-- From `k` to `k'` the measured delay has changed, the words that wait to be sent, and the standing of the channels. -/
def Link.Measured (k k' : Link) : Prop :=
  ∃ ds d w u r, k' = { k with delays := ds, delay := d, writes := w, untested := u, refused := r }

theorem Link.Measured.refl (k : Link) : k.Measured k := ⟨_, _, _, _, _, rfl⟩

theorem Link.Measured.trans {k k' k'' : Link} (h : k.Measured k') (h' : k'.Measured k'') : k.Measured k'' := by
  obtain ⟨_, _, _, _, _, rfl⟩ := h
  obtain ⟨_, _, _, _, _, rfl⟩ := h'
  exact ⟨_, _, _, _, _, rfl⟩

/-- Link `l` has been measured, and events have been raised. -/
structure Measures (l : Fin 8) (s t : State) : Prop where
  frame : LinkFrame s t
  link : s.links[l.val].Measured t.links[l.val]

namespace Measures

variable {l : Fin 8} {s t u : State}

protected theorem refl (l : Fin 8) (s : State) : Measures l s s := ⟨.refl s, .refl _⟩

theorem trans (h : Measures l s t) (h' : Measures l t u) : Measures l s u := ⟨h.frame.trans h'.frame, h.link.trans h'.link⟩

theorem of_links (h : LinkFrame s t) (hlinks : t.links = s.links) : Measures l s t := by
  refine ⟨h, ?_⟩
  simp only [hlinks]
  exact .refl _

protected theorem ite {c : Prop} [Decidable c] (h : Measures l s t) (h' : Measures l s u) :
    Measures l s (if c then t else u) := by
  split
  · exact h
  · exact h'

theorem foldl {α : Type} {g : State → α → State} (h : ∀ s a, Measures l s (g s a)) (as : List α) (s : State) :
    Measures l s (as.foldl g s) := by
  induction as generalizing s with
  | nil => exact .refl l s
  | cons a as ih => exact (h s a).trans (ih _)

end Measures

section
variable (l : Fin 8) (s : State)

theorem updLink_measures {g : Link → Link} (h : ∀ k : Link, k.Measured (g k)) : Measures l s (updLink l.val g s) := by
  refine ⟨updLink_linkFrame .., ?_⟩
  rw [updLink_self]
  exact h _

theorem queuePhase_measures : Measures l s (queuePhase l.val s) :=
  .trans (t := { s with fresh := s.fresh + 1 }) (.of_links ⟨rfl, .of_nv rfl⟩ rfl)
    (updLink_measures l _ fun _ => ⟨_, _, _, _, _, rfl⟩)

theorem noteDelay_measures (rt : Nat) : Measures l s (noteDelay l.val rt s) := by
  unfold noteDelay
  extract_lets k ds delayed
  have hdelayed : Measures l s delayed := updLink_measures l s fun _ => ⟨_, _, _, _, _, rfl⟩
  exact .ite (hdelayed.trans (queuePhase_measures ..)) hdelayed

theorem noteDelay_stored (rt : Nat) : (noteDelay l.val rt s).nv = s.nv ∧ (noteDelay l.val rt s).jr = s.jr := by
  unfold noteDelay queuePhase
  extract_lets
  split <;> exact ⟨rfl, rfl⟩

theorem storedFirst_measures : Measures l s (storedFirst s) :=
  .ite (.of_links (.of_event (writeParams_eq s) (writeParams_store s)) (writeParams_links s)) (.refl l s)

theorem channelUntested_measures (c : Nat) : Measures l s (channelUntested l.val c s) :=
  .ite (.refl l s) (.trans ((storedFirst_measures l s).trans (updLink_measures l _ fun _ => ⟨_, _, _, _, _, rfl⟩))
    (.of_links (raise_linkFrame ..) (raise_links ..)))

theorem judgeChannel_measures (c : Nat) (isOpen : Bool) : Measures l s (judgeChannel l.val c isOpen s) := by
  unfold judgeChannel
  extract_lets m judged
  have hjudged : Measures l s judged := .ite (channelUntested_measures ..) (.refl l s)
  exact .ite (.refl l s) (.ite (hjudged.trans (updLink_measures l _ fun _ => ⟨_, _, _, _, _, rfl⟩)) hjudged)

end

/-- Channel `c` was tested less than 720 h ago (R128). -/
def TestedOf (l : Fin 8) (s : State) (c : Nat) : Prop := (s.nv.live.chMinutes[6 * l.val + c]?).getD 0 < 43200

theorem judgeChannel_tested {l : Fin 8} {s : State} {c : Nat} (h : TestedOf l s c) (isOpen : Bool) :
    judgeChannel l.val c isOpen s = s := by
  unfold TestedOf at h
  unfold judgeChannel
  extract_lets m judged
  have hjudged : judged = s := if_neg (Nat.not_le.2 h)
  have hrefused : ¬ (86400 ≤ m ∧ isOpen = true) := fun hm => absurd hm.1 (by simp only [m]; omega)
  rw [if_neg hrefused, hjudged, ite_self]

/-! ### What every valid frame gives (Table 4-4) -/

/-- A link with what a valid frame gives. -/
def Link.heard (f : Frame) (k : Link) : Link :=
  { k with badRun := 0, levels := ulLevels f, seenClosed := k.seenClosed ||| (k.outNow &&& ~~~ulOutState f),
           outNow := ulOutState f, echoRun := if ulEcho f = k.echoLast then k.echoRun + 1 else 0, echoLast := ulEcho f }

theorem Link.Measured.heard {k k' : Link} (h : k.Measured k') (f : Frame) : (k.heard f).Measured (k'.heard f) := by
  obtain ⟨_, _, _, _, _, rfl⟩ := h
  exact ⟨_, _, _, _, _, rfl⟩

/-- A channel that shows open is judged once its standing has been re-established (R128). -/
def judgeOpen (l : Fin 8) (f : Frame) (s : State) (c : Nat) : State :=
  if showsOpen (getLink l.val s) c f && (getLink l.val s).judged then judgeChannel l.val c true s else s

theorem judgeOpen_measures (l : Fin 8) (f : Frame) (s : State) (c : Nat) : Measures l s (judgeOpen l f s c) :=
  .ite (judgeChannel_measures ..) (.refl l s)

theorem judgeOpens_tested {l : Fin 8} {f : Frame} {s : State} {cs : List Nat} (h : ∀ c ∈ cs, TestedOf l s c) :
    cs.foldl (judgeOpen l f) s = s := by
  induction cs with
  | nil => rfl
  | cons c cs ih =>
    have hc : judgeOpen l f s c = s := by
      unfold judgeOpen
      rw [judgeChannel_tested (h c List.mem_cons_self), ite_self]
    rw [List.foldl_cons, hc, ih fun d hd => h d (List.mem_cons_of_mem c hd)]

/-- What a valid frame leaves before its echo is judged. -/
def heardState (l : Fin 8) (f : Frame) (rt : Nat) (s : State) : State :=
  (List.range 6).foldl (judgeOpen l f) (updLink l.val (Link.heard f) (noteDelay l.val rt s))

theorem takeCommon_eq (l : Fin 8) (f : Frame) (rt : Nat) (s : State) :
    takeCommon l.val f (noteDelay l.val rt s) = judgeEcho l.val (heardState l f rt s) := rfl

/-- ECHO has advanced, or stands still for less than its 4 cycles (R94). -/
def EchoGoesOn (f : Frame) (k : Link) : Prop := ulEcho f ≠ k.echoLast ∨ k.echoRun < 3

theorem EchoGoesOn.heard_echoRun {f : Frame} {k : Link} (h : EchoGoesOn f k) : (k.heard f).echoRun < 4 := by
  unfold Link.heard
  dsimp only
  split
  next hsame => exact Nat.succ_lt_succ (h.resolve_left (not_not_intro hsame))
  · decide

/-- What a valid frame of a link that is not lost with it leaves. -/
structure TakesFrame (l : Fin 8) (f : Frame) (s t : State) : Prop where
  frame : LinkFrame s t
  link : (s.links[l.val].heard f).Measured t.links[l.val]
  stored : (∀ c : Fin 6, TestedOf l s c.val) → t.nv = s.nv ∧ t.jr = s.jr

theorem heardState_takes (l : Fin 8) (f : Frame) (rt : Nat) (s : State) : TakesFrame l f s (heardState l f rt s) := by
  have hdelay := noteDelay_measures l s rt
  have hstored := noteDelay_stored l s rt
  have hjudged := Measures.foldl (judgeOpen_measures l f) (List.range 6) (updLink l.val (Link.heard f) (noteDelay l.val rt s))
  refine ⟨(hdelay.frame.trans (updLink_linkFrame ..)).trans hjudged.frame, (hdelay.link.heard f).trans ?_, fun h => ?_⟩
  · have hlink := hjudged.link
    rw [updLink_self] at hlink
    exact hlink
  · have htested : ∀ c ∈ List.range 6, TestedOf l (updLink l.val (Link.heard f) (noteDelay l.val rt s)) c := fun c hc => by
      unfold TestedOf
      rw [updLink_nv, hstored.1]
      exact h ⟨c, List.mem_range.1 hc⟩
    rw [heardState, judgeOpens_tested htested]
    exact hstored

theorem takeCommon_takes {l : Fin 8} {f : Frame} {s : State} (h : EchoGoesOn f s.links[l.val] ∨ s.links[l.val].phase < 2)
    (rt : Nat) : TakesFrame l f s (takeCommon l.val f (noteDelay l.val rt s)) := by
  have hheard := heardState_takes l f rt s
  have hecho : judgeEcho l.val (heardState l f rt s) = heardState l f rt s := by
    obtain ⟨_, _, _, _, _, hk⟩ := hheard.link
    unfold judgeEcho
    rcases h with h | h
    · exact if_pos (by rw [getLink_fin, hk]; exact h.heard_echoRun)
    · rw [linkLost_none (.inr (by rw [hk]; exact h)), ite_self]
  rw [takeCommon_eq, hecho]
  exact hheard

/-- The link stays up with such a frame, and in its phase. -/
theorem TakesFrame.stays {l : Fin 8} {f : Frame} {s t : State} (h : TakesFrame l f s t) :
    t.links[l.val].held = s.links[l.val].held ∧ t.links[l.val].phase = s.links[l.val].phase := by
  obtain ⟨_, _, _, _, _, hk⟩ := h.link
  rw [hk]
  exact ⟨rfl, rfl⟩

/-! ### Invalid frames (R94) -/

section
variable {s : State} {l : Fin 8} {framing : Bool} {f : Frame} {rt : Nat}

/-- A link after an invalid frame. -/
def Link.bad (k : Link) : Link :=
  { k with ulErr := inc16 k.ulErr, badRun := k.badRun + 1, okRun := 0, identRun := 0, ulBad := k.ulBad ++ [k.cycles] }

/-- What an invalid frame leaves before the run of them is judged. -/
def badCounted (l : Fin 8) (s : State) : State := checkRate l.val (updLink l.val Link.bad s)

theorem badCounted_linkFrame (l : Fin 8) (s : State) : LinkFrame s (badCounted l s) :=
  (updLink_linkFrame ..).trans (checkRate_linkFrame ..)

theorem badCounted_link : (badCounted l s).links[l.val] = s.links[l.val].bad.rated := by
  simp only [badCounted, checkRate_links, updLink_self]

theorem badUplink_eq : badUplink l.val s =
    if 4 ≤ s.links[l.val].badRun + 1 then linkLost l.val 1 (badCounted l s) else badCounted l s := by
  have hrun : (getLink l.val (badCounted l s)).badRun = s.links[l.val].badRun + 1 := by
    rw [getLink_fin, badCounted_link]
    rfl
  rw [← hrun]
  rfl

theorem badUplink_counted (h : s.links[l.val].badRun < 3) : badUplink l.val s = badCounted l s :=
  badUplink_eq.trans (if_neg (by omega))

theorem badUplink_lost (h : 3 ≤ s.links[l.val].badRun) : badUplink l.val s = linkLost l.val 1 (badCounted l s) :=
  badUplink_eq.trans (if_pos (by omega))

theorem badUplink_lost_link (i : Idle s) (hheld : s.links[l.val].held = false) (hphase : 2 ≤ s.links[l.val].phase)
    (h : 3 ≤ s.links[l.val].badRun) : (badUplink l.val s).links[l.val] = s.links[l.val].bad.rated.lost := by
  have hcounted : Idle (badCounted l s) := (badCounted_linkFrame l s).idle i
  rw [badUplink_lost h, linkLost_link hcounted, badCounted_link]
  · rw [badCounted_link]; exact hheld
  · rw [badCounted_link]; exact hphase

/-! ### Which frames are valid (R77) -/

/-- A started link takes its frames. -/
theorem started_takes {k : Link} (hheld : k.held = false) (hphase : 1 ≤ k.phase) : ¬ (k.held || k.phase == 0) = true := by
  simp [hheld, Nat.ne_of_gt hphase]

theorem ulValid_when (p : Prop) [Decidable p] (types : List Nat) :
    ulValid framing (if p then types else []) f = (decide p && ulValid framing types f) := by
  by_cases h : p <;> simp [h, ulValid]

theorem uplinkIdent_invalid (hheld : s.links[l.val].held = false) (hphase : 1 ≤ s.links[l.val].phase)
    (h : ulValid framing [0] f = false) : uplinkIdent l framing f rt s = badUplink l.val s :=
  (if_neg (by rw [getLink_fin]; exact started_takes hheld hphase)).trans (if_pos (by rw [h]; rfl))

theorem uplinkDelta_invalid (hheld : s.links[l.val].held = false) (hphase : 1 ≤ s.links[l.val].phase)
    (h : (decide (s.links[l.val].phase = 6) && ulValid framing [1] f) = false) :
    uplinkDelta l framing f rt s = badUplink l.val s :=
  (if_neg (by rw [getLink_fin]; exact started_takes hheld hphase)).trans (if_pos (by rw [getLink_fin, ulValid_when, h]; rfl))

theorem uplinkRefresh_invalid (hheld : s.links[l.val].held = false) (hphase : 1 ≤ s.links[l.val].phase)
    (h : (decide (s.links[l.val].phase = 6) && ulValid framing [2] f) = false) :
    uplinkRefresh l framing f rt s = badUplink l.val s :=
  (if_neg (by rw [getLink_fin]; exact started_takes hheld hphase)).trans (if_pos (by rw [getLink_fin, ulValid_when, h]; rfl))

end

end Sys2Proof.Machine
end

section
/-! PROOFS. IDENT and DELTA frames (R83 to R88, R104): the phases that an IDENT frame takes its link through, and the edge records that a
DELTA frame journals. -/

namespace Sys2Proof.Machine

section
variable {s : State} {l : Fin 8} {framing : Bool} {f : Frame} {rt : Nat}

/-! ### IDENT frames (R87) -/

/-- A link with what an IDENT frame shows. -/
def Link.identSeen (f : Frame) (k : Link) : Link :=
  { k with rev := ulRev f, straps := ulStraps f, lastIdent := f,
           identRun := if sameIdent f k.lastIdent && decide (0 < k.identRun) then k.identRun + 1 else 1 }

/-- What an IDENT frame leaves before its phase is judged. -/
def identState (l : Fin 8) (f : Frame) (rt : Nat) (s : State) : State :=
  updLink l.val (Link.identSeen f) (takeCommon l.val f (noteDelay l.val rt s))

section
variable (h : TakesFrame l f s (takeCommon l.val f (noteDelay l.val rt s)))
include h

theorem identState_chains : (identState l f rt s).nv.chains = s.nv.chains := h.frame.chains

theorem identState_link : ((s.links[l.val].heard f).identSeen f).Measured (identState l f rt s).links[l.val] := by
  obtain ⟨_, _, _, _, _, hk⟩ := h.link
  rw [identState, updLink_self, hk]
  exact ⟨_, _, _, _, _, rfl⟩

/-- A frame that leaves its link up goes on to be judged. -/
theorem TakesFrame.not_held (hheld : s.links[l.val].held = false) :
    ¬ (getLink l.val (takeCommon l.val f (noteDelay l.val rt s))).held = true := by
  rw [getLink_fin, h.stays.1, hheld]
  exact Bool.false_ne_true

variable (hheld : s.links[l.val].held = false) (hv : ulValid framing [0] f = true)
include hheld hv

theorem uplinkIdent_first (hphase : s.links[l.val].phase = 1) : uplinkIdent l framing f rt s =
    updLink l.val (fun k => { k with phase := 2, identRun := 1 }) (identState l f rt s) := by
  unfold uplinkIdent
  rw [getLink_fin, if_neg (started_takes hheld (by omega)), if_neg (by simp [hv]), hphase]
  exact if_neg (h.not_held hheld)

theorem uplinkIdent_second (hphase : s.links[l.val].phase = 2) : uplinkIdent l framing f rt s =
    if 3 ≤ (getLink l.val (identState l f rt s)).identRun
      then updLink l.val (fun k => { k with phase := 3 }) (identState l f rt s) else identState l f rt s := by
  unfold uplinkIdent
  rw [getLink_fin, if_neg (started_takes hheld (by omega)), if_neg (by simp [hv]), hphase]
  exact if_neg (h.not_held hheld)

theorem uplinkIdent_third (hphase : s.links[l.val].phase = 3) :
    uplinkIdent l framing f rt s = linkCheck l.val (identState l f rt s) := by
  unfold uplinkIdent
  rw [getLink_fin, if_neg (started_takes hheld (by omega)), if_neg (by simp [hv]), hphase]
  exact if_neg (h.not_held hheld)

end

/-- The third identical IDENT frame ends phase 2. -/
theorem uplinkIdent_ends (h : TakesFrame l f s (takeCommon l.val f (noteDelay l.val rt s))) (hheld : s.links[l.val].held = false)
    (hv : ulValid framing [0] f = true) (hphase : s.links[l.val].phase = 2) (hrun : s.links[l.val].identRun = 2)
    (hsame : sameIdent f s.links[l.val].lastIdent = true) :
    uplinkIdent l framing f rt s = updLink l.val (fun k => { k with phase := 3 }) (identState l f rt s) := by
  have hthree : (getLink l.val (identState l f rt s)).identRun = 3 := by
    obtain ⟨_, _, _, _, _, hk⟩ := identState_link h
    rw [getLink_fin, hk]
    simp [Link.identSeen, Link.heard, hrun, hsame]
  rw [uplinkIdent_second h hheld hv hphase, hthree, if_pos (Nat.le_refl 3)]

/-! ### The check of phase 3 (R87) -/

theorem noteMismatch_links (code port : Nat) (s : State) : (noteMismatch code port s).links = s.links := by simp [noteMismatch]

theorem noteMismatch_chains (code port : Nat) (s : State) : (noteMismatch code port s).nv.chains = s.nv.chains :=
  (raise_store ..).chains

/-- A link whose straps are wrong is held in phase 3. -/
def StrapHeld (l : Fin 8) (s : State) : Prop := s.links[l.val].phase = 7 ∧ s.links[l.val].strapErr = true

theorem strapFault_held (h : s.links[l.val].straps.toNat ≠ l.val) :
    StrapHeld l (strapFault l.val s) ∧ (strapFault l.val s).nv.chains = s.nv.chains := by
  unfold strapFault
  rw [getLink_fin, if_neg h]
  refine ⟨?_, (raise_store ..).chains⟩
  simp only [StrapHeld, raise_links, updLink_self, and_self]

theorem revFault_keeps (h : StrapHeld l s) : StrapHeld l (revFault l.val s) ∧ (revFault l.val s).nv.chains = s.nv.chains := by
  unfold revFault
  extract_lets told
  have htold : StrapHeld l told ∧ told.nv.chains = s.nv.chains := by
    refine ⟨?_, ?_⟩
    · simp only [told, StrapHeld, raiseCause_links, raise_links, updLink_self, true_and]
      exact h.2
    · simp only [told, raiseCause_nv]
      exact (raise_store ..).chains
  split
  · exact ⟨h, rfl⟩
  · split
    · refine ⟨?_, (noteMismatch_chains ..).trans htold.2⟩
      unfold StrapHeld
      simp only [noteMismatch_links]
      exact htold.1
    · exact htold

theorem linkCheck_held (h : s.links[l.val].straps.toNat ≠ l.val) :
    StrapHeld l (linkCheck l.val s) ∧ (linkCheck l.val s).nv.chains = s.nv.chains := by
  unfold linkCheck
  extract_lets rev pass checked
  have hpass : ¬ pass = true := by simp [pass, getLink_fin, h]
  have hstrap := strapFault_held (l := l) (s := { s with fu := { s.fu with revs := updVec s.fu.revs l.val (fun _ => rev) } }) h
  have hrev := revFault_keeps hstrap.1
  rw [if_pos (by simpa using hpass)]
  exact ⟨hrev.1, hrev.2.trans hstrap.2⟩

/-! ### Edge records (R85, R104) -/

theorem updRestarts_eq (which : Nat → Nat → Bool) (g : BlockSt → BlockSt) (s : State) :
    updRestarts which g s = { s with en := (updRestarts which g s).en } := by
  unfold updRestarts
  split <;> rfl

theorem updRestarts_links (which : Nat → Nat → Bool) (g : BlockSt → BlockSt) (s : State) :
    (updRestarts which g s).links = s.links := by rw [updRestarts_eq]

/-- The event of an edge record. -/
def edgeEvent (l : Fin 8) (f : Frame) (s : State) (r : Word) : QEvent :=
  { eventOf (16 * l.val + r.toNat % 16) (if r.getLsbD 5 then 2 else 1) .info
      (argOf [(0, if r.getLsbD 5 then 0 else (r >>> 14).toNat % 131072), (4, (r.getLsbD 4).toNat), (5, (r.getLsbD 5).toNat)]) s with
    time := edgeTime s.links[l.val] f r s }

/-- Journalling an edge record changes the engine's blocks alone, beside what the event reaches. -/
theorem takeEdge_eq (l : Nat) (f : Frame) (r : Word) (s : State) : takeEdge l f r s =
    { s with en := (takeEdge l f r s).en, nv := (takeEdge l f r s).nv, jr := (takeEdge l f r s).jr, hb := (takeEdge l f r s).hb } := by
  unfold takeEdge
  extract_lets _ _ _ _ told
  have htold : told = { s with nv := told.nv, jr := told.jr, hb := told.hb } := raiseAt_eq ..
  clear_value told
  split
  · rw [htold]
  · rw [noteRelease, updRestarts_eq, htold]

theorem takeEdge_chains (l : Nat) (f : Frame) (r : Word) (s : State) : (takeEdge l f r s).nv.chains = s.nv.chains := by
  unfold takeEdge
  extract_lets _ _ _ _ told
  have htold : told.nv.chains = s.nv.chains := ((commitGap_store s).trans (enqueue_store ..)).chains
  split
  · exact htold
  · rw [noteRelease, updRestarts_eq]
    exact htold

theorem takeEdges_keep (l : Nat) (f : Frame) (rs : List Word) (s : State) :
    (rs.foldl (fun s r => takeEdge l f r s) s).links = s.links
      ∧ (rs.foldl (fun s r => takeEdge l f r s) s).nv.chains = s.nv.chains := by
  induction rs generalizing s with
  | nil => exact ⟨rfl, rfl⟩
  | cons r rs ih =>
    obtain ⟨hlinks, hchains⟩ := ih (takeEdge l f r s)
    exact ⟨hlinks.trans (by rw [takeEdge_eq]), hchains.trans (takeEdge_chains ..)⟩

/-- An event of an enabled source enters an open journal with the time it is given, and changes nothing else. -/
theorem raiseAt_open (time : DWord) (src : Nat) (code : Half) (c : Cls) (arg : DWord) (ho : JournalOpen s)
    (he : evEnabled s src = true) : raiseAt time src code c arg s =
      { s with jr := { s.jr with queue := s.jr.queue ++ [{ eventOf src code c arg s with time := time }] } } := by
  have hdrop : dropsEvent src c s = false := by simp [dropsEvent, he]
  obtain ⟨hgap, hfull, hslot⟩ := ho
  have hmeets : meetsGap s = false := by simp [meetsGap, hgap, hfull, hslot]
  unfold raiseAt enqueue queueEvent
  rw [commitGap_inactive s hgap, hdrop, hmeets]
  rfl

theorem takeEdge_open {r : Word} (ho : JournalOpen s) (he : evEnabled s (16 * l.val + r.toNat % 16) = true) :
    takeEdge l.val f r s = { s with
      en := (takeEdge l.val f r s).en, jr := { s.jr with queue := s.jr.queue ++ [edgeEvent l f s r] } } := by
  unfold takeEdge
  extract_lets _ _ _ _ told
  have htold : told = { s with jr := { s.jr with queue := s.jr.queue ++ [edgeEvent l f s r] } } := by
    simp only [told]
    rw [raiseAt_open _ _ _ _ _ ho he, getLink_fin]
    rfl
  rw [htold]
  split
  · rfl
  · rw [noteRelease, updRestarts_eq]

/-- The records of a frame are journalled in their order while the journal takes them all. -/
theorem takeEdges_gain {rs : List Word} (hgap : s.nv.live.gap.active = false) (hslot : noSlot s = false)
    (hroom : s.jr.queue.length + rs.length ≤ 64) (he : ∀ r ∈ rs, evEnabled s (16 * l.val + r.toNat % 16) = true) :
    Gained (rs.map (edgeEvent l f s)) s (rs.foldl (fun s r => takeEdge l.val f r s) s) := by
  induction rs generalizing s with
  | nil => exact (List.append_nil _).symm
  | cons r rs ih =>
    rw [List.length_cons] at hroom
    have ho : JournalOpen s := ⟨hgap, decide_eq_false (by omega), hslot⟩
    have hedge := takeEdge_open (f := f) ho (he r List.mem_cons_self)
    rw [List.foldl_cons]
    generalize takeEdge l.val f r s = t at hedge ⊢
    have hqueue : t.jr.queue = s.jr.queue ++ [edgeEvent l f s r] := by rw [hedge]
    have hevents : edgeEvent l f t = edgeEvent l f s := by rw [hedge]; rfl
    have hgain : Gained (rs.map (edgeEvent l f t)) t (rs.foldl (fun s r => takeEdge l.val f r s) t) := by
      refine ih ?_ ?_ ?_ fun q hq => ?_
      · rw [hedge]; exact hgap
      · rw [hedge]; exact hslot
      · rw [hqueue, List.length_append, List.length_singleton]; omega
      · rw [hedge]; exact he q (List.mem_cons_of_mem r hq)
    unfold Gained at hgain ⊢
    rw [hgain, hqueue, hevents, List.map_cons, List.append_assoc]
    rfl

/-! ### DELTA frames (R83, R85) -/

theorem takeSeqFault_none (h : ulSeqFault f = false) (s : State) : takeSeqFault l.val f s = s := if_neg (by simp [h])

theorem uplinkDelta_valid (h : TakesFrame l f s (takeCommon l.val f (noteDelay l.val rt s))) (hheld : s.links[l.val].held = false)
    (hphase : s.links[l.val].phase = 6) (hv : ulValid framing [1] f = true) (hseq : ulSeqFault f = false) :
    uplinkDelta l framing f rt s =
      (ulRecords f).foldl (fun s r => takeEdge l.val f r s) (takeCommon l.val f (noteDelay l.val rt s)) := by
  unfold uplinkDelta
  rw [getLink_fin, if_neg (started_takes hheld (by omega)), if_pos hphase, if_neg (by simp [hv])]
  refine (if_neg (h.not_held hheld)).trans ?_
  rw [takeSeqFault_none hseq]

/-- A DELTA frame of a link that is up leaves what every valid frame gives, and its records in the journal. -/
theorem uplinkDelta_gains (h : TakesFrame l f s (takeCommon l.val f (noteDelay l.val rt s))) (hheld : s.links[l.val].held = false)
    (hphase : s.links[l.val].phase = 6) (hv : ulValid framing [1] f = true) (hseq : ulSeqFault f = false)
    (hgap : s.nv.live.gap.active = false) (hslot : noSlot s = false) (hroom : s.jr.queue.length + (ulRecords f).length ≤ 64)
    (htested : ∀ c : Fin 6, TestedOf l s c.val) (he : ∀ r ∈ ulRecords f, evEnabled s (16 * l.val + r.toNat % 16) = true) :
    Gained ((ulRecords f).map (edgeEvent l f s)) s (uplinkDelta l framing f rt s) := by
  rw [uplinkDelta_valid h hheld hphase hv hseq]
  generalize takeCommon l.val f (noteDelay l.val rt s) = t at h ⊢
  obtain ⟨hnv, hjr⟩ := h.stored htested
  have hevents : edgeEvent l f t = edgeEvent l f s := by
    obtain ⟨_, _, _, _, _, hk⟩ := h.link
    funext r
    unfold edgeEvent edgeTime
    rw [eventOf_congr h.frame.tb h.frame.set, hk, h.frame.tb, h.frame.clock]
    rfl
  have hgain := takeEdges_gain (l := l) (f := f) (s := t) (rs := ulRecords f) (by rw [hnv]; exact hgap)
    (by unfold noSlot journalFull jrUnack nextSlotHeld; rw [hnv]; exact hslot) (by rw [hjr]; exact hroom)
    (fun r hr => by unfold evEnabled; rw [h.frame.set]; exact he r hr)
  unfold Gained at hgain ⊢
  rw [hgain, hjr, hevents]

end

end Sys2Proof.Machine
end

section
/-! PROOFS. REFRESH frames (R120, R143) and what uplink frames make of their link: supplies and states as the frame shows them, and its
diagnostic with the latches it sets. -/

namespace Sys2Proof.Machine

section
variable {s : State} {l : Fin 8} {framing : Bool} {f : Frame} {rt : Nat}

/-! ### What a REFRESH shows (R143) -/

/-- The invalid downlink frames that the link knows of with a REFRESH (R96). -/
def Link.dlBadWith (f : Frame) (k : Link) : List Nat := k.dlBad ++ List.replicate (ulDlErr f - k.dlLast).toNat k.cycles

/-- A link with what a REFRESH shows, and its channel latches as that leaves them. -/
def Link.refreshed (f : Frame) (latches : Vector Byte 6) (k : Link) : Link :=
  { k with
    settling := ulSettling f, refLevels := ulLevels f, supply := ulSupply f, outState := ulOutState f, uf1V := ulUf1 f,
    uf2V := ulUf2 f, temp := ulTemp f, loadI := ulLoad f, dlLast := ulDlErr f,
    dlErr := BitVec.ofNat 16 (satNat 65535 (k.dlErr.toNat + (ulDlErr f - k.dlLast).toNat)),
    dlBad := k.dlBadWith f, chLatches := latches }

theorem takeRefresh_link : ∃ latches, (takeRefresh l.val f s).links[l.val] = s.links[l.val].refreshed f latches :=
  ⟨_, updLink_self ..⟩

/-- The link shows what a REFRESH gives; nothing is raised while no count rises to its limit. -/
structure ShowsRefresh (l : Fin 8) (f : Frame) (s t : State) : Prop where
  frame : LinkFrame s t
  link : ∃ k latches, (s.links[l.val].heard f).Measured k ∧ t.links[l.val] = (k.refreshed f latches).rated
  stored : (∀ c : Fin 6, TestedOf l s c.val) → RateQuiet s.links[l.val].ulOver s.links[l.val].cycles s.links[l.val].ulBad →
    RateQuiet s.links[l.val].dlOver s.links[l.val].cycles (s.links[l.val].dlBadWith f) → t.nv = s.nv ∧ t.jr = s.jr

theorem TakesFrame.showsRefresh {t : State} (h : TakesFrame l f s t) :
    ShowsRefresh l f s (checkRate l.val (takeRefresh l.val f t)) := by
  obtain ⟨latches, hshown⟩ := takeRefresh_link (l := l) (f := f) (s := t)
  refine ⟨(h.frame.trans (updLink_linkFrame ..)).trans (checkRate_linkFrame ..), ⟨_, latches, h.link, ?_⟩,
    fun htested hul hdl => ?_⟩
  · simp only [checkRate_links, updLink_self, hshown]
  · obtain ⟨_, _, _, _, _, hk⟩ := h.link
    rw [hk] at hshown
    rw [checkRate_quiet hshown hul hdl]
    exact h.stored htested

/-- What a REFRESH leaves before its diagnostic is taken. -/
def refreshState (l : Fin 8) (f : Frame) (rt : Nat) (s : State) : State :=
  checkRate l.val (takeRefresh l.val f (takeCommon l.val f (noteDelay l.val rt s)))

theorem uplinkRefresh_valid (h : TakesFrame l f s (takeCommon l.val f (noteDelay l.val rt s))) (hheld : s.links[l.val].held = false)
    (hphase : s.links[l.val].phase = 6) (hv : ulValid framing [2] f = true) (hseq : ulSeqFault f = false) :
    uplinkRefresh l framing f rt s =
      endOutputTest l.val f (showLatched l.val (takeDiag l.val (ulDiagCode f) (ulDiagArg f) (refreshState l f rt s))) := by
  unfold uplinkRefresh
  rw [getLink_fin, if_neg (started_takes hheld (by omega)), if_pos hphase, if_neg (by simp [hv])]
  refine (if_neg (h.not_held hheld)).trans ?_
  rw [takeSeqFault_none hseq]
  rfl

/-! ### OUTPUT_TEST_NOW at its end (R319) -/

theorem finishOutputTest_keeps {p : Fin 8} {mask passed failed : BitVec 6} {start : Nat} (hc : s.nv.chains = [])
    (hrun : s.cm.running = some (.outputTest p mask passed failed start)) :
    (finishOutputTest s).links = (updLink p.val (fun k => { k with testing := 0 }) s).links ∧ (finishOutputTest s).nv.chains = [] := by
  unfold finishOutputTest
  rw [hrun]
  dsimp only
  have hupd : (updLink p.val (fun k => { k with testing := 0 }) s).nv.chains = [] := hc
  generalize updLink p.val (fun k => { k with testing := 0 }) s = u at hupd ⊢
  rw [finishRunning_links, finishRunning_nv hupd]
  exact ⟨rfl, hupd⟩

/-- The end of a test changes of a link only which channels are tested. -/
theorem endOutputTest_keeps (hc : s.nv.chains = []) :
    (∃ m, (endOutputTest l.val f s).links[l.val] = { s.links[l.val] with testing := m })
      ∧ (endOutputTest l.val f s).nv.chains = [] := by
  have hsame : (∃ m, s.links[l.val] = { s.links[l.val] with testing := m }) ∧ s.nv.chains = [] := ⟨⟨_, rfl⟩, hc⟩
  unfold endOutputTest
  split
  next p mask passed failed start hrun =>
    split
    next hends =>
      obtain rfl : p = l := Fin.ext hends.1
      obtain ⟨hlinks, hchains⟩ := finishOutputTest_keeps hc hrun
      refine ⟨⟨0, ?_⟩, hchains⟩
      simp only [hlinks, updLink_self]
    · exact hsame
  · exact hsame

/-! ### Diagnostics (R120, R318) -/

/-- A diagnostic kept among the last 32 of its link (R318). -/
def noteDiag (l : Fin 8) (code arg : Half) (s : State) : State :=
  updLink l.val (fun k => { k with diags := ((code, arg, s.tb.counter.setWidth 32) :: k.diags).take 32 }) s

/-- A diagnostic kept and told as a warning of source `src`, with its argument. -/
def diagTold (l : Fin 8) (code arg : Half) (src : Nat) (s : State) : State :=
  raiseCause 7 (raise src code .warning (argOf [(0, arg.toNat)]) (noteDiag l code arg s))

theorem diagTold_links (code arg : Half) (src : Nat) : (diagTold l code arg src s).links = (noteDiag l code arg s).links := by
  simp only [diagTold, raiseCause_links, raise_links]

theorem diagTold_gains (ho : JournalOpen s) (code arg : Half) (src : Nat) :
    Gained [eventOf src code .warning (argOf [(0, arg.toNat)]) s] s (diagTold l code arg src s) := by
  have hopen : JournalOpen (noteDiag l code arg s) := ho
  unfold Gained diagTold
  rw [raiseCause_jr, raise_open _ _ .warning _ _ hopen (.inl (Nat.le_refl 2))]
  rfl

theorem takeDiag_eq {code : Half} (h : code ≠ 0) (arg : Half) :
    takeDiag l.val code arg s = diagEffect l.val code arg (raiseDiag l.val code arg (noteDiag l code arg s)) := if_neg h

/-- DIAG code 0x0101: a fault of an input, whose latch it sets. -/
theorem takeDiag_input (arg : Half) : takeDiag l.val 0x0101 arg s = noteUncleanInput l.val (arg.toNat % 16)
    (setInLatch l.val (arg.toNat % 16) true (diagTold l 0x0101 arg (16 * l.val + arg.toNat % 16) s)) := by
  have heffect (u : State) : diagEffect l.val 0x0101 arg u =
      noteUncleanInput l.val (arg.toNat % 16) (setInLatch l.val (arg.toNat % 16) true u) := rfl
  rw [takeDiag_eq (by decide), heffect]
  rfl

/-- DIAG code 0x0204: an overcurrent of a channel, whose latch it sets. -/
theorem takeDiag_overcurrent (arg : Half) : takeDiag l.val 0x0204 arg s = setChLatch l.val (arg.toNat % 8) 2
    (diagTold l 0x0204 arg (chanSource l.val (arg.toNat % 8)) s) := by
  have heffect (u : State) : diagEffect l.val 0x0204 arg u = setChLatch l.val (arg.toNat % 8) 2 u := rfl
  rw [takeDiag_eq (by decide), heffect]
  rfl

/-- DIAG code 0x0403: of the port, without a latch. -/
theorem takeDiag_port (arg : Half) : takeDiag l.val 0x0403 arg s = diagTold l 0x0403 arg (176 + l.val) s := rfl

/-! ### Latches shown (R143) -/

theorem noteUncleanInput_links (p i : Nat) (s : State) : (noteUncleanInput p i s).links = s.links := updRestarts_links ..

theorem noteUncleanInput_jr (p i : Nat) (s : State) : (noteUncleanInput p i s).jr = s.jr := by
  rw [noteUncleanInput, updRestarts_eq]

theorem setInLatch_sets (s : State) {i : Nat} (hi : i < 16) :
    (setInLatch l.val i true s).links[l.val].inLatched.getLsbD i = true := by
  rw [setInLatch, updLink_self]
  simp [hi]

/-- The mask of six flags. -/
theorem maskOf_getLsbD (b : Fin 6 → Bool) (c : Fin 6) :
    (BitVec.ofNat 6 ((List.finRange 6).map (fun i => (b i).toNat * 2 ^ i.val)).sum).getLsbD c.val = b c := by
  revert b c
  decide

theorem latchedMask_getLsbD (v : Vector Byte 6) (c : Fin 6) : (latchedMask v).getLsbD c.val = (v[c.val] != 0) := by
  have h := maskOf_getLsbD (fun i => v[i.val] != 0) c
  unfold latchedMask
  rw [← List.map_coe_finRange_eq_range, List.map_map, ← h]
  congr 4
  funext i
  simp

theorem setChLatch_shown (s : State) (c : Fin 6) (bit : Fin 8) :
    (showLatched l.val (setChLatch l.val c.val bit.val s)).links[l.val].latched.getLsbD c.val = true := by
  have hset (b : Byte) : b ||| ((1 : Byte) <<< bit.val) ≠ 0 := fun h => by simpa using congrArg (BitVec.getLsbD · bit.val) h
  rw [showLatched, updLink_self, setChLatch, updLink_self]
  show (latchedMask _).getLsbD c.val = true
  rw [latchedMask_getLsbD, getElem_updVec _ _ _ c.isLt, if_pos rfl]
  exact bne_iff_ne.2 (hset _)

/-! ### A REFRESH with a diagnostic, while no command runs -/

/-- A diagnostic is kept and journalled, where the frame raises nothing else. -/
def Reported (l : Fin 8) (f : Frame) (code : Half) (src : Nat) (s t : State) : Prop :=
  t.links[l.val].diags = ((code, ulDiagArg f, s.tb.counter.setWidth 32) :: s.links[l.val].diags).take 32
    ∧ (JournalOpen s → (∀ c : Fin 6, TestedOf l s c.val) →
      RateQuiet s.links[l.val].ulOver s.links[l.val].cycles s.links[l.val].ulBad →
      RateQuiet s.links[l.val].dlOver s.links[l.val].cycles (s.links[l.val].dlBadWith f) →
      Gained [eventOf src code .warning (argOf [(0, (ulDiagArg f).toNat)]) s] s t)

theorem ShowsRefresh.reported {u t : State} (h : ShowsRefresh l f s u) {code : Half} {src : Nat}
    (hdiags : t.links[l.val].diags = (diagTold l code (ulDiagArg f) src u).links[l.val].diags)
    (hjr : t.jr = (diagTold l code (ulDiagArg f) src u).jr) : Reported l f code src s t := by
  refine ⟨?_, fun ho htested hul hdl => ?_⟩
  · obtain ⟨_, _, ⟨_, _, _, _, _, rfl⟩, hk⟩ := h.link
    rw [hdiags]
    simp only [diagTold_links, noteDiag, updLink_self]
    rw [hk, h.frame.tb]
    rfl
  · obtain ⟨hnv, hujr⟩ := h.stored htested hul hdl
    have hopen : JournalOpen u := by
      unfold JournalOpen queueFull noSlot journalFull jrUnack nextSlotHeld
      rw [hnv, hujr]
      exact ho
    have hgain := diagTold_gains (l := l) hopen code (ulDiagArg f) src
    unfold Gained at hgain ⊢
    rw [hjr, hgain, hujr, eventOf_congr h.frame.tb h.frame.set]

/-- A REFRESH of a link that is up, while no command runs, ends in what its diagnostic makes of the state. -/
theorem runs_refresh_diag {P : State → Prop} (i : Idle s) (hheld : s.links[l.val].held = false) (hphase : s.links[l.val].phase = 6)
    (hv : ulValid framing [2] f = true) (hecho : ulEcho f ≠ s.links[l.val].echoLast) (hseq : ulSeqFault f = false)
    (h : ∀ u, ShowsRefresh l f s u → P (showLatched l.val (takeDiag l.val (ulDiagCode f) (ulDiagArg f) u))) :
    Runs (.uplinkRefresh l framing f rt) s P := by
  have htaken := takeCommon_takes (.inl (.inl hecho)) rt
  have hshows : ShowsRefresh l f s (refreshState l f rt s) := htaken.showsRefresh
  have hidle : Idle (showLatched l.val (takeDiag l.val (ulDiagCode f) (ulDiagArg f) (refreshState l f rt s))) :=
    ((takeDiag_step ..).parts.result (hshows.frame.idle i)).1
  have hnone : ∀ {t : State}, Idle t → endOutputTest l.val f t = t := fun ht => by unfold endOutputTest; rw [ht.2]
  have heq := (uplinkRefresh_valid htaken hheld hphase hv hseq).trans (hnone hidle)
  exact runs_settled (next_settle heq) hidle.1 (h _ hshows)

end

end Sys2Proof.Machine
end

section
/-! PROOFS. Uplink frames (R77, R83, R85, R87, R94, R120): each clause from what its frame makes of the link. -/

namespace Sys2Proof.Machine

section
variable {s : State} {l : Fin 8} {framing : Bool} {f : Frame} {rt : Nat}

theorem runs_uplinkIdent_first (hc : s.nv.chains = []) (hheld : s.links[l.val].held = false) (hphase : s.links[l.val].phase = 1)
    (hv : ulValid framing [0] f = true) : Runs (.uplinkIdent l framing f rt) s (fun t =>
      t.links[l.val].phase = 2 ∧ t.links[l.val].rev = ulRev f ∧ t.links[l.val].straps = ulStraps f ∧ t.links[l.val].badRun = 0) := by
  have htaken := takeCommon_takes (f := f) (s := s) (l := l) (.inr (by omega)) rt
  obtain ⟨_, _, _, _, _, hk⟩ := identState_link htaken
  refine runs_settled (next_settle (uplinkIdent_first htaken hheld hv hphase))
    ((identState_chains htaken).trans hc) ?_
  simp only [updLink_self, hk, Link.identSeen, Link.heard, and_self]

theorem runs_uplinkIdent_ends (hc : s.nv.chains = []) (hheld : s.links[l.val].held = false) (hphase : s.links[l.val].phase = 2)
    (hv : ulValid framing [0] f = true) (hecho : EchoGoesOn f s.links[l.val]) (hrun : s.links[l.val].identRun = 2)
    (hsame : sameIdent f s.links[l.val].lastIdent = true) : Runs (.uplinkIdent l framing f rt) s (fun t =>
      t.links[l.val].phase = 3 ∧ t.links[l.val].straps = ulStraps f) := by
  have htaken := takeCommon_takes (.inl hecho) rt
  obtain ⟨_, _, _, _, _, hk⟩ := identState_link htaken
  refine runs_settled (next_settle (uplinkIdent_ends htaken hheld hv hphase hrun hsame))
    ((identState_chains htaken).trans hc) ?_
  simp only [updLink_self, hk, Link.identSeen, and_self]

theorem runs_uplinkIdent_held (hc : s.nv.chains = []) (hheld : s.links[l.val].held = false) (hphase : s.links[l.val].phase = 3)
    (hv : ulValid framing [0] f = true) (hecho : EchoGoesOn f s.links[l.val]) (hstraps : (ulStraps f).toNat ≠ l.val) :
    Runs (.uplinkIdent l framing f rt) s (StrapHeld l) := by
  have htaken := takeCommon_takes (.inl hecho) rt
  obtain ⟨_, _, _, _, _, hk⟩ := identState_link htaken
  obtain ⟨hstrap, hchains⟩ := linkCheck_held (l := l) (s := identState l f rt s) (by rw [hk]; exact hstraps)
  exact runs_settled (next_settle (uplinkIdent_third htaken hheld hv hphase))
    (hchains.trans ((identState_chains htaken).trans hc)) hstrap

theorem runs_uplinkDelta_valid (hc : s.nv.chains = []) (hheld : s.links[l.val].held = false) (hphase : s.links[l.val].phase = 6)
    (hv : ulValid framing [1] f = true) (hecho : ulEcho f ≠ s.links[l.val].echoLast) (hseq : ulSeqFault f = false) :
    Runs (.uplinkDelta l framing f rt) s (fun t => t.links[l.val].phase = 6 ∧ t.links[l.val].levels = ulLevels f
      ∧ t.links[l.val].outNow = ulOutState f ∧ t.links[l.val].badRun = 0 ∧ t.links[l.val].echoRun = 0
      ∧ (s.nv.live.gap.active = false → noSlot s = false → s.jr.queue.length + (ulRecords f).length ≤ 64 →
        (∀ c : Fin 6, TestedOf l s c.val) → (∀ r ∈ ulRecords f, evEnabled s (16 * l.val + r.toNat % 16) = true) →
        Gained ((ulRecords f).map (edgeEvent l f s)) s t)) := by
  have htaken := takeCommon_takes (.inl (.inl hecho)) rt
  have heq := uplinkDelta_valid htaken hheld hphase hv hseq
  obtain ⟨hlinks, hchains⟩ := takeEdges_keep l.val f (ulRecords f) (takeCommon l.val f (noteDelay l.val rt s))
  obtain ⟨_, _, _, _, _, hk⟩ := htaken.link
  refine runs_settled rfl (by rw [heq, hchains, htaken.frame.chains, hc]) ⟨?_, ?_, ?_, ?_, ?_,
    fun hgap hslot hroom htested he => uplinkDelta_gains htaken hheld hphase hv hseq hgap hslot hroom htested he⟩
  all_goals simp only [heq, hlinks, hk, Link.heard, hphase, if_neg hecho]

theorem runs_uplinkRefresh_plain (hc : s.nv.chains = []) (hheld : s.links[l.val].held = false) (hphase : s.links[l.val].phase = 6)
    (hv : ulValid framing [2] f = true) (hecho : ulEcho f ≠ s.links[l.val].echoLast) (hseq : ulSeqFault f = false)
    (hdiag : ulDiagCode f = 0) : Runs (.uplinkRefresh l framing f rt) s (fun t => t.links[l.val].phase = 6
      ∧ t.links[l.val].levels = ulLevels f ∧ t.links[l.val].outState = ulOutState f ∧ t.links[l.val].supply = ulSupply f
      ∧ t.links[l.val].uf1V = ulUf1 f ∧ t.links[l.val].uf2V = ulUf2 f ∧ t.links[l.val].temp = ulTemp f
      ∧ t.links[l.val].loadI = ulLoad f) := by
  have htaken := takeCommon_takes (.inl (.inl hecho)) rt
  have hshows : ShowsRefresh l f s (refreshState l f rt s) := htaken.showsRefresh
  have hnone : takeDiag l.val (ulDiagCode f) (ulDiagArg f) (refreshState l f rt s) = refreshState l f rt s := if_pos hdiag
  have heq := (uplinkRefresh_valid htaken hheld hphase hv hseq).trans (by rw [hnone])
  obtain ⟨⟨_, hlink⟩, hchains⟩ := endOutputTest_keeps (l := l) (f := f) (s := showLatched l.val (refreshState l f rt s))
    (hshows.frame.chains.trans hc)
  obtain ⟨_, _, ⟨_, _, _, _, _, rfl⟩, hk⟩ := hshows.link
  rw [showLatched, updLink_self, hk] at hlink
  refine runs_settled (next_settle heq) hchains ?_
  rw [showLatched, hlink]
  exact ⟨hphase, rfl, rfl, rfl, rfl, rfl, rfl, rfl⟩

/-! ### Invalid frames -/

/-- An invalid frame is counted, and the fourth in a row loses the link. -/
theorem runs_bad {i : Instr} (hi : exec i s = .next (settle (badUplink l.val s))) (hc : s.nv.chains = [])
    (hheld : s.links[l.val].held = false) :
    (s.links[l.val].badRun < 3 → Runs i s (fun t => t.links[l.val].phase = s.links[l.val].phase
      ∧ t.links[l.val].badRun = s.links[l.val].badRun + 1 ∧ t.links[l.val].ulErr = inc16 s.links[l.val].ulErr
      ∧ t.links[l.val].levels = s.links[l.val].levels))
    ∧ (3 ≤ s.links[l.val].badRun → 2 ≤ s.links[l.val].phase → s.cm.running = none → Runs i s (fun t =>
      t.links[l.val].phase = 1 ∧ t.links[l.val].held = true ∧ t.links[l.val].ulErr = inc16 s.links[l.val].ulErr
      ∧ t.links[l.val].levels = 0)) := by
  refine ⟨fun h => ?_, fun h hphase hrun => ?_⟩
  · rw [badUplink_counted h] at hi
    refine runs_settled hi ((badCounted_linkFrame l s).chains.trans hc) ?_
    rw [badCounted_link]
    exact ⟨rfl, rfl, rfl, rfl⟩
  · have hidle : Idle s := ⟨hc, hrun⟩
    refine runs_settled hi ((badUplink_within ..).result hidle).1.1 ?_
    rw [badUplink_lost_link hidle hheld hphase h]
    exact ⟨Link.lost_phase hphase, rfl, Link.lost_ulErr _, rfl⟩

end

/-- Settles O47: a valid frame leaves what it gives and what its phase makes of it, and an invalid one is counted until the fourth. -/
theorem uplinks : Obligations.Uplinks := by
  intro s l framing f rt hc hheld k advances src edge
  refine ⟨fun hphase hv => runs_uplinkIdent_first hc hheld hphase hv,
    fun hphase hv hecho hrun hsame => runs_uplinkIdent_ends hc hheld hphase hv hecho hrun hsame,
    fun hphase hv hecho hstraps => runs_uplinkIdent_held hc hheld hphase hv hecho hstraps,
    fun hphase hv hecho hseq => runs_uplinkDelta_valid hc hheld hphase hv hecho hseq,
    fun hphase hv hecho hseq hdiag => runs_uplinkRefresh_plain hc hheld hphase hv hecho hseq hdiag,
    fun hphase hv hecho hseq hrun => ?_, ?_⟩
  · have hdiag {P : State → Prop} := runs_refresh_diag (rt := rt) (P := P) ⟨hc, hrun⟩ hheld hphase hv hecho hseq
    refine ⟨fun hcode => hdiag fun u hu => ?_, fun hcode hchan => hdiag fun u hu => ?_, fun hcode => hdiag fun u hu => ?_⟩
    · rw [hcode, takeDiag_input]
      refine ⟨hu.reported ?_ (noteUncleanInput_jr ..), ?_⟩
      · simp only [showLatched, updLink_self, noteUncleanInput_links, setInLatch]
      · simp only [showLatched, updLink_self, noteUncleanInput_links]
        exact setInLatch_sets _ (Nat.mod_lt _ (by decide))
    · rw [hcode, takeDiag_overcurrent]
      refine ⟨hu.reported ?_ rfl, setChLatch_shown _ ⟨_, hchan⟩ 2⟩
      simp only [showLatched, setChLatch, updLink_self]
    · rw [hcode, takeDiag_port]
      refine hu.reported ?_ rfl
      simp only [showLatched, updLink_self]
  · simp only [List.forall_mem_cons, List.not_mem_nil, IsEmpty.forall_iff, implies_true, and_true]
    exact ⟨fun h hphase => runs_bad (next_settle (uplinkIdent_invalid hheld hphase h)) hc hheld,
      fun h hphase => runs_bad (next_settle (uplinkDelta_invalid hheld hphase h)) hc hheld,
      fun h hphase => runs_bad (next_settle (uplinkRefresh_invalid hheld hphase h)) hc hheld⟩

end Sys2Proof.Machine
end

section
/-! PROOFS. OUTPUT_TEST_NOW and LEARN_PULSES as they execute in order (R118, R127, R319, R320): what each refuses, and the run-time
words that it queues. -/

namespace Sys2Proof.Machine

/-! ### What the two commands judge -/

/-- The device's state, the links, the clock and what the ports' parameter words are made of are as they were. -/
structure PortsJudged (s t : State) : Prop where
  dev : t.dev = s.dev
  links : t.links = s.links
  clock : t.clock = s.clock
  en : t.en = s.en
  decay : t.nv.live.decay = s.nv.live.decay

theorem seqStart_portsJudged {csn : Word} {s : State} (hi : InOrder csn s) (p : Packet) : PortsJudged s (seqStart p s) := by
  have hframe : seqStart p s = _ := seqStart_hostFrame p hi.2.2.2
  exact ⟨by rw [hframe], by rw [hframe], by rw [hframe], by rw [hframe], by rw [(seqStart_store p hi.2.2.2).1]⟩

/-- The words of a port follow the image and the learned decays alone. -/
theorem portImage_of_en_decay {s t : State} (hen : t.en = s.en) (hdecay : t.nv.live.decay = s.nv.live.decay) (p : Nat) :
    portImage p t = portImage p s := by
  unfold portImage
  rw [hen, hdecay]

theorem learnInputs_of_en_decay {s t : State} (hen : t.en = s.en) (hdecay : t.nv.live.decay = s.nv.live.decay) (p : Nat) (sources : Byte) :
    learnInputs p sources t = learnInputs p sources s := by
  unfold learnInputs inputSrc inputUsed
  simp only [portImage_of_en_decay hen hdecay]

namespace PortsJudged

variable {s t : State} (h : PortsJudged s t)
include h

theorem channelsEnabled (p : Nat) (m : BitVec 6) : channelsEnabled p m t = Machine.channelsEnabled p m s := by
  unfold Machine.channelsEnabled chanEnabled
  simp only [portImage_of_en_decay h.en h.decay]

theorem linksUp (ports : Byte) : linksUp ports t = Machine.linksUp ports s := by
  unfold Machine.linksUp getLink
  rw [h.links]

theorem stateRunStop : stateRunStop t = Machine.stateRunStop s := by
  unfold Machine.stateRunStop
  rw [h.dev]

end PortsJudged

/-! ### OUTPUT_TEST_NOW (R127, R319) -/

/-- A link that is asked to test channels: they are marked, and TEST_NOW waits in its queue. -/
def Link.askedToTest (m : BitVec 6) (k : Link) : Link := { k with testing := m, writes := k.writes ++ [(0x84, m.setWidth 16)] }

theorem queueWrite_testing (n : Nat) (m : BitVec 6) (s : State) :
    queueWrite n 0x84 (m.setWidth 16) (updLink n (fun l => { l with testing := m }) s) = updLink n (Link.askedToTest m) s :=
  congrArg (fun v => { s with links := v }) (updVec_updVec ..)

section
variable {s : State} {n : Fin 8} {m : Byte}

/-- How OUTPUT_TEST_NOW for link n goes, in the order of its judgements. -/
theorem execOutputTestSeq_link (n : Fin 8) (m : Byte) (s : State) : execOutputTestSeq [BitVec.ofNat 8 n.val, m, 0, 0] s =
    if ¬ stateRunStop s = true then refuses stWrongState s
    else if s.links[n.val].phase ≠ 6 then refuses stWrongState s
    else if m.setWidth 6 = 0 ∨ channelsEnabled n.val (m.setWidth 6) s = false then refuses stBadParam s
    else goesOn (.outputTest n (m.setWidth 6) 0 0 s.clock) (updLink n.val (Link.askedToTest (m.setWidth 6)) s) := by
  have hn : (byteAt [BitVec.ofNat 8 n.val, m, 0, 0] 0).toNat = n.val := by
    show (BitVec.ofNat 8 n.val).toNat = n.val
    rw [BitVec.toNat_ofNat]
    omega
  unfold execOutputTestSeq
  simp only [hn, n.isLt, dif_pos, getLink_fin, queueWrite_testing, Bool.not_eq_true']
  rfl

theorem execOutputTestSeq_outside (h : stateRunStop s = false) (params : List Byte) :
    execOutputTestSeq params s = refuses stWrongState s := if_pos (by rw [h]; decide)

theorem execOutputTestSeq_down (h : s.links[n.val].phase ≠ 6) :
    execOutputTestSeq [BitVec.ofNat 8 n.val, m, 0, 0] s = refuses stWrongState s := by
  rw [execOutputTestSeq_link, if_pos h, ite_self]

theorem execOutputTestSeq_noChannel (hrun : stateRunStop s = true) (hup : s.links[n.val].phase = 6)
    (h : m.setWidth 6 = 0 ∨ channelsEnabled n.val (m.setWidth 6) s = false) :
    execOutputTestSeq [BitVec.ofNat 8 n.val, m, 0, 0] s = refuses stBadParam s := by
  rw [execOutputTestSeq_link, if_neg (not_not.2 hrun), if_neg (not_not.2 hup), if_pos h]

theorem execOutputTestSeq_asks (hrun : stateRunStop s = true) (hup : s.links[n.val].phase = 6) (hm : m.setWidth 6 ≠ 0)
    (hen : channelsEnabled n.val (m.setWidth 6) s = true) : execOutputTestSeq [BitVec.ofNat 8 n.val, m, 0, 0] s =
      goesOn (.outputTest n (m.setWidth 6) 0 0 s.clock) (updLink n.val (Link.askedToTest (m.setWidth 6)) s) := by
  rw [execOutputTestSeq_link, if_neg (not_not.2 hrun), if_neg (not_not.2 hup), if_neg (by rw [hen]; exact not_or.2 ⟨hm, nofun⟩)]

end

/-- The mask of six channels in its byte. -/
theorem mask_setWidth (m : BitVec 6) : (m.setWidth 8 : Byte).setWidth 6 = m := by
  rw [BitVec.setWidth_setWidth_of_le _ (by decide), BitVec.setWidth_eq]

/-! ### LEARN_PULSES (R118, R320) -/

/-- LEARN_REQ queued for a port that the command names. -/
def askToLearn (ports sources : Byte) (s : State) (q : Nat) : State :=
  if ports.getLsbD q then queueWrite q 0x83 (sources.setWidth 16) s else s

/-- A link that is asked to learn: LEARN_REQ waits in its queue. -/
def Link.askedToLearn (sources : Byte) (k : Link) : Link := { k with writes := k.writes ++ [(0x83, sources.setWidth 16)] }

theorem askToLearn_eq (ports sources : Byte) (s : State) (q : Nat) :
    askToLearn ports sources s q = { s with links := (askToLearn ports sources s q).links } := by
  unfold askToLearn
  split <;> rfl

theorem askToLearn_link (ports sources : Byte) (s : State) (q : Nat) (l : Fin 8) : (askToLearn ports sources s q).links[l.val] =
    if q = l.val ∧ ports.getLsbD q = true then s.links[l.val].askedToLearn sources else s.links[l.val] := by
  unfold askToLearn
  by_cases h : ports.getLsbD q = true
  · simp only [if_pos h, and_iff_left h]
    exact getElem_updVec s.links (Link.askedToLearn sources) q l.isLt
  · rw [if_neg h, if_neg fun k => h k.2]

theorem foldl_askToLearn (ports sources : Byte) (l : List Nat) (hl : l.Nodup) (s : State) :
    l.foldl (askToLearn ports sources) s = { s with links := (l.foldl (askToLearn ports sources) s).links }
      ∧ ∀ k : Fin 8, (l.foldl (askToLearn ports sources) s).links[k.val] =
        if k.val ∈ l ∧ ports.getLsbD k.val = true then s.links[k.val].askedToLearn sources else s.links[k.val] := by
  induction l generalizing s with
  | nil => exact ⟨rfl, fun k => (if_neg fun h => List.not_mem_nil h.1).symm⟩
  | cons q l ih =>
    obtain ⟨hq, hl⟩ := List.nodup_cons.1 hl
    obtain ⟨hframe, hlink⟩ := ih hl (askToLearn ports sources s q)
    refine ⟨?_, fun k => ?_⟩
    · rw [List.foldl_cons, hframe, askToLearn_eq]
    · rw [List.foldl_cons, hlink k, askToLearn_link]
      by_cases hk : q = k.val
      · subst hk; simp [hq]
      · simp [hk, Ne.symm hk]

section
variable {s : State} {ports sources : Byte}

/-- How LEARN_PULSES goes, in the order of its judgements. -/
theorem execLearnSeq_eq (ports sources : Byte) (s : State) : execLearnSeq [ports, sources, 0, 0] s =
    if s.dev.dvState ≠ .stop then refuses stWrongState s
    else if ports = 0 ∨ sources = 0 then refuses stBadParam s
    else if !linksUp ports s then refuses stWrongState s
    else goesOn (.learn ports sources []) ((List.range 8).foldl (askToLearn ports sources) s) := rfl

theorem execLearnSeq_refused (h : s.dev.dvState ≠ .stop ∨ (ports ≠ 0 ∧ sources ≠ 0 ∧ linksUp ports s = false)) :
    execLearnSeq [ports, sources, 0, 0] s = refuses stWrongState s := by
  rw [execLearnSeq_eq]
  by_cases hstop : s.dev.dvState = .stop
  · obtain ⟨hports, hsources, hdown⟩ := h.resolve_left (not_not.2 hstop)
    rw [if_neg (not_not.2 hstop), if_neg (not_or.2 ⟨hports, hsources⟩), if_pos (by rw [hdown]; rfl)]
  · rw [if_pos hstop]

theorem execLearnSeq_nothing (hstop : s.dev.dvState = .stop) (h : ports = 0 ∨ sources = 0) :
    execLearnSeq [ports, sources, 0, 0] s = refuses stBadParam s := by
  rw [execLearnSeq_eq, if_neg (not_not.2 hstop), if_pos h]

theorem execLearnSeq_asks (hstop : s.dev.dvState = .stop) (hup : linksUp ports s = true) (hports : ports ≠ 0) (hsources : sources ≠ 0) :
    execLearnSeq [ports, sources, 0, 0] s = goesOn (.learn ports sources []) ((List.range 8).foldl (askToLearn ports sources) s) := by
  rw [execLearnSeq_eq, if_neg (not_not.2 hstop), if_neg (not_or.2 ⟨hports, hsources⟩), if_neg (by rw [hup]; decide)]

/-- While a selected input has not been reported, the run goes on. -/
theorem checkLearn_waits (hr : s.cm.running = some (.learn ports sources [])) {q : Fin 8} (hq : ports.getLsbD q.val = true)
    (hin : learnInputs q.val sources s ≠ []) : checkLearn s = s := by
  obtain ⟨i, hi⟩ := List.exists_mem_of_ne_nil _ hin
  unfold checkLearn
  rw [hr]
  refine if_neg fun hall => ?_
  have hwanted : 16 * q.val + i ∈ (List.range 8).flatMap (fun p =>
      if ports.getLsbD p then (learnInputs p sources s).map (fun i => 16 * p + i) else []) :=
    List.mem_flatMap.2 ⟨q.val, List.mem_range.2 q.isLt, by rw [if_pos hq]; exact List.mem_map_of_mem hi⟩
  exact Bool.false_ne_true (List.all_eq_true.1 hall _ hwanted)

end

/-! ### The commands in order -/

section
variable {tag : BitVec 3} {csn : Word} {s : State} (h : Accepts tag s) (hi : InOrder csn s)
include h hi

/-- A refusal leaves the links as they were. -/
theorem receivePacket_refuses_links {op : Byte} {params : List Byte} {status : Byte} (ho : opSequenced op = some true)
    (hl : params.length ≤ 508) (hx : execCommand op csn params (seqStart (seqPacket op tag csn params) s)
      = refuses status (seqStart (seqPacket op tag csn params) s)) :
    let p := seqPacket op tag csn params
    Done p status [] (receivePacket p s) ∧ (receivePacket p s).links = s.links := by
  intro p
  obtain ⟨hdone, hframe⟩ := receivePacket_refuses h hi ho hl hx
  exact ⟨hdone, by rw [hframe]⟩

theorem receivePacket_outputTest {n : Fin 8} {m : BitVec 6} (hrun : stateRunStop s = true) (hup : s.links[n.val].phase = 6)
    (hm : m ≠ 0) (hen : channelsEnabled n.val m s = true) :
    let p := seqPacket 0x62 tag csn [BitVec.ofNat 8 n.val, m.setWidth 8, 0, 0]
    Started p (.outputTest n m 0 0 s.clock) (receivePacket p s)
      ∧ (receivePacket p s).links = (updLink n.val (Link.askedToTest m) s).links := by
  intro p
  have hj := seqStart_portsJudged hi p
  have hx : execCommand 0x62 csn [BitVec.ofNat 8 n.val, m.setWidth 8, 0, 0] (seqStart p s)
      = goesOn (.outputTest n m 0 0 s.clock) (updLink n.val (Link.askedToTest m) (seqStart p s)) := by
    have hasks := execOutputTestSeq_asks (s := seqStart p s) (n := n) (m := m.setWidth 8)
    simp only [mask_setWidth, hj.stateRunStop, hj.links, hj.channelsEnabled, hj.clock] at hasks
    exact hasks hrun hup hm hen
  have hk : ∀ ports sources done, Running.outputTest n m 0 0 s.clock ≠ .learn ports sources done := nofun
  refine ⟨receivePacket_starts h hi rfl (by simp) hk hx rfl (EventStore.of_nv rfl).headChain, ?_⟩
  rw [receivePacket_goesOn h hi rfl (by simp) hk hx]
  exact congrArg (fun v => updVec v n.val (Link.askedToTest m)) hj.links

theorem receivePacket_learn {ports sources : Byte} (hstop : s.dev.dvState = .stop) (hup : linksUp ports s = true) (hports : ports ≠ 0)
    (hsources : sources ≠ 0) {q : Fin 8} (hq : ports.getLsbD q.val = true) (hin : learnInputs q.val sources s ≠ []) :
    let p := seqPacket 0x63 tag csn [ports, sources, 0, 0]
    Started p (.learn ports sources []) (receivePacket p s) ∧ ∀ l : Fin 8, (receivePacket p s).links[l.val] =
      if ports.getLsbD l.val = true then s.links[l.val].askedToLearn sources else s.links[l.val] := by
  intro p
  have hj := seqStart_portsJudged hi p
  have hx : execCommand 0x63 csn [ports, sources, 0, 0] (seqStart p s)
      = goesOn (.learn ports sources []) ((List.range 8).foldl (askToLearn ports sources) (seqStart p s)) :=
    execLearnSeq_asks (by rw [hj.dev, hstop]) (by rw [hj.linksUp, hup]) hports hsources
  obtain ⟨hframe, hlink⟩ := foldl_askToLearn ports sources (List.range 8) List.nodup_range (seqStart p s)
  have hhead := seqStart_headChain hi (p := p) rfl
  have hreply := seqStart_reply hi p
  generalize (List.range 8).foldl (askToLearn ports sources) (seqStart p s) = u at hx hframe hlink
  have hrun : runChain p.chain (seqStart p s) = (goesOn (.learn ports sources []) u).st := by
    have hinputs : learnInputs q.val sources (goesOn (.learn ports sources []) u).st ≠ [] := by
      rw [learnInputs_of_en_decay (s := s) ?_ ?_]
      · exact hin
      · exact (congrArg State.en hframe).trans hj.en
      · exact (congrArg (fun x : State => x.nv.live.decay) hframe).trans hj.decay
    unfold runChain
    rw [show execCommand p.chain.opcode p.chain.csn p.chain.params (seqStart p s) = _ from hx]
    exact checkLearn_waits rfl hq hinputs
  have ht : receivePacket p s = (goesOn (.learn ports sources []) u).st := by
    rw [receivePacket_seq h hi rfl (by simp)]
    exact (congrArg (drain 8) hrun).trans (drain_busy 8 (r := .learn ports sources []) rfl)
  rw [ht]
  refine ⟨⟨rfl, ?_, ?_⟩, fun l => ?_⟩
  · exact (congrArg (fun x : State => x.cm.replies.getLast?) hframe).trans hreply
  · exact (congrArg headChain hframe).trans hhead
  · refine (hlink l).trans ?_
    simp only [hj.links, and_iff_right (List.mem_range.2 l.isLt)]

end

/-- Settles O27: each command is judged in the state that its packet leaves, where the links and the ports' words are as before. -/
theorem portCommands : Obligations.PortCommands := by
  intro s tag csn h hi
  have hj := seqStart_portsJudged hi
  refine ⟨fun n m hrun hup hm hen => ⟨_, rfl, ?_⟩, fun n m hdown => ⟨_, rfl, ?_⟩, fun n m hout => ⟨_, rfl, ?_⟩,
    fun n m hrun hup hbad => ⟨_, rfl, ?_⟩, fun ports sources hbad => ⟨_, rfl, ?_⟩, fun ports sources hstop hbad => ⟨_, rfl, ?_⟩,
    fun ports sources hstop hup hports hsources hin => ⟨_, rfl, ?_⟩⟩
  · obtain ⟨hstarted, hlinks⟩ := receivePacket_outputTest h hi hrun hup hm hen
    refine ⟨hstarted, ?_, fun l hl => ?_⟩
    · simp only [hlinks, updLink_self]
      rfl
    · simp only [hlinks]
      exact updLink_otherLinks n _ s l hl
  · exact receivePacket_refuses_links h hi rfl (by simp) (execOutputTestSeq_down (by simp only [(hj _).links]; exact hdown))
  · exact receivePacket_refuses_links h hi rfl (by simp) (execOutputTestSeq_outside ((hj _).stateRunStop.trans hout) _)
  · refine receivePacket_refuses_links h hi rfl (by simp) (execOutputTestSeq_noChannel ((hj _).stateRunStop.trans hrun)
      (by simp only [(hj _).links]; exact hup) ?_)
    rw [mask_setWidth, (hj _).channelsEnabled]
    exact hbad
  · refine receivePacket_refuses_links h hi rfl (by simp) (execLearnSeq_refused ?_)
    rw [(hj _).dev, (hj _).linksUp]
    exact hbad
  · exact receivePacket_refuses_links h hi rfl (by simp) (execLearnSeq_nothing (by rw [(hj _).dev, hstop]) hbad)
  · obtain ⟨q, hq, hinputs⟩ := hin
    exact receivePacket_learn h hi hstop hup hports hsources hq hinputs

end Sys2Proof.Machine
end

section
/-! PROOFS. Outputs that never switch, cross-shorts and foreign voltage as the controller judges them (R115, R128). -/

namespace Sys2Proof.Machine

/-! ## A channel that has not passed an opening test (R128) -/

theorem or_chBit (c : Fin 6) (m : BitVec 6) :
    (m ||| chBit c.val).getLsbD c.val = true ∧ (m.getLsbD c.val = true → m ||| chBit c.val = m) := by
  revert c m
  decide

theorem storedFirst_store (s : State) : EventStore s (storedFirst s) := by
  unfold storedFirst
  split
  · exact writeParams_store s
  · exact .refl s

theorem storedFirst_links (s : State) : (storedFirst s).links = s.links := by
  unfold storedFirst
  split
  · exact writeParams_links s
  · rfl

theorem channelUntested_store (p c : Nat) (s : State) : EventStore s (channelUntested p c s) := by
  unfold channelUntested
  split
  · exact .refl s
  · exact .trans ((storedFirst_store s).trans (.of_nv (updLink_nv ..))) (raise_store ..)

/-- A link with channel c shown as untested. -/
def Link.withUntested (c : Nat) (k : Link) : Link := { k with untested := k.untested ||| chBit c }

theorem channelUntested_links (p : Fin 8) (c : Fin 6) (s : State) :
    (channelUntested p.val c.val s).links = (updLink p.val (Link.withUntested c.val) s).links := by
  unfold channelUntested
  split
  next h =>
    rw [getLink_fin] at h
    refine (updVec_of_fixed _ _ p.isLt ?_).symm
    unfold Link.withUntested
    rw [(or_chBit c _).2 h]
  next =>
    rw [raise_links]
    show updVec (storedFirst s).links p.val _ = _
    rw [storedFirst_links]
    rfl

/-- The operating minutes of channel c of port p. -/
def minutesOf (p c : Nat) (s : State) : Nat := (s.nv.live.chMinutes[6 * p + c]?).getD 0

theorem channelMinutes_links (p c n : Nat) (s : State) : (channelMinutes p c n s).links = s.links := setItem_links ..

theorem le_minutesOf_channelMinutes (p : Fin 8) (c : Fin 6) (n : Nat) (s : State) :
    n ≤ minutesOf p.val c.val (channelMinutes p.val c.val n s) := by
  have hi : 6 * p.val + c.val < 48 := by omega
  have hmin : minutesOf p.val c.val (channelMinutes p.val c.val n s)
      = (updVec s.nv.live.chMinutes (6 * p.val + c.val) (max n))[6 * p.val + c.val] := by
    unfold minutesOf
    rw [Vector.getElem?_eq_getElem hi]
    rfl
  rw [hmin, getElem_updVec _ _ _ hi, if_pos rfl]
  exact Nat.le_max_left ..

section
variable (p : Fin 8) (c : Fin 6) (n : Nat) (s : State)

/-- The counter brought to n, and the channel shown as untested. -/
def untestedSince (p c n : Nat) (s : State) : State := channelUntested p c (channelMinutes p c n s)

theorem untestedSince_links : (untestedSince p.val c.val n s).links = (updLink p.val (Link.withUntested c.val) s).links := by
  unfold untestedSince
  rw [channelUntested_links]
  show updVec (channelMinutes p.val c.val n s).links p.val _ = _
  rw [channelMinutes_links]
  rfl

theorem untestedSince_link : (untestedSince p.val c.val n s).links[p.val] = s.links[p.val].withUntested c.val := by
  simp only [untestedSince_links, updLink_self]

theorem le_minutesOf_untestedSince : n ≤ minutesOf p.val c.val (untestedSince p.val c.val n s) := by
  have hlive : (untestedSince p.val c.val n s).nv.live.chMinutes = (channelMinutes p.val c.val n s).nv.live.chMinutes := by
    rw [untestedSince, (channelUntested_store ..).1]
  unfold minutesOf
  rw [hlive]
  exact le_minutesOf_channelMinutes p c n s

variable {p c s}

theorem untestedAt_eq (hlive : live s = true) (hen : chanEnabled p.val c.val s = true) :
    untestedAt p.val c.val s = untestedSince p.val c.val 43200 s := if_pos (by rw [hlive, hen]; rfl)

/-- After 1,440 hours a channel that is open is refused, and a closed one stays as it is. -/
theorem refusedAt_eq (hlive : live s = true) (hen : chanEnabled p.val c.val s = true) :
    refusedAt p.val c.val s = if s.links[p.val].outNow.getLsbD c.val then untestedSince p.val c.val 86400 s
      else channelRefused p.val c.val (untestedSince p.val c.val 86400 s) := by
  have hout : (getLink p.val (untestedSince p.val c.val 86400 s)).outNow = s.links[p.val].outNow := by
    rw [getLink_fin, untestedSince_link]
    rfl
  rw [← hout]
  exact if_pos (by rw [hlive, hen]; rfl)

end

theorem runs_outputUntested {s : State} {p : Fin 8} {c : Fin 6} (hlive : live s = true) (hen : chanEnabled p.val c.val s = true) :
    Runs (.outputUntested p c) s (fun t => t.links[p.val].untested.getLsbD c.val = true
      ∧ 43200 ≤ minutesOf p.val c.val t ∧ t.links[p.val].refused = s.links[p.val].refused
      ∧ ∀ l : Fin 8, l ≠ p → t.links[l.val] = s.links[l.val]) := by
  refine ⟨_, rfl, ?_⟩
  rw [untestedAt_eq hlive hen]
  dsimp only
  rw [untestedSince_link]
  refine ⟨(or_chBit c _).1, le_minutesOf_untestedSince .., rfl, fun l hl => ?_⟩
  simp only [untestedSince_links]
  exact updLink_otherLinks p _ s l hl

theorem runs_outputRefused {s : State} {p : Fin 8} {c : Fin 6} (hlive : live s = true) (hen : chanEnabled p.val c.val s = true) :
    Runs (.outputRefused p c) s (fun t => t.links[p.val].untested.getLsbD c.val = true ∧ 86400 ≤ minutesOf p.val c.val t
      ∧ (s.links[p.val].outNow.getLsbD c.val = false → t.links[p.val].refused.getLsbD c.val = true)
      ∧ (s.links[p.val].outNow.getLsbD c.val = true → t.links[p.val].refused = s.links[p.val].refused)) := by
  have hmin := le_minutesOf_untestedSince p c 86400 s
  have hlink := untestedSince_link p c 86400 s
  refine ⟨_, rfl, ?_⟩
  rw [refusedAt_eq hlive hen]
  cases hout : s.links[p.val].outNow.getLsbD c.val with
  | true =>
    rw [if_pos rfl, hlink]
    exact ⟨(or_chBit c _).1, hmin, nofun, fun _ => rfl⟩
  | false =>
    rw [if_neg Bool.false_ne_true]
    unfold channelRefused
    rw [updLink_self, hlink]
    exact ⟨(or_chBit c _).1, hmin, fun _ => (or_chBit c _).1, nofun⟩

/-! ## Episodes (R115) -/

theorem mem_crossShortEnd_pairs (p k q j : Nat) (s : State) (x : Nat × Nat × Nat × Nat × Nat) :
    x ∈ (crossShortEnd p k q j s).short.pairs
      ↔ x ∈ s.short.pairs ∧ (isPair p k q j x = true → s.clock ≤ x.2.2.2.2 + 2 * framePeriod s) := by
  show x ∈ s.short.pairs.filter (fun x => !isPair p k q j x || pairFresh s x) ↔ _
  rw [List.mem_filter, Bool.or_eq_true, Bool.not_eq_true', ← Bool.not_eq_true, ← imp_iff_not_or, pairFresh, decide_eq_true_iff]

/-- A FOREIGN_VOLTAGE whose two frame periods are not over waits on. -/
theorem shortToSupply_waits {p k : Nat} {s : State}
    (h : ∀ x ∈ s.short.foreign, x.1 = p → x.2.1 = k → s.clock < x.2.2 + 2 * framePeriod s) : shortToSupply p k s = s := by
  have hnone : s.short.foreign.find? (fun x =>
      x.1 == p && x.2.1 == k && decide (x.2.2 + 2 * framePeriod s ≤ s.clock)) = none := by
    refine List.find?_eq_none.2 fun x hx hjudged => ?_
    simp only [Bool.and_eq_true, beq_iff_eq, decide_eq_true_eq] at hjudged
    obtain ⟨⟨hp, hk⟩, hover⟩ := hjudged
    exact absurd hover (Nat.not_le.2 (h x hx hp hk))
  unfold shortToSupply
  rw [hnone]

/-- The state once the one FOREIGN_VOLTAGE that waited has become the first SHORT_TO_SUPPLY, before its event. -/
def suppliedBy (p k time : Nat) (s : State) : State :=
  noteUncleanSource p k { s with short := { s.short with foreign := [], supplied := [(p, k, time)] } }

theorem suppliedBy_eq (p k time : Nat) (s : State) : suppliedBy p k time s = { s with
    short := { s.short with foreign := [], supplied := [(p, k, time)] }, en := (suppliedBy p k time s).en } := by
  unfold suppliedBy noteUncleanSource
  rw [updRestarts_eq]

theorem shortToSupply_first {p k time : Nat} {s : State} (hforeign : s.short.foreign = [(p, k, time)]) (hsupplied : s.short.supplied = [])
    (hover : time + 2 * framePeriod s ≤ s.clock) :
    shortToSupply p k s = raise (176 + p) 0x0114 .warning (argOf [(0, k)]) (suppliedBy p k time s) := by
  have hfind : s.short.foreign.find? (fun x =>
      x.1 == p && x.2.1 == k && decide (x.2.2 + 2 * framePeriod s ≤ s.clock)) = some (p, k, time) := by
    rw [hforeign]
    exact List.find?_cons_of_pos (by simp [hover])
  unfold shortToSupply
  rw [hfind]
  simp only [hforeign, hsupplied, List.erase_cons_head, List.find?_nil, Option.map_none, List.filter_nil, List.nil_append,
    Bool.false_eq_true, if_false, suppliedBy]

/-- An unmatched FOREIGN_VOLTAGE is SHORT_TO_SUPPLY, with its event. -/
theorem shortToSupply_judges {p k time : Nat} {s : State} (hforeign : s.short.foreign = [(p, k, time)])
    (hsupplied : s.short.supplied = []) (ho : JournalOpen s) (hover : time + 2 * framePeriod s ≤ s.clock) :
    let t := shortToSupply p k s
    t.short.foreign = [] ∧ t.short.supplied = [(p, k, time)]
      ∧ Gained [eventOf (176 + p) 0x0114 .warning (argOf [(0, k)]) s] s t := by
  intro t
  have ht : t = _ := shortToSupply_first hforeign hsupplied hover
  have hu := suppliedBy_eq p k time s
  generalize suppliedBy p k time s = u at ht hu
  have hopen : JournalOpen u := by rw [hu]; exact ho
  rw [raise_open _ _ .warning _ _ hopen (.inl (Nat.le_refl 2)), eventOf_congr (s := s) (by rw [hu]) (by rw [hu])] at ht
  rw [ht]
  unfold Gained
  rw [hu]
  exact ⟨rfl, rfl, rfl⟩

/-- Settles O43: the two rows of a channel that has not been tested, and the episodes' ends. -/
theorem portJudgement : Obligations.PortJudgement := by
  refine ⟨fun s p c hlive hen => ⟨runs_outputUntested hlive hen, runs_outputRefused hlive hen⟩, fun s p k q j => ⟨?_, ?_, ?_⟩⟩
  · exact ⟨_, rfl, rfl, fun x => mem_crossShortEnd_pairs ..⟩
  · exact fun time hforeign hsupplied ho hover => ⟨_, rfl, shortToSupply_judges hforeign hsupplied ho hover⟩
  · exact fun h => congrArg Host.Outcome.next (shortToSupply_waits h)

end Sys2Proof.Machine
end

section
/-! PROOFS. The samples of one input (R98, R103, R105): a tick that gives no result changes the input alone, and the tick that does
leaves an edge record behind. -/

namespace Sys2Proof.Machine

/-! ## One input replaced -/

theorem updVec_of_some {α : Type} {n : Nat} {v : Vector α n} {i : Nat} {x : α} (h : v[i]? = some x) (f : α → α) :
    updVec v i f = v.setIfInBounds i (f x) := by
  unfold updVec; rw [h]

theorem updVec_of_none {α : Type} {n : Nat} {v : Vector α n} {i : Nat} (h : v[i]? = none) (f : α → α) : updVec v i f = v := by
  unfold updVec; rw [h]

theorem setIfInBounds_of_some {α : Type} {n : Nat} {v : Vector α n} {i : Nat} {x : α} (h : v[i]? = some x) :
    v.setIfInBounds i x = v := (updVec_of_some h id).symm.trans (updVec_id v i)

/-- The port with input i as given. -/
def PortSt.setInput (i : Nat) (x : InputSt) (q : PortSt) : PortSt := { q with inputs := q.inputs.setIfInBounds i x }

theorem setInput_self (q : PortSt) (i : Fin 16) : q.setInput i.val q.inputs[i.val] = q := by
  unfold PortSt.setInput
  rw [setIfInBounds_of_some (Vector.getElem?_eq_getElem i.isLt)]

theorem setInput_setInput (q : PortSt) (i : Nat) (x y : InputSt) : (q.setInput i x).setInput i y = q.setInput i y := by
  unfold PortSt.setInput
  simp only [Vector.setIfInBounds_setIfInBounds]

theorem setInput_getElem? (q : PortSt) (i : Fin 16) (x : InputSt) : (q.setInput i.val x).inputs[i.val]? = some x :=
  Vector.getElem?_setIfInBounds_self_of_lt i.isLt

theorem setInput_getElem (q : PortSt) (i : Fin 16) (x : InputSt) : (q.setInput i.val x).inputs[i.val] = x :=
  Vector.getElem_setIfInBounds_self i.isLt

/-! ## One sample tick (R103) -/

/-- What a tick of input i gives, on a port with that input as given. -/
def PortSt.tickOf (q : PortSt) (i : Nat) (r : InputRead) (x : InputSt) : InputSt × Option FilterOut :=
  x.tick (q.par i % 4) (q.par (0x10 + i)) q.uf1Missing r

theorem sampleTick_setInput (q : PortSt) (i : Fin 16) (x : InputSt) (pos : Nat) (r : InputRead) :
    (q.setInput i.val x).sampleTick i.val pos r
      = PortSt.report i.val pos (q.tickOf i.val r x).2 (q.setInput i.val (q.tickOf i.val r x).1) := by
  unfold PortSt.sampleTick
  rw [setInput_getElem?]
  exact congrArg (PortSt.report i.val pos _) (setInput_setInput q i.val x _)

theorem pushEdge_free {q : PortSt} (hroom : q.edges.length < 32) (hnone : q.discards = 0) (r : Word) :
    q.pushEdge r = { q with edges := q.edges ++ [r] } := by
  unfold PortSt.pushEdge
  rw [if_pos hroom]
  dsimp only
  rw [if_pos hnone, ← hnone]

/-- A result of an input that is neither latched nor held by its pair becomes a record. -/
theorem report_setInput {q : PortSt} {i : Fin 16} {x : InputSt} (hlatch : x.latch = false) (hpair : q.pairShares (i.val / 2) = false)
    (hroom : q.edges.length < 32) (hnone : q.discards = 0) (pos : Nat) (o : FilterOut) :
    PortSt.report i.val pos (some o) (q.setInput i.val x) = { q.setInput i.val x with
      edges := q.edges ++ [edgeRecord i.val o.level o.settle (BitVec.ofNat 4 (pos / 10)) (pos % 10) o.rawOfs] } := by
  have hheld : (x.latch || (q.setInput i.val x).pairShares (i.val / 2)) = false := by rw [hlatch]; exact hpair
  unfold PortSt.report
  rw [setInput_getElem?]
  dsimp only
  rw [hheld]
  exact pushEdge_free (q := q.setInput i.val x) hroom hnone _

/-! ## Samples one after the other -/

/-- While ticks give no result, the input alone changes. -/
theorem foldl_sampleTick_silent {q : PortSt} {i : Fin 16} {C : Nat → InputSt → Prop} (pos : Nat → Nat) (rd : Nat → InputRead)
    (n : Nat) (hinit : C 0 q.inputs[i.val])
    (hstep : ∀ m < n, ∀ z, C m z → (q.tickOf i.val (rd m) z).2 = none ∧ C (m + 1) (q.tickOf i.val (rd m) z).1) :
    ∃ z, C n z ∧ (List.range n).foldl (fun p m => p.sampleTick i.val (pos m) (rd m)) q = q.setInput i.val z := by
  induction n with
  | zero => exact ⟨_, hinit, (setInput_self q i).symm⟩
  | succ n ih =>
    obtain ⟨z, hz, hfold⟩ := ih fun m hm => hstep m (Nat.lt_succ_of_lt hm)
    obtain ⟨hnone, hnext⟩ := hstep n (Nat.lt_succ_self n) z hz
    refine ⟨_, hnext, ?_⟩
    rw [List.range_succ, List.foldl_append, hfold, List.foldl_cons, List.foldl_nil, sampleTick_setInput, hnone]
    rfl

/-- The position of the last sample within the 16-cycle count (R84). -/
theorem lastPos_mod (cyc : BitVec 4) (sample : Fin 10) (n : Nat) :
    let pos := (10 * cyc.toNat + sample.val + 160 * (n + 1) - (n + 1 - 1 - n)) % 160
    BitVec.ofNat 4 (pos / 10) = cyc ∧ pos % 10 = sample.val := by
  intro pos
  have hcyc := cyc.isLt
  have hpos : pos = 10 * cyc.toNat + sample.val := by omega
  refine ⟨?_, by omega⟩
  rw [hpos, show (10 * cyc.toNat + sample.val) / 10 = cyc.toNat by omega, BitVec.ofNat_toNat, BitVec.setWidth_eq]

/-- A reading that stands for n + 1 samples, of which the last alone gives a result: its record joins the queue. -/
theorem feed_replicate {q : PortSt} {i : Fin 16} {read : InputRead} {n : Nat} {C : Nat → InputSt → Prop} {o : FilterOut}
    {E : InputSt → Prop} (hsampling : q.sampling = true) (hused : q.used i.val = true) (hpair : q.pairShares (i.val / 2) = false)
    (hroom : q.edges.length < 32) (hnone : q.discards = 0) (hinit : C 0 q.inputs[i.val])
    (hstep : ∀ m < n, ∀ z, C m z → (q.tickOf i.val read z).2 = none ∧ C (m + 1) (q.tickOf i.val read z).1)
    (hlast : ∀ z, C n z → (q.tickOf i.val read z).2 = some o ∧ (q.tickOf i.val read z).1.latch = false
      ∧ E (q.tickOf i.val read z).1) (cyc : BitVec 4) (sample : Fin 10) :
    let r := q.feed i.val (List.replicate (n + 1) read) cyc.toNat sample.val
    E r.inputs[i.val] ∧ r.edges = q.edges ++ [edgeRecord i.val o.level o.settle cyc sample.val o.rawOfs] := by
  intro r
  have hread (m : Nat) (hm : m < n + 1) : (List.replicate (n + 1) read)[m]?.getD InputRead.none = read := by
    rw [List.getElem?_replicate, if_pos hm]; rfl
  obtain ⟨z, hz, hfold⟩ := foldl_sampleTick_silent (C := C)
    (fun m => (10 * cyc.toNat + sample.val + 160 * (n + 1) - (n + 1 - 1 - m)) % 160)
    (fun m => (List.replicate (n + 1) read)[m]?.getD InputRead.none) n hinit fun m hm z hz => by
      rw [hread m (Nat.lt_succ_of_lt hm)]; exact hstep m hm z hz
  obtain ⟨hout, hlatch, hend⟩ := hlast z hz
  obtain ⟨hcyc, hsample⟩ := lastPos_mod cyc sample n
  have hr : r = { q.setInput i.val (q.tickOf i.val read z).1 with
      edges := q.edges ++ [edgeRecord i.val o.level o.settle cyc sample.val o.rawOfs] } := by
    change q.feed i.val _ _ _ = _
    unfold PortSt.feed
    rw [if_pos (by rw [hsampling, hused]; rfl), List.length_replicate]
    dsimp only
    rw [List.range_succ, List.foldl_append, hfold, List.foldl_cons, List.foldl_nil, hread n (Nat.lt_succ_self n),
      sampleTick_setInput, hout, report_setInput hlatch hpair hroom hnone, hcyc, hsample]
  rw [hr]
  refine ⟨?_, rfl⟩
  show E (q.setInput i.val (q.tickOf i.val read z).1).inputs[i.val]
  rw [setInput_getElem]
  exact hend

/-! ## A level that lasts (R103, R105) -/

/-- The age of a run after m of its samples. -/
def ageAfter : Nat → Option Nat
  | 0 => none
  | m + 1 => some m

theorem nextAge_ageAfter (m : Nat) : nextAge (ageAfter m) = m := by cases m <;> rfl

/-- An input whose samples all give x: neither blanked, nor discarded, nor cut off from UF1. -/
theorem tick_plain {z : InputSt} {type d : Nat} {x : Bool} {read : InputRead} (hskip : z.skip = 0) (hblank : z.blank = false)
    (hx : ∀ prev : Bool, sampleOf type prev read = x) :
    z.tick type d false read = if z.settling then { z with rawNow := x, sampleNow := x }.settleTick d x
      else { z with rawNow := x, sampleNow := x }.filterTick d x := by
  unfold InputSt.tick
  simp only [hx, hblank, hskip, Bool.not_false, Bool.true_and, Bool.false_eq_true, if_false, Nat.lt_irrefl]

/-- Input y after m samples at the level that it has not accepted. -/
def InputSt.running (y : InputSt) (m : Nat) (z : InputSt) : Prop :=
  ∃ raw held, z = { y with rawNow := raw, sampleNow := held, rawAge := ageAfter m, runAge := ageAfter m, backAge := none }

theorem filterTick_running {y z : InputSt} {d m : Nat} {x : Bool} (hacc : y.accepted = !x) (hz : y.running m z) :
    { z with rawNow := x, sampleNow := x }.filterTick d x = if d ≤ m then
        ({ y with rawNow := x, sampleNow := x, accepted := x, rawAge := none, runAge := none, backAge := none },
          some { level := x, settle := false, rawOfs := m })
      else ({ y with rawNow := x, sampleNow := x, rawAge := ageAfter (m + 1), runAge := ageAfter (m + 1), backAge := none }, none) := by
  obtain ⟨raw, held, rfl⟩ := hz
  have hne : x ≠ y.accepted := by rw [hacc]; cases x <;> decide
  unfold InputSt.filterTick
  dsimp only
  rw [if_pos hne, nextAge_ageAfter]
  rfl

theorem running_zero {y : InputSt} (hraw : y.rawAge = none) (hrun : y.runAge = none) (hback : y.backAge = none) :
    y.running 0 y := by
  refine ⟨y.rawNow, y.sampleNow, ?_⟩
  cases y
  cases hraw
  cases hrun
  cases hback
  rfl

/-- Input y, which is settling, after m samples at the level x. -/
def InputSt.settlingAt (y : InputSt) (x : Bool) (m : Nat) (z : InputSt) : Prop :=
  ∃ raw held, z = { y with rawNow := raw, sampleNow := held, setAge := (ageAfter m).map (fun a => (x, a)) }

theorem settlingAt_zero {y : InputSt} (hage : y.setAge = none) (x : Bool) : y.settlingAt x 0 y := by
  refine ⟨y.rawNow, y.sampleNow, ?_⟩
  cases y
  cases hage
  rfl

theorem settleTick_settlingAt {y z : InputSt} {d m : Nat} {x : Bool} (hz : y.settlingAt x m z) :
    { z with rawNow := x, sampleNow := x }.settleTick d x = if d ≤ m then
        ({ y with rawNow := x, sampleNow := x, accepted := x, settling := false, setAge := none },
          some { level := x, settle := true, rawOfs := 0 })
      else ({ y with rawNow := x, sampleNow := x, setAge := (ageAfter (m + 1)).map (fun a => (x, a)) }, none) := by
  obtain ⟨raw, held, rfl⟩ := hz
  cases m with
  | zero => rfl
  | succ m =>
    unfold InputSt.settleTick
    simp [ageAfter]

/-- An input whose readings give x, whatever was read before, and whose results become records. -/
structure Steady (q : PortSt) (i : Fin 16) (read : InputRead) (x : Bool) : Prop where
  sampling : q.sampling = true
  used : q.used i.val = true
  skip : q.inputs[i.val].skip = 0
  blank : q.inputs[i.val].blank = false
  uf1 : q.uf1Missing = false
  latch : q.inputs[i.val].latch = false
  pair : q.pairShares (i.val / 2) = false
  room : q.edges.length < 32
  discards : q.discards = 0
  reads : ∀ prev : Bool, sampleOf (q.par i.val % 4) prev read = x

section
variable {q : PortSt} {i : Fin 16} {read : InputRead} {x : Bool} (h : Steady q i read x) (cyc : BitVec 4) (sample : Fin 10)
include h

theorem Steady.tickOf {z : InputSt} (hskip : z.skip = 0) (hblank : z.blank = false) :
    q.tickOf i.val read z = if z.settling then { z with rawNow := x, sampleNow := x }.settleTick (q.par (0x10 + i.val)) x
      else { z with rawNow := x, sampleNow := x }.filterTick (q.par (0x10 + i.val)) x := by
  unfold PortSt.tickOf
  rw [h.uf1]
  exact tick_plain hskip hblank h.reads

/-- A level that lasts the debounce time is accepted, with an edge record that holds its age (R103). -/
theorem feed_accepts (hset : q.inputs[i.val].settling = false) (hacc : q.inputs[i.val].accepted = !x)
    (hraw : q.inputs[i.val].rawAge = none) (hrun : q.inputs[i.val].runAge = none) (hback : q.inputs[i.val].backAge = none) :
    let n := q.par (0x10 + i.val)
    let r := q.feed i.val (List.replicate (n + 1) read) cyc.toNat sample.val
    r.inputs[i.val].accepted = x ∧ r.edges = q.edges ++ [edgeRecord i.val x false cyc sample.val n] := by
  intro n
  have htick {m : Nat} {z : InputSt} (hz : q.inputs[i.val].running m z) :
      q.tickOf i.val read z = { z with rawNow := x, sampleNow := x }.filterTick n x := by
    obtain ⟨raw, held, rfl⟩ := hz
    rw [h.tickOf (by exact h.skip) (by exact h.blank)]
    exact if_neg (by rw [hset]; decide)
  refine feed_replicate (C := q.inputs[i.val].running) (o := ⟨x, false, n⟩) (E := fun z => z.accepted = x)
    h.sampling h.used h.pair h.room h.discards (running_zero hraw hrun hback) (fun m hm z hz => ?_) (fun z hz => ?_) cyc sample
  · rw [htick hz, filterTick_running hacc hz, if_neg (Nat.not_le.2 hm)]
    exact ⟨rfl, _, _, rfl⟩
  · rw [htick hz, filterTick_running hacc hz, if_pos (Nat.le_refl n)]
    exact ⟨rfl, h.latch, rfl⟩

/-- The first level after a link start that lasts the debounce time is the settling result, with a settling record (R105). -/
theorem feed_settles (hset : q.inputs[i.val].settling = true) (hage : q.inputs[i.val].setAge = none) :
    let r := q.feed i.val (List.replicate (q.par (0x10 + i.val) + 1) read) cyc.toNat sample.val
    (r.inputs[i.val].accepted = x ∧ r.inputs[i.val].settling = false)
      ∧ r.edges = q.edges ++ [edgeRecord i.val x true cyc sample.val 0] := by
  have htick {m : Nat} {z : InputSt} (hz : q.inputs[i.val].settlingAt x m z) :
      q.tickOf i.val read z = { z with rawNow := x, sampleNow := x }.settleTick (q.par (0x10 + i.val)) x := by
    obtain ⟨raw, held, rfl⟩ := hz
    rw [h.tickOf (by exact h.skip) (by exact h.blank)]
    exact if_pos hset
  refine feed_replicate (C := q.inputs[i.val].settlingAt x) (o := ⟨x, true, 0⟩) (E := fun z => z.accepted = x ∧ z.settling = false)
    h.sampling h.used h.pair h.room h.discards (settlingAt_zero hage x) (fun m hm z hz => ?_) (fun z hz => ?_) cyc sample
  · rw [htick hz, settleTick_settlingAt hz, if_neg (Nat.not_le.2 hm)]
    exact ⟨rfl, _, _, rfl⟩
  · rw [htick hz, settleTick_settlingAt hz, if_pos (Nat.le_refl _)]
    exact ⟨rfl, h.latch, rfl, rfl⟩

end

end Sys2Proof.Machine
end

section
/-! PROOFS. Pulse frames and dark pulses (R106 to R117): what a pass over a port's sources or inputs makes of each of them, the start
and the end of a dark pulse, and its verdict on an input. -/

namespace Sys2Proof.Machine

/-! ## A pass over sources or inputs -/

/-- A pass that changes each element by a step of its own, and a property that every step keeps. -/
theorem foldl_pass {α : Type} {n : Nat} (v : PortSt → Vector α n) {Same : PortSt → Prop} {f : PortSt → Nat → PortSt}
    {g : Nat → α → α} (hf : ∀ i r, Same r → Same (f r i) ∧ v (f r i) = updVec (v r) i (g i)) {l : List Nat} (hl : l.Nodup) {p : PortSt} (hp : Same p) :
    Same (l.foldl f p) ∧ ∀ i (hi : i < n), (v (l.foldl f p))[i] = if i ∈ l then g i (v p)[i] else (v p)[i] := by
  induction l generalizing p with
  | nil => exact ⟨hp, fun _ _ => rfl⟩
  | cons a l ih =>
    obtain ⟨ha, hl⟩ := List.nodup_cons.1 hl
    obtain ⟨hsame, hstep⟩ := hf a p hp
    obtain ⟨hkept, heach⟩ := ih hl hsame
    refine ⟨hkept, fun i hi => ?_⟩
    rw [List.foldl_cons, heach i hi, hstep, getElem_updVec _ _ _ hi]
    by_cases hai : a = i
    · subst hai; simp [ha]
    · simp [hai, Ne.symm hai]

/-- Only inputs and the diagnostics that wait may differ. -/
def InputsApart (q r : PortSt) : Prop := ∃ v d, r = { q with inputs := v, diagq := d }

theorem InputsApart.refl (q : PortSt) : InputsApart q q := ⟨_, _, rfl⟩

theorem InputsApart.diag {q r : PortSt} (h : InputsApart q r) (code : Half) (arg : Nat) : InputsApart q (r.diag code arg) := by
  obtain ⟨v, d, rfl⟩ := h
  exact ⟨v, _, rfl⟩

theorem InputsApart.trans {p q r : PortSt} (h : InputsApart p q) (k : InputsApart q r) : InputsApart p r := by
  obtain ⟨v, d, rfl⟩ := h
  obtain ⟨w, e, rfl⟩ := k
  exact ⟨w, e, rfl⟩

theorem InputsApart.sources {q r : PortSt} (h : InputsApart q r) : r.sources = q.sources := by
  obtain ⟨v, d, rfl⟩ := h
  rfl

theorem foldl_inputs {q : PortSt} {f : PortSt → Nat → PortSt} {g : Nat → InputSt → InputSt}
    (hf : ∀ i r, InputsApart q r → ∃ d, f r i = { r with inputs := updVec r.inputs i (g i), diagq := d })
    {l : List Nat} (hl : l.Nodup) {p : PortSt} (hp : InputsApart q p) :
    InputsApart q (l.foldl f p)
      ∧ ∀ i : Fin 16, (l.foldl f p).inputs[i.val] = if i.val ∈ l then g i.val p.inputs[i.val] else p.inputs[i.val] := by
  obtain ⟨hsame, heach⟩ := foldl_pass PortSt.inputs (Same := InputsApart q) (f := f) (g := g) (fun i r hr => by
    obtain ⟨d, e⟩ := hf i r hr
    exact e ▸ ⟨hr.trans ⟨_, _, rfl⟩, rfl⟩) hl hp
  exact ⟨hsame, fun i => heach i.val i.isLt⟩

/-! ## Latches (R113, R117) -/

/-- An input with its fault latch set. -/
def InputSt.latched (x : InputSt) : InputSt := { x with latch := true, cleanNow := 0, cleanFrames := 0 }

theorem latchInput_eq (i : Nat) (q : PortSt) : q.latchInput i = { q with inputs := updVec q.inputs i InputSt.latched } := rfl

theorem latchSource_inputs (k : Nat) (q : PortSt) : InputsApart q (q.latchSource k)
    ∧ ∀ i : Fin 16, q.onSource k i.val = true → (q.latchSource k).inputs[i.val] = q.inputs[i.val].latched := by
  obtain ⟨hsame, heach⟩ := foldl_inputs (q := q) (f := fun p i => if p.onSource k i then p.latchInput i else p)
    (g := fun i => if q.onSource k i then InputSt.latched else id) (fun i r hr => by
      obtain ⟨v, d, rfl⟩ := hr
      refine ⟨d, ?_⟩
      change (if q.onSource k i = true then _ else _) = _
      split
      · rfl
      · rw [updVec_id]) (l := List.range 16) List.nodup_range (.refl q)
  refine ⟨hsame, fun i hi => (heach i).trans ?_⟩
  rw [if_pos (List.mem_range.2 i.isLt), if_pos hi]

/-! ## A pulse frame starts (R116, R117) -/

/-- A source at a frame start: a shorted one is cleared where it has stood at full voltage, and else retried. -/
def SourceSt.retried (full mute mayOn : Bool) (x : SourceSt) : SourceSt :=
  if !x.shorted then x else if x.on && full && !mute then { x with shorted := false } else { x with on := mayOn }

theorem retrySource_eq (full : BitVec 8) (k : Nat) (q : PortSt) : ∃ d, q.retrySource full (k + 1) = { q with
    sources := updVec q.sources k (SourceSt.retried (full.getLsbD k) q.pulsesMute (q.sourceOn (k + 1))), diagq := d } := by
  unfold PortSt.retrySource
  rw [Nat.add_sub_cancel]
  cases hx : q.sources[k]? with
  | none => exact ⟨q.diagq, by rw [updVec_of_none hx]⟩
  | some x =>
    rw [updVec_of_some hx]
    unfold SourceSt.retried
    dsimp only
    split
    · exact ⟨q.diagq, by rw [setIfInBounds_of_some hx]⟩
    · split
      · exact ⟨_, rfl⟩
      · exact ⟨_, rfl⟩

theorem frameStart_keeps {q : PortSt} (h : q.pulsing = true) (full : BitVec 8) :
    (q.frameStart full).inputs = q.inputs.map InputSt.frameEnd
      ∧ ∀ k : Fin 8, (q.frameStart full).sources[k.val]
        = q.sources[k.val].retried (full.getLsbD k.val) q.pulsesMute (q.sourceOn (k.val + 1)) := by
  obtain ⟨⟨w, d, hsame⟩, heach⟩ := foldl_pass PortSt.sources
    (Same := fun r => ∃ w d, r = { q with inputs := q.inputs.map InputSt.frameEnd, sources := w, diagq := d })
    (f := fun p k => p.retrySource full (k + 1))
    (g := fun k => SourceSt.retried (full.getLsbD k) q.pulsesMute (q.sourceOn (k + 1))) (fun k r hr => by
      obtain ⟨w, d, rfl⟩ := hr
      obtain ⟨e, he⟩ := retrySource_eq full k { q with inputs := q.inputs.map InputSt.frameEnd, sources := w, diagq := d }
      rw [he]
      exact ⟨⟨_, e, rfl⟩, rfl⟩) (l := List.range 8) List.nodup_range
    (p := { q with inputs := q.inputs.map InputSt.frameEnd }) ⟨_, _, rfl⟩
  unfold PortSt.frameStart
  rw [if_pos h]
  refine ⟨by rw [hsame], fun k => (heach k.val k.isLt).trans (if_pos (List.mem_range.2 k.isLt))⟩

theorem retried_shorted {x : SourceSt} (hshort : x.shorted = true) (hon : x.on = true) (full mayOn : Bool) :
    (x.retried full false mayOn).shorted = !full := by
  cases full <;> simp [SourceSt.retried, hshort, hon]

/-! ## A dark pulse starts (R106 to R108, R111, R112) -/

section
variable {q : PortSt} {k : Fin 8} {t : Nat} (reads : List InputRead)

/-- In its own sub-window the source goes dark, and its inputs begin their blanking windows. -/
theorem darkStart_opens (hpulsing : q.pulsing = true) (hon : q.sources[k.val].on = true)
    (hnone : ∀ j : Fin 8, q.sources[j.val].dark = false) (hmax : q.maxDark (k.val + 1) ≠ 0)
    (hw : q.windowStarts (k.val + 1) (q.framePos t) = true) :
    q.darkStart t (k.val + 1) reads = { q with
      sources := q.sources.setIfInBounds k.val { q.sources[k.val] with dark := true, darkAt := t },
      inputs := q.inputs.mapIdx (fun i y => if q.onSource (k.val + 1) i then
        y.darkStart (q.par i % 4) q.uf1Missing (reads[i]?.getD InputRead.none) else y) } := by
  have hall : q.sources.all (fun y => !y.dark) = true :=
    Vector.all_eq_true.2 fun j hj => by rw [hnone ⟨j, hj⟩]; rfl
  unfold PortSt.darkStart
  rw [Nat.add_sub_cancel, Vector.getElem?_eq_getElem k.isLt]
  exact if_pos (by rw [hpulsing, hon, hall, hw, bne_iff_ne.2 hmax]; rfl)

theorem darkStart_outside (hw : q.windowStarts (k.val + 1) (q.framePos t) = false) :
    q.darkStart t (k.val + 1) reads = q := by
  unfold PortSt.darkStart
  rw [Nat.add_sub_cancel, Vector.getElem?_eq_getElem k.isLt]
  exact if_neg (by rw [hw, Bool.and_false]; decide)

end

/-! ## A dark pulse ends (R111 to R113) -/

/-- The samples that the ticks of a dark pulse give input i (R98). -/
def PortSt.seenIn (ticks : List DarkTick) (q : PortSt) (i : Nat) : List Bool :=
  darkSamples (q.par i % 4) i q.uf1Missing ((q.inputs[i]?.map InputSt.rawNow).getD false) ticks

/-- The tick at which the dark pulse of source k ends (R111). -/
def PortSt.endTick (k : Nat) (ticks : List DarkTick) (q : PortSt) : Option Nat :=
  darkEndTick (q.maxDark k) ((((List.range 16).filter (fun i => q.onSource k i)).filter (fun i =>
    (q.inputs[i]?.map InputSt.noted).getD false)).map (fun i => firstDark 0 (q.seenIn ticks i))) ticks

/-- The source pin reads below 5 V at the end of the pulse. -/
def pinLowAt (ticks : List DarkTick) (e : Nat) : Bool := decide (((ticks[e]?).map DarkTick.pinMilliVolts).getD 0 < 5000)

/-- An input at the end of a dark pulse of its source, before the verdict. -/
def InputSt.ended (decay : Nat) (toMax last : Bool) (until_ : Nat) (x : InputSt) : InputSt :=
  { x.learnPulse decay toMax with rawNow := last, blankEnd := some until_ }

/-- The decay that input i shows (R111). -/
def PortSt.decayIn (ticks : List DarkTick) (e : Nat) (q : PortSt) (i : Nat) : Option Nat :=
  firstDark 0 ((q.seenIn ticks i).take (e + 1))

/-- The port once source k has left its dark pulse at tick e, before the verdicts. -/
def PortSt.pulseOver (k e : Nat) (ticks : List DarkTick) (x : SourceSt) (q : PortSt) : PortSt :=
  ((List.range 16).filter (fun i => q.onSource k i)).foldl (fun p i => p.endInput i (x.darkAt + e)
    ((q.decayIn ticks e i).getD 0) (decide (q.maxDark k ≤ e)) ((q.seenIn ticks i)[e]?.getD false))
    { q with sources := q.sources.setIfInBounds (k - 1) { x with dark := false } }

theorem darkEnd_waits {q : PortSt} {k : Fin 8} {ticks : List DarkTick} (h : q.endTick (k.val + 1) ticks = none) :
    q.darkEnd (k.val + 1) ticks = q := by
  unfold PortSt.darkEnd
  split
  · rfl
  next x hx =>
    dsimp only
    split
    · rfl
    · split
      · rfl
      next e he => exact absurd (he.symm.trans h) (Option.some_ne_none e)

theorem darkEnd_ends {q : PortSt} {k : Fin 8} {ticks : List DarkTick} {e : Nat} (hdark : q.sources[k.val].dark = true)
    (h : q.endTick (k.val + 1) ticks = some e) :
    let p := q.pulseOver (k.val + 1) e ticks q.sources[k.val]
    q.darkEnd (k.val + 1) ticks = if p.pulsesMute then p
      else if !pinLowAt ticks e then (p.diag 0x0111 k.val).latchSource (k.val + 1)
      else ((List.range 16).filter (fun i => q.onSource (k.val + 1) i)).foldl
        (fun p i => p.judgeInput (k.val + 1) i (q.decayIn ticks e i)) p := by
  intro p
  unfold PortSt.darkEnd
  rw [Nat.add_sub_cancel, Vector.getElem?_eq_getElem k.isLt]
  dsimp only
  rw [hdark]
  split
  next hn => exact absurd hn (by decide)
  · split
    next hn => exact absurd (hn.symm.trans h) nofun
    next e' he' =>
      obtain rfl : e' = e := Option.some.inj (he'.symm.trans h)
      rfl

/-! ## The verdict on an input (R113, R117, R119) -/

/-- An input after the verdict of a dark pulse: one that was noted and has not fallen is latched, one that has fallen had a clean
pulse, and its decay is held against the learned one. -/
def InputSt.judged (learned : Nat) (checks : Bool) (decay : Option Nat) (x : InputSt) : InputSt :=
  if !x.noted then x
  else match decay with
    | none => x.latched
    | some n => if checks then (x.cleanPulse.1.degrade learned n).1 else x.cleanPulse.1

theorem diag_ite (b : Bool) (code : Half) (arg : Nat) (q : PortSt) :
    (if b then q.diag code arg else q) = { q with diagq := if b then q.diagq ++ [(code, BitVec.ofNat 16 arg)] else q.diagq } := by
  cases b <;> rfl

theorem judgeInput_eq (k i : Nat) (decay : Option Nat) (q : PortSt) : ∃ d, q.judgeInput k i decay = { q with
    inputs := updVec q.inputs i (InputSt.judged (q.par (0x30 + i))
      (decide (q.par i / 128 % 2 = 1) && q.par (0x30 + i) != 0) decay), diagq := d } := by
  unfold PortSt.judgeInput
  cases hx : q.inputs[i]? with
  | none => exact ⟨q.diagq, by rw [updVec_of_none hx]⟩
  | some x =>
    rw [updVec_of_some hx]
    unfold InputSt.judged
    dsimp only
    split
    · exact ⟨q.diagq, by rw [setIfInBounds_of_some hx]⟩
    · cases decay with
      | none =>
        refine ⟨(q.diag 0x0101 (i + 16 * (k - 1))).diagq, ?_⟩
        dsimp only
        rw [latchInput_eq, show (q.diag 0x0101 (i + 16 * (k - 1))).inputs = q.inputs from rfl, updVec_of_some hx]
        rfl
      | some n =>
        dsimp only
        rw [diag_ite, diag_ite]
        split
        · exact ⟨_, rfl⟩
        · exact ⟨_, rfl⟩

theorem learnPulse_eq (decay : Nat) (toMax : Bool) (x : InputSt) : x.learnPulse decay toMax = { x with
    learnData := (x.learnPulse decay toMax).learnData, learnFail := (x.learnPulse decay toMax).learnFail } := by
  unfold InputSt.learnPulse
  split <;> rfl

/-- What the end of a pulse leaves for the verdict. -/
theorem ended_keeps (decay : Nat) (toMax last : Bool) (until_ : Nat) (x : InputSt) : let z := x.ended decay toMax last until_
    z.blankEnd = some until_ ∧ z.noted = x.noted ∧ z.latch = x.latch ∧ z.cleanNow = x.cleanNow ∧ z.cleanFrames = x.cleanFrames := by
  unfold InputSt.ended
  rw [learnPulse_eq]
  exact ⟨rfl, rfl, rfl, rfl, rfl⟩

theorem degrade_eq (learned decay : Nat) (x : InputSt) : (x.degrade learned decay).1 = { x with
    degraded := (x.degrade learned decay).1.degraded, healthy := (x.degrade learned decay).1.healthy,
    degShown := (x.degrade learned decay).1.degShown } := by
  unfold InputSt.degrade
  extract_lets worse n h
  split <;> rfl

theorem cleanPulse_blankEnd (x : InputSt) : x.cleanPulse.1.blankEnd = x.blankEnd := by
  unfold InputSt.cleanPulse
  split <;> rfl

/-- A clean pulse clears the latch, or counts. -/
theorem cleanPulse_latch (x : InputSt) : let clears := x.latch = true ∧ 1 ≤ x.cleanFrames ∧ 1 ≤ x.cleanNow
    (clears → x.cleanPulse.1.latch = false)
      ∧ (¬ clears → x.cleanPulse.1.latch = x.latch ∧ x.cleanPulse.1.cleanNow = x.cleanNow + 1) := by
  intro clears
  have hiff : (x.latch && decide (1 ≤ x.cleanFrames) && decide (1 ≤ x.cleanNow)) = true ↔ clears := by simp [clears, and_assoc]
  unfold InputSt.cleanPulse
  refine ⟨fun h => ?_, fun h => ?_⟩
  · rw [if_pos (hiff.2 h)]
  · rw [if_neg (mt hiff.1 h)]
    exact ⟨rfl, rfl⟩

theorem judged_blankEnd (learned : Nat) (checks : Bool) (decay : Option Nat) (x : InputSt) :
    (x.judged learned checks decay).blankEnd = x.blankEnd := by
  unfold InputSt.judged
  split
  · rfl
  · split
    · rfl
    · split
      · rw [degrade_eq]; exact cleanPulse_blankEnd x
      · exact cleanPulse_blankEnd x

theorem judged_stuck {x : InputSt} (h : x.noted = true) (learned : Nat) (checks : Bool) :
    (x.judged learned checks none).latch = true := by
  unfold InputSt.judged
  rw [h]
  rfl

theorem judged_clean {x : InputSt} (h : x.noted = true) (learned : Nat) (checks : Bool) (n : Nat) :
    (x.judged learned checks (some n)).latch = x.cleanPulse.1.latch
      ∧ (x.judged learned checks (some n)).cleanNow = x.cleanPulse.1.cleanNow := by
  unfold InputSt.judged
  rw [h]
  simp only [Bool.not_true, Bool.false_eq_true, if_false]
  split
  · rw [degrade_eq]; exact ⟨rfl, rfl⟩
  · exact ⟨rfl, rfl⟩

/-! ## A dark pulse that ends with verdicts -/

section
variable {q : PortSt} {k : Fin 8} {ticks : List DarkTick} {e : Nat}

theorem mem_mine {i : Fin 16} :
    i.val ∈ (List.range 16).filter (fun i => q.onSource (k.val + 1) i) ↔ q.onSource (k.val + 1) i.val = true := by
  rw [List.mem_filter, List.mem_range]
  exact and_iff_right i.isLt

/-- The port with source k no longer dark. -/
def PortSt.lit (k : Nat) (q : PortSt) (x : SourceSt) : PortSt :=
  { q with sources := q.sources.setIfInBounds k { x with dark := false } }

theorem pulseOver_inputs (x : SourceSt) : InputsApart (q.lit k.val x) (q.pulseOver (k.val + 1) e ticks x)
    ∧ ∀ i : Fin 16, q.onSource (k.val + 1) i.val = true → ∃ decay toMax last,
      (q.pulseOver (k.val + 1) e ticks x).inputs[i.val] = q.inputs[i.val].ended decay toMax last (x.darkAt + e + q.allowance i.val) := by
  obtain ⟨hsame, heach⟩ := foldl_inputs (q := q.lit k.val x)
    (f := fun p i => p.endInput i (x.darkAt + e) ((q.decayIn ticks e i).getD 0) (decide (q.maxDark (k.val + 1) ≤ e))
      ((q.seenIn ticks i)[e]?.getD false))
    (g := fun i => InputSt.ended ((q.decayIn ticks e i).getD 0) (decide (q.maxDark (k.val + 1) ≤ e))
      ((q.seenIn ticks i)[e]?.getD false) (x.darkAt + e + q.allowance i))
    (fun i r hr => by obtain ⟨v, d, rfl⟩ := hr; exact ⟨d, rfl⟩)
    (l := (List.range 16).filter (fun i => q.onSource (k.val + 1) i)) (List.nodup_range.filter _) (.refl _)
  exact ⟨hsame, fun i hi => ⟨_, _, _, (heach i).trans (if_pos (mem_mine.2 hi))⟩⟩

/-- At the end of a pulse its source is lit, and each of its inputs is judged, or latched where the pin has not fallen. -/
theorem darkEnd_judges (hdark : q.sources[k.val].dark = true) (hmute : q.pulsesMute = false)
    (h : q.endTick (k.val + 1) ticks = some e) :
    let r := q.darkEnd (k.val + 1) ticks
    r.sources[k.val].dark = false ∧ ∀ i : Fin 16, q.onSource (k.val + 1) i.val = true → ∃ z : InputSt,
      z.blankEnd = some (q.sources[k.val].darkAt + e + q.allowance i.val) ∧ z.noted = q.inputs[i.val].noted
        ∧ z.latch = q.inputs[i.val].latch ∧ z.cleanNow = q.inputs[i.val].cleanNow ∧ z.cleanFrames = q.inputs[i.val].cleanFrames
        ∧ ∃ learned checks, r.inputs[i.val] =
          if pinLowAt ticks e then z.judged learned checks (q.decayIn ticks e i.val) else z.latched := by
  intro r
  obtain ⟨hover, hended⟩ := pulseOver_inputs (q := q) (k := k) (ticks := ticks) (e := e) q.sources[k.val]
  have hr : r = _ := darkEnd_ends hdark h
  generalize q.pulseOver (k.val + 1) e ticks q.sources[k.val] = p at hr hover hended
  have hmuted : p.pulsesMute = false := by obtain ⟨v, d, rfl⟩ := hover; exact hmute
  have hon (i : Nat) : p.onSource (k.val + 1) i = q.onSource (k.val + 1) i := by obtain ⟨v, d, rfl⟩ := hover; rfl
  rw [hmuted, if_neg Bool.false_ne_true] at hr
  have hverdict : InputsApart p r ∧ ∀ i : Fin 16, q.onSource (k.val + 1) i.val = true → ∃ learned checks,
      r.inputs[i.val] = if pinLowAt ticks e then p.inputs[i.val].judged learned checks (q.decayIn ticks e i.val)
        else p.inputs[i.val].latched := by
    cases hpin : pinLowAt ticks e with
    | false =>
      rw [hpin] at hr
      obtain ⟨hsame, heach⟩ := latchSource_inputs (k.val + 1) (p.diag 0x0111 k.val)
      rw [hr]
      exact ⟨.trans (.diag (.refl p) _ _) hsame, fun i hi => ⟨0, false, heach i ((hon i.val).trans hi)⟩⟩
    | true =>
      rw [hpin] at hr
      obtain ⟨hsame, heach⟩ := foldl_inputs (q := p)
        (f := fun p i => p.judgeInput (k.val + 1) i (q.decayIn ticks e i))
        (g := fun i => InputSt.judged (p.par (0x30 + i)) (decide (p.par i / 128 % 2 = 1) && p.par (0x30 + i) != 0)
          (q.decayIn ticks e i)) (fun i r hr => by obtain ⟨v, d, rfl⟩ := hr; exact judgeInput_eq ..)
        (l := (List.range 16).filter (fun i => q.onSource (k.val + 1) i)) (List.nodup_range.filter _) (.refl p)
      rw [hr]
      exact ⟨hsame, fun i hi => ⟨_, _, (heach i).trans (if_pos (mem_mine.2 hi))⟩⟩
  obtain ⟨hsame, hinputs⟩ := hverdict
  refine ⟨?_, fun i hi => ?_⟩
  · have hsources : r.sources = (q.lit k.val q.sources[k.val]).sources := hsame.sources.trans hover.sources
    simp only [hsources, PortSt.lit]
    rw [Vector.getElem_setIfInBounds_self k.isLt]
  · obtain ⟨decay, toMax, last, hz⟩ := hended i hi
    obtain ⟨hblank, hnoted, hlatch, hnow, hframes⟩ := ended_keeps decay toMax last
      (q.sources[k.val].darkAt + e + q.allowance i.val) q.inputs[i.val]
    rw [← hz] at hblank hnoted hlatch hnow hframes
    exact ⟨_, hblank, hnoted, hlatch, hnow, hframes, hinputs i hi⟩

end

end Sys2Proof.Machine
end

section
/-! PROOFS. The inputs and test pulses of a port (R103, R105, R107, R111 to R119). -/

namespace Sys2Proof.Machine

/-! ## Blanking windows, shorts and learning (R112, R114, R116, R118) -/

theorem blankOver_after {x : InputSt} {e t : Nat} (hend : x.blankEnd = some e) (h : e ≤ t) : (x.blankOver t).blank = false := by
  unfold InputSt.blankOver; rw [hend]; dsimp only; rw [if_pos h]

theorem blankOver_before {x : InputSt} {e t : Nat} (hend : x.blankEnd = some e) (h : t < e) : x.blankOver t = x := by
  unfold InputSt.blankOver; rw [hend]; exact if_neg (Nat.not_le.2 h)

section
variable {q : PortSt} {k : Fin 8}

theorem crossShort_reports {t n : Nat} (hpulsing : q.pulsing = true) (hon : q.sources[k.val].on = true)
    (hdark : q.sources[k.val].dark = false) (hmute : q.pulsesMute = false)
    (howner : subWindowOwner (q.windowAt (q.framePos t)) ≠ (n, k.val + 1)) :
    let own := subWindowOwner (q.windowAt (q.framePos t))
    q.crossShort t n (k.val + 1) = q.diag 0x0112 (k.val + 8 * own.1 + 64 * (own.2 - 1)) := by
  unfold PortSt.crossShort
  rw [Nat.add_sub_cancel, Vector.getElem?_eq_getElem k.isLt]
  exact if_pos (by rw [hpulsing, hon, hdark, hmute, bne_iff_ne.2 howner]; rfl)

/-- The port with source k switched off as shorted. -/
def PortSt.shortedOff (k : Nat) (x : SourceSt) (q : PortSt) : PortSt :=
  { q with sources := q.sources.setIfInBounds k { x with on := false, shorted := true } }

theorem sourceShort_eq (hsampling : q.sampling = true) (hon : q.sources[k.val].on = true) (hdark : q.sources[k.val].dark = false) :
    let p := q.shortedOff k.val q.sources[k.val]
    q.sourceShort (k.val + 1) = if q.pulsesMute then p else (p.diag 0x0115 k.val).latchSource (k.val + 1) := by
  unfold PortSt.sourceShort
  rw [Nat.add_sub_cancel, Vector.getElem?_eq_getElem k.isLt]
  exact if_pos (by rw [hsampling, hon, hdark]; rfl)

/-- A source held low is switched off as shorted, and its inputs are latched unless UF1 mutes it. -/
theorem sourceShort_latches (hsampling : q.sampling = true) (hon : q.sources[k.val].on = true) (hdark : q.sources[k.val].dark = false) :
    let r := q.sourceShort (k.val + 1)
    r.sources[k.val].on = false ∧ r.sources[k.val].shorted = true
      ∧ ∀ i : Fin 16, q.onSource (k.val + 1) i.val = true → q.pulsesMute = false → r.inputs[i.val].latch = true := by
  intro r
  have hr : r = _ := sourceShort_eq hsampling hon hdark
  obtain ⟨hsame, hlatched⟩ := latchSource_inputs (k.val + 1) ((q.shortedOff k.val q.sources[k.val]).diag 0x0115 k.val)
  have hsources : r.sources = (q.shortedOff k.val q.sources[k.val]).sources := by
    rw [hr]
    split
    · rfl
    · exact hsame.sources
  have hk : r.sources[k.val] = { q.sources[k.val] with on := false, shorted := true } := by
    simp only [hsources, PortSt.shortedOff]
    exact Vector.getElem_setIfInBounds_self k.isLt
  rw [hk]
  refine ⟨rfl, rfl, fun i hi hmute => ?_⟩
  simp only [hr, hmute, Bool.false_eq_true, if_false]
  rw [hlatched i hi]
  rfl

end

theorem learned_reports {q : PortSt} {i : Fin 16} (hlearning : q.inputs[i.val].learning = true)
    (hlen : q.inputs[i.val].learnData.length = 64) (hmute : q.pulsesMute = false) : let y := q.inputs[i.val]
    q.learned i.val = (q.setInput i.val { y with learning := false, learnData := [], learnFail := 0 }).diag
      (if y.learnReason ≠ 0 then 0x0104 else 0x0103)
      (if y.learnReason ≠ 0 then i.val + 16 * y.learnReason else i.val + 16 * satNat 4095 (medianUp y.learnData)) := by
  intro y
  unfold PortSt.learned
  rw [Vector.getElem?_eq_getElem i.isLt]
  dsimp only
  rw [if_pos (by rw [hlearning, hlen, hmute]; rfl)]
  by_cases h : y.learnReason = 0
  · rw [if_pos h, if_neg (not_not.2 h), if_neg (not_not.2 h)]
    rfl
  · rw [if_neg h, if_pos h, if_pos h]
    rfl

/-- The end of a pulse as it stands with each input that there is. -/
theorem endTick_eq (k : Nat) (ticks : List DarkTick) (q : PortSt) :
    let st (j : Nat) : InputSt := q.inputs[j]?.getD InputSt.new
    q.endTick k ticks = darkEndTick (q.maxDark k) (((List.range 16).filter (fun j => q.onSource k j && (st j).noted)).map
      (fun j => firstDark 0 (darkSamples (q.par j % 4) j q.uf1Missing (st j).rawNow ticks))) ticks := by
  intro st
  have hnoted (j : Nat) : (q.inputs[j]?.map InputSt.noted).getD false = (st j).noted := by
    simp only [st]; cases q.inputs[j]? <;> rfl
  have hraw (j : Nat) : (q.inputs[j]?.map InputSt.rawNow).getD false = (st j).rawNow := by
    simp only [st]; cases q.inputs[j]? <;> rfl
  unfold PortSt.endTick PortSt.seenIn
  simp only [hnoted, hraw, List.filter_filter, Bool.and_comm]

/-- The decay of one input. -/
theorem decayIn_eq (ticks : List DarkTick) (e : Nat) (q : PortSt) (i : Nat) :
    q.decayIn ticks e i = firstDark 0 ((darkSamples (q.par i % 4) i q.uf1Missing
      (q.inputs[i]?.getD InputSt.new).rawNow ticks).take (e + 1)) := by
  unfold PortSt.decayIn PortSt.seenIn
  cases q.inputs[i]? <;> rfl

/-- What the end of a dark pulse makes of an input of its source: the window's last sample, a latch where the pin or the input has not
fallen, and a clean pulse where both have. -/
theorem darkEnd_input {q : PortSt} {k : Fin 8} {i : Fin 16} {ticks : List DarkTick} {e : Nat} (hdark : q.sources[k.val].dark = true)
    (hmute : q.pulsesMute = false) (h : q.endTick (k.val + 1) ticks = some e) (hmine : q.onSource (k.val + 1) i.val = true) :
    let y := q.inputs[i.val]
    let z := (q.darkEnd (k.val + 1) ticks).inputs[i.val]
    let clears := y.latch = true ∧ 1 ≤ y.cleanFrames ∧ 1 ≤ y.cleanNow
    z.blankEnd = some (q.sources[k.val].darkAt + e + q.allowance i.val)
      ∧ (¬ pinLowAt ticks e = true ∨ (y.noted = true ∧ q.decayIn ticks e i.val = none) → z.latch = true)
      ∧ (pinLowAt ticks e = true → y.noted = true → q.decayIn ticks e i.val ≠ none →
        (clears → z.latch = false) ∧ (¬ clears → z.latch = y.latch ∧ z.cleanNow = y.cleanNow + 1)) := by
  intro y z clears
  obtain ⟨-, hjudged⟩ := darkEnd_judges hdark hmute h
  obtain ⟨x, hblank, hnoted, hlatch, hnow, hframes, learned, checks, hz⟩ := hjudged i hmine
  change z = _ at hz
  cases hpin : pinLowAt ticks e with
  | false =>
    rw [hpin] at hz
    rw [hz]
    exact ⟨hblank, fun _ => rfl, nofun⟩
  | true =>
    rw [hpin, if_pos rfl] at hz
    rw [hz]
    refine ⟨by rw [judged_blankEnd, hblank], fun hstuck => ?_, fun _ hy hfell => ?_⟩
    · obtain ⟨hy, hnone⟩ := hstuck.resolve_left (not_not.2 rfl)
      rw [hnone]
      exact judged_stuck (hnoted.trans hy) ..
    · obtain ⟨n, hn⟩ := Option.ne_none_iff_exists'.1 hfell
      obtain ⟨hl, hc⟩ := judged_clean (hnoted.trans hy) learned checks n
      obtain ⟨hcleared, hcounted⟩ := cleanPulse_latch x
      rw [hn, hl, hc]
      rw [hlatch, hnow, hframes] at hcleared hcounted
      exact ⟨hcleared, hcounted⟩

theorem darkStart_input {q : PortSt} {y : InputSt} (type : Nat) (r : InputRead) (hblank : y.blank = false)
    (huf1 : q.uf1Missing = false) : (y.darkStart type q.uf1Missing r).noted = sampleOf type y.rawNow r := by
  unfold InputSt.darkStart
  rw [huf1, hblank]
  rfl

/-- Settles O53: each row changes its port by one operation, and the laws above say what that makes of its inputs, its sources and
what it reports. -/
theorem portInputs : Obligations.PortInputs := by
  intro s p k i x read reads ticks cyc sample full q y g n type mine leaves sampled record st seen noted dark owner
  have row {a : Instr} {f : PortSt → PortSt} {P : PortSt → Prop} (ha : exec a s = .next (updPort p.val f s))
      (h : P (f q)) : leaves a P := ⟨_, ha, by dsimp only; rw [getElem_updPort]; exact h⟩
  clear_value leaves
  have hends : q.endTick (k.val + 1) ticks = dark := endTick_eq (k.val + 1) ticks q
  have hsteady (h : sampled) : Steady q i read x := by
    obtain ⟨hsampling, hused, hskip, hblank, huf1, hlatch, hpair, hroom, hnone, hreads⟩ := h
    exact ⟨hsampling, hused, hskip, hblank, huf1, hlatch, hpair, hroom, hnone, hreads⟩
  refine ⟨fun h hset hacc hraw hrun hback => row rfl (feed_accepts (hsteady h) cyc sample hset hacc hraw hrun hback),
    fun h hset hage => row rfl ?_, fun h => row rfl ?_, fun h hshort hon hmute => row rfl ?_,
    fun h hon hnone hmax => ⟨fun hw => row rfl ?_, fun hw => row rfl (darkStart_outside reads hw)⟩,
    fun _ h => row rfl (darkEnd_waits (hends.trans h)), fun e hg hmute h => row rfl ?_,
    fun e hend h => row rfl ⟨?_, rfl⟩, fun e hend h => row rfl ?_,
    fun h hon hlit hmute howner => row rfl ?_, fun h hon hlit => row rfl ?_, fun hlearning hlen hmute => row rfl ?_⟩
  · obtain ⟨⟨hacc, hset⟩, hedges⟩ := feed_settles (hsteady h) cyc sample hset hage
    exact ⟨hacc, hset, hedges⟩
  · rw [(frameStart_keeps h full).1, Vector.getElem_map]
    exact ⟨rfl, rfl, rfl⟩
  · rw [(frameStart_keeps h full).2 k, hmute]
    exact retried_shorted hshort hon ..
  · rw [darkStart_opens reads h hon hnone hmax hw]
    dsimp only
    rw [Vector.getElem_setIfInBounds_self k.isLt, Vector.getElem_mapIdx]
    refine ⟨rfl, rfl, fun hm => ?_, fun hm => if_neg hm⟩
    rw [if_pos hm]
    exact ⟨rfl, fun hblank huf1 => darkStart_input _ _ hblank huf1⟩
  · have hpin : pinLowAt ticks e = true ↔ ((ticks[e]?).map DarkTick.pinMilliVolts).getD 0 < 5000 := decide_eq_true_iff
    have hdecay : q.decayIn ticks e i.val = firstDark 0 ((seen i.val).take (e + 1)) := decayIn_eq ticks e q i.val
    have hinput (hm : mine) := darkEnd_input hg hmute (hends.trans h) hm
    simp only [hpin, hdecay] at hinput
    obtain ⟨hblank, hverdict⟩ := imp_and.1 hinput
    obtain ⟨hlatched, hclean⟩ := imp_and.1 hverdict
    exact ⟨(darkEnd_judges hg hmute (hends.trans h)).1, hblank, hlatched, hclean⟩
  · unfold PortSt.blankEnd
    dsimp only
    rw [getElem_updVec _ _ _ i.isLt, if_pos rfl]
    exact blankOver_after hend h
  · unfold PortSt.blankEnd
    rw [updVec_of_fixed _ _ i.isLt (blankOver_before hend h)]
  · rw [crossShort_reports h hon hlit hmute howner]
    rfl
  · obtain ⟨hoff, hshort, hlatched⟩ := sourceShort_latches h hon hlit
    exact ⟨hoff, hshort, hlatched i⟩
  · rw [learned_reports hlearning hlen hmute]
    refine ⟨?_, ?_⟩
    · show (q.setInput i.val _).inputs[i.val].learning = false
      rw [setInput_getElem]
    · show q.diagq ++ _ = q.diagq ++ _
      split <;> rfl

end Sys2Proof.Machine
end
